-- ==== Sys2Proof/Word.lean ====
section
/-! DEFINITION. The words of the block: the command and response word of R425, and the byte of host memory (R7). -/

namespace Sys2Proof

/-- A 32-bit command, response, register or record word (R425, R8, R474). -/
abbrev Word := BitVec 32

/-- One byte of host memory, MRAM or a frame (R6, R7). -/
abbrev Byte := BitVec 8

end Sys2Proof
end

