-- ==== Sys2Proof/Basic.lean ====
section
/-! DEFINITION. The fixed sets of names that commands and state share: command sources, hubs, status codes, channel types and
event severities. -/

namespace Sys2Proof

/-- Who issues a command: the primary function, the maintenance function or the SMBus sideband (R419, R445, R451). -/
inductive Source where
  | pf0
  | pf1
  | sideband
deriving DecidableEq, Repr

/-- The two hubs of the stage (R58, R82). -/
inductive Hub where
  | a
  | b
deriving DecidableEq, Repr

/-- The status codes of R16 and R435. -/
inductive Status where
  | ok
  | accepted
  | busy
  | badOpcode
  | badArg
  | staleHandle
  | noResource
  | denied
  | notReady
  | conflict
  | timeout
  | aborted
  | deferred
deriving DecidableEq, Repr

/-- The channel types of R12. -/
inductive ChanType where
  | expressGroup
  | tributary
  | flowBinding
  | meter
  | queuePair
  | parseGraph
  | ruleSet
  | sensor
  | peerKey
  | tsPort
  | mcastGroup
  | larderPool
deriving DecidableEq, Repr

/-- The severities of R18, most severe first. -/
inductive Severity where
  | critical
  | major
  | minor
  | info
  | trace
deriving DecidableEq, Repr

/-- The records of the configuration store (R550), by what they hold. -/
inductive StoreItem where
  | join
  | asym
  | report
  | tx
  | membership
  | group (index : Nat)
  | tributary (index : Nat)
  | pages
  | port (number : Nat)
  | slowPath
  | voq (index : Nat)
  | keyPolicy
  | time
  | ptm
  | destination (index : Nat)
  | sensing
  | sensor (index : Nat)
  | power
deriving DecidableEq, Repr

/-- The records of MRAM outside the boot record, the images and the configuration store, in which a word can be uncorrectable (R550); a
copy is the first or the second of two. -/
inductive MramWord where
  | rollback (second : Bool)
  | sequence (second : Bool)
  | disableMark
  | blackBox (entry : Nat)
  | bootCount
  | powerCounter (index : Nat)
  | failure (x : Nat)
  | tileFailure (tile : Nat)
  /-- The checkpoint of a transmitter in the newer copy, or in both. -/
  | trims (x : Nat) (both : Bool)
deriving DecidableEq, Repr

end Sys2Proof
end

