-- ==== Sys2Proof/Machine/Tab.lean ====
section
/-! DEFINITION. Sparse arrays: a list of (index, value) pairs in one canonical form, its indices strictly rising and no value
equal to what an unlisted index reads as. Byte memory is the case whose values are bytes (Host.Cell). -/

namespace Sys2Proof.Machine

/-- A sparse array indexed by numbers. -/
abbrev Tab (α : Type) := List (Nat × α)

/-- The value at index `k`; `d` where the table lists none. Assumption 3. -/
def tabGet {α : Type} (d : α) : Tab α → Nat → α
  | [], _ => d
  | (j, v) :: t, k => if j = k then v else tabGet d t k

/-- Places `v` at index `k`, keeping the indices rising. -/
def tabPut {α : Type} : Tab α → Nat → α → Tab α
  | [], k, v => [(k, v)]
  | (j, u) :: t, k, v =>
    if k < j then (k, v) :: (j, u) :: t
    else if k = j then (k, v) :: t
    else (j, u) :: tabPut t k v

/-- Removes the entry at index `k`. -/
def tabErase {α : Type} : Tab α → Nat → Tab α
  | [], _ => []
  | (j, u) :: t, k => if j = k then t else (j, u) :: tabErase t k

/-- Writes `v` at index `k`, keeping the canonical form: writing what an unlisted index reads as removes the entry. -/
def tabSet {α : Type} [DecidableEq α] (d : α) (t : Tab α) (k : Nat) (v : α) : Tab α :=
  if v = d then tabErase t k else tabPut t k v

/-- Rewrites the value at index `k`. -/
def tabMod {α : Type} [DecidableEq α] (d : α) (t : Tab α) (k : Nat) (f : α → α) : Tab α :=
  tabSet d t k (f (tabGet d t k))

/-- The indices rise strictly and every one lies above `lo` (when given), and no value is the default. -/
def tabWfFrom {α : Type} [DecidableEq α] (d : α) : Option Nat → Tab α → Bool
  | _, [] => true
  | lo, (j, v) :: t =>
    (match lo with
      | none => true
      | some l => decide (l < j)) && decide (v ≠ d) && tabWfFrom d (some j) t

/-- The canonical form. -/
def tabWf {α : Type} [DecidableEq α] (d : α) (t : Tab α) : Bool := tabWfFrom d none t

/-- Writes the values `vs` at the indices `k, k + 1, …`. -/
def tabSetList {α : Type} [DecidableEq α] (d : α) : Tab α → Nat → List α → Tab α
  | t, _, [] => t
  | t, k, v :: vs => tabSetList d (tabSet d t k v) (k + 1) vs

/-- The `n` values from index `k` on. -/
def tabGetList {α : Type} (d : α) (t : Tab α) (k : Nat) : Nat → List α
  | 0 => []
  | n + 1 => tabGet d t k :: tabGetList d t (k + 1) n

/-- Rewrites every listed value; `f` leaves the default as it is. -/
def tabMap {α : Type} [DecidableEq α] (d : α) (f : Nat → α → α) (t : Tab α) : Tab α :=
  (t.map (fun e => (e.1, f e.1 e.2))).filter (fun e => decide (e.2 ≠ d))

/-- Keeps the entries whose index satisfies `p`. -/
def tabKeep {α : Type} (p : Nat → Bool) (t : Tab α) : Tab α := t.filter (fun e => p e.1)

/-- Byte memory: host memory and MRAM regions. A byte that nothing has written reads 0 (assumption 3). -/
abbrev Memory := Tab Byte

/-- Reads one byte. Assumption 3. -/
def memRead (m : Memory) (a : Nat) : Byte := tabGet 0 m a

/-- Writes bytes at rising addresses. -/
def memWrite (m : Memory) (a : Nat) (bs : List Byte) : Memory := tabSetList 0 m a bs

/-- The canonical form of byte memory. Assumption 3. -/
def Memory.wf (m : Memory) : Bool := tabWf (0 : Byte) m

end Sys2Proof.Machine
end

