-- ==== Sys2Proof/Frames.lean ====
section
/-! DEFINITION. What the outside supplies with an event: received frames, messages, bursts and measured outcomes. -/

namespace Sys2Proof

/-- The light of one cue lane in the 1,792 cc that end at its evaluation point (R88, R97, R98). -/
structure CueSlot where
  hub : Hub
  plane : Nat
  /-- Mean optical power, in hundredths of a dBm (R98). -/
  power : Int
  /-- The line bits, the first the most significant. -/
  line : BitVec 57344
  /-- The recovered frequency shows modulation deeper than 1 ppm (R87). -/
  modulated : Bool
  /-- Wavelength error in units of 20 MHz (R199). -/
  wlErr : Int
  /-- Receive slot reference: whole cycles after the aligned slot start, and line bits beyond (R62, R398). -/
  refCycle : Int
  refBits : Nat
deriving DecidableEq, Repr

/-- One cue frame as its lane reads it (R88 to R93). -/
structure CueFrame where
  hub : Hub
  plane : Nat
  /-- Bits in which the first 64 bits differ from the FAW. -/
  fawErrors : Nat
  /-- The BCH decode of the cue header succeeded. -/
  headerOk : Bool
  /-- The 272 field bits of the decoded cue header, bit 0 of the header the most significant (R90). -/
  header : Nat
  /-- The ten RS codewords that decoded, by their numbers. -/
  decoded : List Nat
  /-- The information area as one number, byte 0 first (R92). -/
  info : Nat
  wlErr : Int
  refCycle : Int
  refBits : Nat
deriving DecidableEq, Repr

/-- What one lane of a client port in circuit mode delivers in a count window (R233, R240). -/
structure ClientFeed where
  /-- The logical lane that the alignment markers name; none without marker lock. -/
  marker : Option Nat
  /-- Bits that have come, and the number that they spell, the first one most significant. -/
  len : Nat
  bits : Nat
deriving DecidableEq, Repr

/-- One stage message that the walk of R94 accepted: the cue lane that carried it, the SFN of its frame, and its fields. -/
structure StageMsg where
  hub : Hub
  plane : Nat
  sfn : Nat
  mode : Nat
  type : Nat
  msgId : Nat
  body : List Byte
deriving DecidableEq, Repr

/-- One payload unit of a PACKET burst (R171). -/
structure PayloadUnit where
  ukind : Nat
  cls : Nat
  frameLen : Nat
  port : Nat
  /-- The frame bytes that the unit carries. -/
  data : List Byte
deriving DecidableEq, Repr

/-- What follows the header of a burst (R79, R80). -/
inductive Payload where
  /-- All zeros (R170). -/
  | idle
  /-- The flags CI, CO and RP, fill, and the payload units in order; a report unit has ukind 5 (R171, R172). -/
  | packet (ci co rp : Bool) (fill : Nat) (units : List PayloadUnit)
  /-- One report unit (R162), or a curtain-call message (R533). -/
  | report (bytes : List Byte)
  /-- Group, member, PTV with prev_tag, container overhead, and client-area words by their place (R73, R236, R239). -/
  | express (group member : Nat) (ptv : Bool) (prevTag : Nat) (overhead : Nat) (words : Machine.Tab Word)
  /-- The fields of a RANGING answer (R117): kind, round, delay, segment index and total, serial, length of the identity blob, stepping,
  TN, SFN and slot named, and the data. -/
  | ranging (kind round delay segIndex segTotal serial idLen stepping tn sfn slot : Nat) (data : List Byte)
deriving DecidableEq, Repr

/-- The light of one receive lane in a slot (R196 to R199). -/
structure RxLight where
  lane : Nat
  /-- The input level at cycle 24, in hundredths of a dBm (R197). -/
  level : Int
  /-- The line bits from offset 2,512 of the slot on, the first the most significant: as many as the latest window of the delimiter search
  needs (R68). -/
  line : BitVec 54880
  /-- The phase that the CDR has found, in sixteenths of a line bit (R199). -/
  phase : Int
  /-- Wavelength error in units of 20 MHz (R199). -/
  wlErr : Int
  /-- Cycles in the tile's forwarded-clock store (R246). -/
  depth : Nat
deriving DecidableEq, Repr

/-- One burst as a lane reads it (R197 to R199). -/
structure RxBurst where
  lane : Nat
  /-- The input level at cycle 24 is below the loss threshold. -/
  dark : Bool
  /-- A delimiter window qualifies (R68). -/
  delimiter : Bool
  /-- The BCH decode of the header succeeds. -/
  decodeOk : Bool
  /-- The 272 field bits of the decoded header, bit 0 the most significant (R70). -/
  header : Nat
  /-- Header bits corrected, and whether one lies among header bits 0 to 47 (R203). -/
  corr : Nat
  early : Bool
  /-- The 54,400 descrambled payload bits, the first the most significant. -/
  bits : Nat
  /-- Wavelength error in units of 20 MHz and arrival offset in sixteenths of a line bit (R199). -/
  wlErr : Int
  arrival : Int
  /-- Cycles in the tile's forwarded-clock store (R246). -/
  depth : Nat
deriving DecidableEq, Repr

/-- One burst as the terminal launches it (R65, R70). -/
structure Burst where
  type : Nat
  /-- U = 1: the sender has no TN. -/
  noTn : Bool
  tn : Nat
  x : Nat
  wave : Nat
  mcast : Bool
  dest : Nat
  keyEpoch : Nat
  /-- The burst sequence value; the header carries its low 48 bits (R356). -/
  seq : Nat
  /-- Slot index that sfn_low and slot name, and of the scrambler seed. -/
  slot : Nat
  payload : Payload
deriving DecidableEq, Repr

end Sys2Proof
end

