-- ==== Sys2Proof/Syntax.lean ====
section
/-! DEFINITION. The commands of the block: one constructor per row of the spec's table of operations and events. -/

namespace Sys2Proof

/-- One command (R16 to R18 and the table of operations and events). A Zordin command carries its source, its tag and its
request words after the header word (R425); an event carries what the outside supplies with it. -/
inductive Instr where
  /-- IDENTITY, R451. -/
  | identity (src : Source) (tag : Nat) (req : List Word)
  /-- ECHO, R451. -/
  | echo (src : Source) (tag : Nat) (req : List Word)
  /-- HANDLE_INFO, R451. -/
  | handleInfo (src : Source) (tag : Nat) (req : List Word)
  /-- HANDLE_LIST, R451. -/
  | handleList (src : Source) (tag : Nat) (req : List Word)
  /-- SCHED_STATUS, R450. -/
  | schedStatus (src : Source) (tag : Nat) (req : List Word)
  /-- FUNC_STATUS, R451. -/
  | funcStatus (src : Source) (tag : Nat) (req : List Word)
  /-- JOIN_CONFIG, R141. -/
  | joinConfig (src : Source) (tag : Nat) (req : List Word)
  /-- JOIN_START, R129. -/
  | joinStart (src : Source) (tag : Nat) (req : List Word)
  /-- JOIN_STATUS, R140. -/
  | joinStatus (src : Source) (tag : Nat) (req : List Word)
  /-- ASYM_SET, R112. -/
  | asymSet (src : Source) (tag : Nat) (req : List Word)
  /-- PLANE_HOLD, R130. -/
  | planeHold (src : Source) (tag : Nat) (req : List Word)
  /-- JOIN_LEAVE, R129. -/
  | joinLeave (src : Source) (tag : Nat) (req : List Word)
  /-- OWNERSHIP_STATUS, R140. -/
  | ownershipStatus (src : Source) (tag : Nat) (req : List Word)
  /-- JOIN_COUNTERS, R581. -/
  | joinCounters (src : Source) (tag : Nat) (req : List Word)
  /-- GRANT_VIEW, R166. -/
  | grantView (src : Source) (tag : Nat) (req : List Word)
  /-- STANDING_READ, R166. -/
  | standingRead (src : Source) (tag : Nat) (req : List Word)
  /-- REPORT_CONFIG, R162. -/
  | reportConfig (src : Source) (tag : Nat) (req : List Word)
  /-- GRANT_COUNTERS, R165. -/
  | grantCounters (src : Source) (tag : Nat) (req : List Word)
  /-- TX_STATUS, R194. -/
  | txStatus (src : Source) (tag : Nat) (req : List Word)
  /-- TX_SERVICE, R189. -/
  | txService (src : Source) (tag : Nat) (req : List Word)
  /-- TX_COUNTERS, R193. -/
  | txCounters (src : Source) (tag : Nat) (req : List Word)
  /-- TUNE_TABLE_READ, R194. -/
  | tuneTableRead (src : Source) (tag : Nat) (req : List Word)
  /-- TX_CONFIG, R195. -/
  | txConfig (src : Source) (tag : Nat) (req : List Word)
  /-- TRIM_RESET, R195. -/
  | trimReset (src : Source) (tag : Nat) (req : List Word)
  /-- RX_LANE_STATUS, R225. -/
  | rxLaneStatus (src : Source) (tag : Nat) (req : List Word)
  /-- RX_COUNTERS, R222. -/
  | rxCounters (src : Source) (tag : Nat) (req : List Word)
  /-- RX_SENDER_STATS, R220. -/
  | rxSenderStats (src : Source) (tag : Nat) (req : List Word)
  /-- RX_MEMBERSHIP, R214. -/
  | rxMembership (src : Source) (tag : Nat) (req : List Word)
  /-- RX_LEDGER_TAP, R226. -/
  | rxLedgerTap (src : Source) (tag : Nat) (req : List Word)
  /-- RX_CUE_COUNTERS, R103. -/
  | rxCueCounters (src : Source) (tag : Nat) (req : List Word)
  /-- GROUP_CREATE, R263. -/
  | groupCreate (src : Source) (tag : Nat) (req : List Word)
  /-- GROUP_DESTROY, R263. -/
  | groupDestroy (src : Source) (tag : Nat) (req : List Word)
  /-- GROUP_STATUS, R262. -/
  | groupStatus (src : Source) (tag : Nat) (req : List Word)
  /-- GROUP_RESIZE, R253. -/
  | groupResize (src : Source) (tag : Nat) (req : List Word)
  /-- PAIR_CREATE, R256. -/
  | pairCreate (src : Source) (tag : Nat) (req : List Word)
  /-- PAIR_DESTROY, R263. -/
  | pairDestroy (src : Source) (tag : Nat) (req : List Word)
  /-- PROTECT_REQUEST, R257. -/
  | protectRequest (src : Source) (tag : Nat) (req : List Word)
  /-- GROUP_COUNTERS, R261. -/
  | groupCounters (src : Source) (tag : Nat) (req : List Word)
  /-- LANE_PLACEMENT_READ, R232. -/
  | lanePlacementRead (src : Source) (tag : Nat) (req : List Word)
  /-- TRIB_GROUP_CREATE, R282. -/
  | tribGroupCreate (src : Source) (tag : Nat) (req : List Word)
  /-- TRIB_CREATE, R282. -/
  | tribCreate (src : Source) (tag : Nat) (req : List Word)
  /-- TRIB_DESTROY, R282. -/
  | tribDestroy (src : Source) (tag : Nat) (req : List Word)
  /-- WINGS_WRITE, R272. -/
  | wingsWrite (src : Source) (tag : Nat) (req : List Word)
  /-- PAGE_READ, R281. -/
  | pageRead (src : Source) (tag : Nat) (req : List Word)
  /-- WINGS_COPY, R277. -/
  | wingsCopy (src : Source) (tag : Nat) (req : List Word)
  /-- PAGE_SWAP, R275. -/
  | pageSwap (src : Source) (tag : Nat) (req : List Word)
  /-- PORT_CONFIG, R287. -/
  | portConfig (src : Source) (tag : Nat) (req : List Word)
  /-- PORT_STATUS, R320. -/
  | portStatus (src : Source) (tag : Nat) (req : List Word)
  /-- PORT_COUNTERS, R319. -/
  | portCounters (src : Source) (tag : Nat) (req : List Word)
  /-- GRAPH_CREATE, R321. -/
  | graphCreate (src : Source) (tag : Nat) (req : List Word)
  /-- NODE_WRITE, R297. -/
  | nodeWrite (src : Source) (tag : Nat) (req : List Word)
  /-- RULESET_CREATE, R321. -/
  | rulesetCreate (src : Source) (tag : Nat) (req : List Word)
  /-- RULE_WRITE, R300. -/
  | ruleWrite (src : Source) (tag : Nat) (req : List Word)
  /-- RULESET_PARAM, R320. -/
  | rulesetParam (src : Source) (tag : Nat) (req : List Word)
  /-- CLASSIFY_ACTIVATE, R316. -/
  | classifyActivate (src : Source) (tag : Nat) (req : List Word)
  /-- CLASSIFY_DESTROY, R318. -/
  | classifyDestroy (src : Source) (tag : Nat) (req : List Word)
  /-- FIB_INSERT, R305. -/
  | fibInsert (src : Source) (tag : Nat) (req : List Word)
  /-- FIB_DELETE, R321. -/
  | fibDelete (src : Source) (tag : Nat) (req : List Word)
  /-- FIB_READ, R320. -/
  | fibRead (src : Source) (tag : Nat) (req : List Word)
  /-- INDIRECTION_WRITE, R310. -/
  | indirectionWrite (src : Source) (tag : Nat) (req : List Word)
  /-- SLOW_PATH_CONFIG, R315. -/
  | slowPathConfig (src : Source) (tag : Nat) (req : List Word)
  /-- CLASSIFY_COUNTERS, R319. -/
  | classifyCounters (src : Source) (tag : Nat) (req : List Word)
  /-- FLOW_BIND_CREATE, R312. -/
  | flowBindCreate (src : Source) (tag : Nat) (req : List Word)
  /-- FLOW_BIND_DESTROY, R312. -/
  | flowBindDestroy (src : Source) (tag : Nat) (req : List Word)
  /-- FLOW_BIND_STATUS, R313. -/
  | flowBindStatus (src : Source) (tag : Nat) (req : List Word)
  /-- VOQ_CONFIG, R326. -/
  | voqConfig (src : Source) (tag : Nat) (req : List Word)
  /-- VOQ_STATUS, R349. -/
  | voqStatus (src : Source) (tag : Nat) (req : List Word)
  /-- METER_CREATE, R330. -/
  | meterCreate (src : Source) (tag : Nat) (req : List Word)
  /-- METER_DESTROY, R350. -/
  | meterDestroy (src : Source) (tag : Nat) (req : List Word)
  /-- SHAPER_ATTACH, R331. -/
  | shaperAttach (src : Source) (tag : Nat) (req : List Word)
  /-- EGRESS_CONFIG, R332. -/
  | egressConfig (src : Source) (tag : Nat) (req : List Word)
  /-- MCAST_CREATE, R335. -/
  | mcastCreate (src : Source) (tag : Nat) (req : List Word)
  /-- MCAST_PORTS, R335. -/
  | mcastPorts (src : Source) (tag : Nat) (req : List Word)
  /-- MCAST_DESTROY, R335. -/
  | mcastDestroy (src : Source) (tag : Nat) (req : List Word)
  /-- POOL_CREATE, R336. -/
  | poolCreate (src : Source) (tag : Nat) (req : List Word)
  /-- POOL_DESTROY, R350. -/
  | poolDestroy (src : Source) (tag : Nat) (req : List Word)
  /-- POOL_STATUS, R349. -/
  | poolStatus (src : Source) (tag : Nat) (req : List Word)
  /-- BUF_ALLOC, R339. -/
  | bufAlloc (src : Source) (tag : Nat) (req : List Word)
  /-- BUF_FREE, R350. -/
  | bufFree (src : Source) (tag : Nat) (req : List Word)
  /-- QUEUE_COUNTERS, R348. -/
  | queueCounters (src : Source) (tag : Nat) (req : List Word)
  /-- PEER_KEY_CREATE, R375. -/
  | peerKeyCreate (src : Source) (tag : Nat) (req : List Word)
  /-- PEER_KEY_DESTROY, R375. -/
  | peerKeyDestroy (src : Source) (tag : Nat) (req : List Word)
  /-- PEER_KEY_STATUS, R390. -/
  | peerKeyStatus (src : Source) (tag : Nat) (req : List Word)
  /-- KEY_ROLL, R375. -/
  | keyRoll (src : Source) (tag : Nat) (req : List Word)
  /-- KEY_POLICY, R365. -/
  | keyPolicy (src : Source) (tag : Nat) (req : List Word)
  /-- SEQ_STATUS, R390. -/
  | seqStatus (src : Source) (tag : Nat) (req : List Word)
  /-- IDENTITY_READ, R390. -/
  | identityRead (src : Source) (tag : Nat) (req : List Word)
  /-- ENTROPY_STATUS, R390. -/
  | entropyStatus (src : Source) (tag : Nat) (req : List Word)
  /-- GATE_STATUS, R390. -/
  | gateStatus (src : Source) (tag : Nat) (req : List Word)
  /-- SEC_COUNTERS, R389. -/
  | secCounters (src : Source) (tag : Nat) (req : List Word)
  /-- TIME_CONFIG, R403. -/
  | timeConfig (src : Source) (tag : Nat) (req : List Word)
  /-- TIME_STATUS, R416. -/
  | timeStatus (src : Source) (tag : Nat) (req : List Word)
  /-- TIME_READ, R416. -/
  | timeRead (src : Source) (tag : Nat) (req : List Word)
  /-- TS_PORT_CREATE, R406. -/
  | tsPortCreate (src : Source) (tag : Nat) (req : List Word)
  /-- TS_PORT_DESTROY, R417. -/
  | tsPortDestroy (src : Source) (tag : Nat) (req : List Word)
  /-- PTM_CONFIG, R414. -/
  | ptmConfig (src : Source) (tag : Nat) (req : List Word)
  /-- PTM_READ, R414. -/
  | ptmRead (src : Source) (tag : Nat) (req : List Word)
  /-- PPS_IN_READ, R413. -/
  | ppsInRead (src : Source) (tag : Nat) (req : List Word)
  /-- QP_CREATE, R453. -/
  | qpCreate (src : Source) (tag : Nat) (req : List Word)
  /-- QP_DESTROY, R471. -/
  | qpDestroy (src : Source) (tag : Nat) (req : List Word)
  /-- QP_START, R466. -/
  | qpStart (src : Source) (tag : Nat) (req : List Word)
  /-- QP_STOP, R466. -/
  | qpStop (src : Source) (tag : Nat) (req : List Word)
  /-- QP_STATUS, R470. -/
  | qpStatus (src : Source) (tag : Nat) (req : List Word)
  /-- QP_SCHED, R458. -/
  | qpSched (src : Source) (tag : Nat) (req : List Word)
  /-- SLOWPATH_MAP, R464. -/
  | slowpathMap (src : Source) (tag : Nat) (req : List Word)
  /-- WATCH_SET, R464. -/
  | watchSet (src : Source) (tag : Nat) (req : List Word)
  /-- QP_COUNTERS, R469. -/
  | qpCounters (src : Source) (tag : Nat) (req : List Word)
  /-- EVT_CONFIG, R489. -/
  | evtConfig (src : Source) (tag : Nat) (req : List Word)
  /-- ALARM_READ, R475. -/
  | alarmRead (src : Source) (tag : Nat) (req : List Word)
  /-- ALARM_SUMMARY, R488. -/
  | alarmSummary (src : Source) (tag : Nat) (req : List Word)
  /-- EVT_COUNTERS, R487. -/
  | evtCounters (src : Source) (tag : Nat) (req : List Word)
  /-- BLACKBOX_READ, R480. -/
  | blackboxRead (src : Source) (tag : Nat) (req : List Word)
  /-- BLACKBOX_CLEAR, R489. -/
  | blackboxClear (src : Source) (tag : Nat) (req : List Word)
  /-- EVT_TEST, R489. -/
  | evtTest (src : Source) (tag : Nat) (req : List Word)
  /-- SENSE_CONFIG, R495. -/
  | senseConfig (src : Source) (tag : Nat) (req : List Word)
  /-- SENSE_LATEST, R511. -/
  | senseLatest (src : Source) (tag : Nat) (req : List Word)
  /-- SENSOR_CREATE, R506. -/
  | sensorCreate (src : Source) (tag : Nat) (req : List Word)
  /-- SENSOR_DESTROY, R512. -/
  | sensorDestroy (src : Source) (tag : Nat) (req : List Word)
  /-- SENSE_READ, R506. -/
  | senseRead (src : Source) (tag : Nat) (req : List Word)
  /-- COEF_WRITE, R501. -/
  | coefWrite (src : Source) (tag : Nat) (req : List Word)
  /-- COEF_READ, R511. -/
  | coefRead (src : Source) (tag : Nat) (req : List Word)
  /-- COEF_SWAP, R501. -/
  | coefSwap (src : Source) (tag : Nat) (req : List Word)
  /-- SH_STATUS, R511. -/
  | shStatus (src : Source) (tag : Nat) (req : List Word)
  /-- SENSE_COUNTERS, R510. -/
  | senseCounters (src : Source) (tag : Nat) (req : List Word)
  /-- POWER_STATE, R514. -/
  | powerState (src : Source) (tag : Nat) (req : List Word)
  /-- POWER_STATUS, R537. -/
  | powerStatus (src : Source) (tag : Nat) (req : List Word)
  /-- PAD_RELEASE, R517. -/
  | padRelease (src : Source) (tag : Nat) (req : List Word)
  /-- GATE_REQUEST, R519. -/
  | gateRequest (src : Source) (tag : Nat) (req : List Word)
  /-- THERMAL_STATUS, R537. -/
  | thermalStatus (src : Source) (tag : Nat) (req : List Word)
  /-- THERMAL_CONFIG, R522. -/
  | thermalConfig (src : Source) (tag : Nat) (req : List Word)
  /-- STORE_CONFIG, R526. -/
  | storeConfig (src : Source) (tag : Nat) (req : List Word)
  /-- STORE_STATUS, R537. -/
  | storeStatus (src : Source) (tag : Nat) (req : List Word)
  /-- POWER_COUNTERS, R536. -/
  | powerCounters (src : Source) (tag : Nat) (req : List Word)
  /-- RESET, R553. -/
  | reset (src : Source) (tag : Nat) (req : List Word)
  /-- FW_STATUS, R552. -/
  | fwStatus (src : Source) (tag : Nat) (req : List Word)
  /-- FW_WRITE, R553. -/
  | fwWrite (src : Source) (tag : Nat) (req : List Word)
  /-- FW_VERIFY, R553. -/
  | fwVerify (src : Source) (tag : Nat) (req : List Word)
  /-- FW_VERIFY_DONE, R553. -/
  | fwVerifyDone (signatureOk : Bool)
  /-- FW_ACTIVATE, R553. -/
  | fwActivate (src : Source) (tag : Nat) (req : List Word)
  /-- FW_COMMIT, R553. -/
  | fwCommit (src : Source) (tag : Nat) (req : List Word)
  /-- ARB_RAISE, R553. -/
  | arbRaise (src : Source) (tag : Nat) (req : List Word)
  /-- MBOX_ENABLE, R424. -/
  | mboxEnable (func : Nat)
  /-- MBOX_DISABLE, R434. -/
  | mboxDisable (func : Nat)
  /-- MBOX_CMD_PI, R426. -/
  | mboxCmdPi (func : Nat) (value : Word)
  /-- COMMAND_TAKE, R426. -/
  | commandTake (src : Source) (slot : List Word)
  /-- MBOX_RSP_CI, R424. -/
  | mboxRspCi (func : Nat) (value : Word)
  /-- MBOX_NTF_CI, R424. -/
  | mboxNtfCi (func : Nat) (value : Word)
  /-- RESPONSE_WRITE, R429. -/
  | responseWrite (src : Source)
  /-- NOTIFICATION_WRITE, R432. -/
  | notificationWrite (func : Nat)
  /-- DMA_ERROR, R433. -/
  | dmaError (func : Nat) (pair : Option Nat)
  /-- REGISTER_WRITE, R8. -/
  | registerWrite (func : Nat) (offset : Nat) (value : Word)
  /-- TIME_CAPTURE, R395. -/
  | timeCapture (func : Nat)
  /-- TIME_TSQ_HI_READ, R410. -/
  | timeTsqHiRead
  /-- TSQ_OVF_CLEAR, R410. -/
  | tsqOvfClear
  /-- ALM_STATE_READ, R475. -/
  | almStateRead (func : Nat) (source : Nat)
  /-- HQ_TX_PI, R458. -/
  | hqTxPi (func : Nat) (pair : Nat) (value : Word)
  /-- HQ_RX_PI, R465. -/
  | hqRxPi (func : Nat) (pair : Nat) (value : Word)
  /-- HQ_CQ_CI, R463. -/
  | hqCqCi (func : Nat) (pair : Nat) (value : Word)
  /-- SB_REQ, R442. -/
  | sbReq (pec : Option Byte) (bytes : List Byte)
  /-- SB_RSP, R441. -/
  | sbRsp
  /-- SB_STATUS, R441. -/
  | sbStatus
  /-- SB_NTF, R444. -/
  | sbNtf
  /-- SMBUS_ADDRESS_MATCH, R492. -/
  | smbusAddressMatch (address : Nat)
  /-- FIREWALL_ACCESS, R384. -/
  | firewallAccess (secure : Bool) (initiator : Nat) (write : Bool) (bar : Bool) (addr : Nat) (len : Nat)
  /-- FW_RULE_WRITE, R385. -/
  | fwRuleWrite (rule : Nat) (base : Word) (limit : Word) (flags : Word)
  /-- FIREWALL_DRAIN, R385. -/
  | firewallDrain (completed : Nat)
  /-- GATE_RELEASE, R382. -/
  | gateRelease (gate : Nat)
  /-- DEBUG_AUTHORISATION, R380. -/
  | debugAuthorisation (serial : Nat) (signatureOk : Bool)
  /-- POWER_ON_RESET, R541. -/
  | powerOnReset
  /-- RESET_N, R47. -/
  | resetN
  /-- WARM_RESET, R542. -/
  | warmReset
  /-- WATCHDOG_RESET, R541. -/
  | watchdogReset (core : Nat)
  /-- BROWN_OUT_RESET, R493. -/
  | brownOutReset
  /-- PERST_N, R38. -/
  | perstN (high : Bool)
  /-- FLR, R420. -/
  | flr (func : Nat)
  /-- WAKE_N, R48. -/
  | wakeN
  /-- STRAP_SAMPLE, R51. -/
  | strapSample (reads : List (Nat × Bool))
  /-- CREF_LOSS, R37. -/
  | crefLoss
  /-- CREF_RETURN, R37. -/
  | crefReturn
  /-- PPS_IN_EDGE, R413. -/
  | ppsInEdge (highNs : Nat)
  /-- PPS_OUT_PULSE, R412. -/
  | ppsOutPulse
  /-- PPS_OUT_FALL, R412. -/
  | ppsOutFall
  /-- UART_CHARACTER, R507. -/
  | uartCharacter (samples : List Bool)
  /-- VIN_GOOD, R514. -/
  | vinGood
  /-- VIN_FAIL, R529. -/
  | vinFail
  /-- PWRFAIL_N, R46. -/
  | pwrfailN
  /-- AUX_LOSS, R529. -/
  | auxLoss
  /-- ISLAND_WAIT, R492. -/
  | islandWait
  /-- ISLAND_WAKE, R492. -/
  | islandWake
  /-- CORE_WAIT, R515. -/
  | coreWait (core : Nat)
  /-- CORE_POWER_OFF, R515. -/
  | corePowerOff
  /-- POWER_DEFERRED, R515. -/
  | powerDeferred
  /-- POWER_TRANSITION_DONE, R514. -/
  | powerTransitionDone
  /-- ISLAND_TIMER_WAKE, R516. -/
  | islandTimerWake
  /-- IMAGE_CHOICE, R547. -/
  | imageChoice (sigA : Bool) (sigB : Bool) (badA : Bool) (badB : Bool)
  /-- STRONGROOM_VERIFY, R386. -/
  | strongroomVerify (ok : Bool)
  /-- ZORDIN_RUNNING, R543. -/
  | zordinRunning (corrected : Nat) (lost : List StoreItem) (bad : List MramWord)
  /-- SYNC_REF_ABSENT, R544. -/
  | syncRefAbsent
  /-- HBM_TRAINING, R545. -/
  | hbmTraining (stack : Nat) (trained : Bool)
  /-- SYNC_LOCK, R83. -/
  | syncLock
  /-- ROOT_TRANSFER_DONE, R83. -/
  | rootTransferDone
  /-- ROOT_HOLDOVER, R83. -/
  | rootHoldover (syncRef : Bool)
  /-- ROOT_DISPLACE, R82. -/
  | rootDisplace
  /-- CUE_FRAME, R96. -/
  | cueFrame (slot cycle : Nat) (lanes : List CueSlot)
  /-- DISCOVERY_OPEN, R118. -/
  | discoveryOpen (msg : StageMsg)
  /-- DISCOVERY_ACK, R121. -/
  | discoveryAck (msg : StageMsg)
  /-- TN_ASSIGN, R123. -/
  | tnAssign (msg : StageMsg)
  /-- REJECT, R129. -/
  | reject (msg : StageMsg)
  /-- RANGE_WINDOW, R125. -/
  | rangeWindow (msg : StageMsg)
  /-- RANGE_RESULT, R130. -/
  | rangeResult (msg : StageMsg)
  /-- ACTIVATE, R126. -/
  | activate (msg : StageMsg)
  /-- FINE_CORRECT, R127. -/
  | fineCorrect (msg : StageMsg)
  /-- DEREGISTER, R129. -/
  | deregister (msg : StageMsg)
  /-- RESIZE_PREPARE, R253. -/
  | resizePrepare (msg : StageMsg)
  /-- RESIZE_COMMIT, R253. -/
  | resizeCommit (msg : StageMsg)
  /-- RESIZE_CANCEL, R253. -/
  | resizeCancel (msg : StageMsg)
  /-- KEY_SEG, R371. -/
  | keySeg (msg : StageMsg)
  /-- OFFER, R375. -/
  | offer (fromTn : Nat) (recId : Nat)
  /-- ANSWER, R375. -/
  | answer (fromTn : Nat) (recId : Nat)
  /-- HUB_ANSWER, R373. -/
  | hubAnswer (fromTn : Nat) (recId : Nat)
  /-- GROUP_KEY, R376. -/
  | groupKey (fromTn : Nat) (recId : Nat)
  /-- KEY_RECORD_TIMEOUT, R370. -/
  | keyRecordTimeout (fromTn : Nat) (recId : Nat)
  /-- T_CUE, R129. -/
  | tCue
  /-- JOIN_NO_WINDOW, R129. -/
  | joinNoWindow
  /-- DISCOVERY_TIMEOUT, R120. -/
  | discoveryTimeout
  /-- T_ID, R129. -/
  | tId
  /-- REGISTRATION_LOST, R129. -/
  | registrationLost
  /-- REJECT_HOLDOFF, R129. -/
  | rejectHoldoff
  /-- T_LEAVE, R129. -/
  | tLeave
  /-- T_RWIN, R130. -/
  | tRwin (plane : Nat)
  /-- RANGING_TIMEOUT, R130. -/
  | rangingTimeout (plane : Nat)
  /-- T_ACT, R130. -/
  | tAct (plane : Nat)
  /-- T_SKEW, R130. -/
  | tSkew (plane : Nat)
  /-- T_SUSP, R130. -/
  | tSusp (plane : Nat)
  /-- PLANE_ACTIVATION, R126. -/
  | planeActivation (plane : Nat)
  /-- FINE_CORRECT_APPLY, R127. -/
  | fineCorrectApply (plane : Nat)
  /-- PLANE_HOLD_APPLY, R130. -/
  | planeHoldApply (plane : Nat)
  /-- SEQUENCE_RESUME, R360. -/
  | sequenceResume (slot : Nat)
  /-- FREEZE, R153. -/
  | freeze (slot : Nat)
  /-- SEQ_RECORD_COMMIT, R359. -/
  | seqRecordCommit (readBackOk : Bool)
  /-- KEY_EPOCH_ERASE, R364. -/
  | keyEpochErase (key : Nat)
  /-- KEY_ROLL_INTERVAL, R367. -/
  | keyRollInterval (key : Nat)
  /-- T_ANS, R375. -/
  | tAns (assoc : Nat)
  /-- WITHDRAWN_REOFFER, R375. -/
  | withdrawnReoffer (assoc : Nat)
  /-- ENTROPY_FAIL, R379. -/
  | entropyFail
  /-- ENTROPY_RETEST, R379. -/
  | entropyRetest (passed : Bool)
  /-- DRBG_RESEED, R379. -/
  | drbgReseed
  /-- SELECTION_WINDOW, R173. -/
  | selectionWindow (slot : Nat) (plane : Nat)
  /-- SELECTION_CLOSE, R173. -/
  | selectionClose (slot : Nat) (plane : Nat)
  /-- LAUNCH, R157. -/
  | launch (slot : Nat) (plane : Nat)
  /-- TUNE_SEQUENCE, R178. -/
  | tuneSequence (x : Nat) (lockerMHz : Int) (guardHigh : Bool) (powerLow : Bool) (holdMv : Int) (holdMa : Int)
  /-- TILE_LASER_CUT, R183. -/
  | tileLaserCut (x : Nat) (stillHigh : Bool)
  /-- RECALIBRATION, R186. -/
  | recalibration (sfn : Nat)
  /-- DRIFT_SUPERVISION, R184. -/
  | driftSupervision (plane : Nat)
  /-- TRIM_CHECKPOINT, R185. -/
  | trimCheckpoint
  /-- PEDESTAL_SETTLED, R520. -/
  | pedestalSettled (x : Nat)
  /-- PEDESTAL_UNSETTLED, R520. -/
  | pedestalUnsettled (x : Nat)
  /-- LASER_HEATER_FAULT, R520. -/
  | laserHeaterFault (x : Nat)
  /-- DEMUX_SETTLED, R521. -/
  | demuxSettled (plane : Nat)
  /-- DEMUX_UNSETTLED, R521. -/
  | demuxUnsettled (plane : Nat)
  /-- TABLE_LOAD, R189. -/
  | tableLoad (x : Nat) (checkOk : Bool)
  /-- BURST_RECEIVE, R203. -/
  | burstReceive (slot : Nat) (lights : List RxLight)
  /-- PAYLOAD_DECODE, R209. -/
  | payloadDecode (lane : Nat)
  /-- TAG_CHECK, R211. -/
  | tagCheck
  /-- LEDGER_LANDING, R216. -/
  | ledgerLanding (slot : Nat)
  /-- RECONCILER_ENTRY, R217. -/
  | reconcilerEntry (lane : Nat)
  /-- CONTAINER_EVAL, R105. -/
  | containerEval (slot : Nat)
  /-- SD_BLOCK_CLOSE, R245. -/
  | sdBlockClose (group : Nat) (member : Nat)
  /-- HOLD_OFF_EXPIRY, R258. -/
  | holdOffExpiry (group : Nat)
  /-- WTR_EXPIRY, R258. -/
  | wtrExpiry (group : Nat)
  /-- AF_HOLD_EXPIRY, R250. -/
  | afHoldExpiry (group : Nat)
  /-- RATE_CONTROL, R240. -/
  | rateControl (trib : Bool) (index : Nat) (slot : Nat) (lanes : List ClientFeed)
  /-- T_PREP, R253. -/
  | tPrep (group : Nat)
  /-- T_COMMIT, R253. -/
  | tCommit (group : Nat)
  /-- RESIZE_PREPARED, R253. -/
  | resizePrepared (group : Nat)
  /-- RESIZE_SWITCHOVER, R254. -/
  | resizeSwitchover (group : Nat)
  /-- RESIZE_DONE, R253. -/
  | resizeDone (group : Nat)
  /-- PAGE_SWAPPED, R274. -/
  | pageSwapped
  /-- T_TRAIN, R287. -/
  | tTrain (port : Nat)
  /-- TRAINING_COMPLETE, R287. -/
  | trainingComplete (port : Nat)
  /-- LINK_UP, R287. -/
  | linkUp (port : Nat)
  /-- LINK_DOWN, R287. -/
  | linkDown (port : Nat)
  /-- REMOTE_FAULT, R287. -/
  | remoteFault (port : Nat) (rf : Bool) (lf : Bool)
  /-- LANE_LOS, R288. -/
  | laneLos (lane : Nat) (present : Bool)
  /-- CLIENT_FRAME, R289. -/
  | clientFrame (port : Nat) (data : List Byte) (back : Nat)
  /-- PARSE, R295. -/
  | parse (pipeline : Nat)
  /-- EPOCH_DRAIN, R317. -/
  | epochDrain
  /-- EGRESS_FRAME_START, R291. -/
  | egressFrameStart (port : Nat)
  /-- TSQ_PUSH, R409. -/
  | tsqPush (port : Nat)
  /-- LARDER_REFILL, R338. -/
  | larderRefill (pool : Nat)
  /-- LARDER_SPILL, R338. -/
  | larderSpill (pool : Nat)
  /-- LARDER_ALLOC, R339. -/
  | larderAlloc (pool : Nat) (owner : Nat)
  /-- LARDER_FREE, R341. -/
  | larderFree (token : Nat) (owner : Nat)
  /-- LARDER_SHARE, R341. -/
  | larderShare (token : Nat) (add : Nat) (last : Nat)
  /-- HELD_FREE_RESUME, R338. -/
  | heldFreeResume (pool : Nat)
  /-- POOL_STALL, R347. -/
  | poolStall (pool : Nat)
  /-- HBM_RETIRED, R345. -/
  | hbmRetired (stack : Nat)
  /-- HBM_PURGE_DONE, R345. -/
  | hbmPurgeDone (stack : Nat)
  /-- TX_DESCRIPTOR, R459. -/
  | txDescriptor (words : List Word) (frame : List Byte)
  /-- CQ_RESUME, R463. -/
  | cqResume (pair : Nat)
  /-- SLOW_PATH_DELIVERY, R465. -/
  | slowPathDelivery (descriptors : List (List Word))
  /-- EVENT_RAISE, R477. -/
  | eventRaise (clear : Bool) (held : Bool) (code : Nat) (source : Nat) (severity : Severity) (detail4 : Word) (detail5 : Word)
  /-- COALESCE_WINDOW_CLOSE, R477. -/
  | coalesceWindowClose (source : Nat) (code : Nat) (detail : Word)
  /-- EVT_LOST, R478. -/
  | evtLost (func : Nat)
  /-- BLACKBOX_WRITE, R480. -/
  | blackboxWrite
  /-- MSIX_HOLDOFF_END, R481. -/
  | msixHoldoffEnd (func : Nat) (vector : Nat)
  /-- TILE_LINK_LOST, R484. -/
  | tileLinkLost (tile : Nat)
  /-- TILE_DEGRADED, R484. -/
  | tileDegraded (tile : Nat)
  /-- TILE_RETRAIN, R484. -/
  | tileRetrain (tile : Nat) (trained : Bool)
  /-- QUARANTINE_EXPIRY, R15. -/
  | quarantineExpiry (type : Nat) (index : Nat)
  /-- SERVO_UPDATE, R402. -/
  | servoUpdate
  /-- PTM_DIALOG, R414. -/
  | ptmDialog (hostEnabled : Bool)
  /-- PTM_RESPONSE, R414. -/
  | ptmResponse (master : Nat) (prop : Nat)
  /-- PTM_FAIL, R414. -/
  | ptmFail
  /-- SENSE_OUTPUT, R497. -/
  | senseOutput (bits : List Bool) (leads : Nat) (overload : Bool)
  /-- RC_PERIOD_CAPTURE, R498. -/
  | rcPeriodCapture (elapsed : Nat)
  /-- SENSE_FALLBACK, R505. -/
  | senseFallback (input : Nat)
  /-- COOLANT_CONDITION, R522. -/
  | coolantCondition (die : Int)
  /-- JUNCTION_HIGH, R522. -/
  | junctionHigh (readings : List Int)
  /-- THERMAL_STOP, R524. -/
  | thermalStop (readings : List Int)
  /-- CHARGE_START, R525. -/
  | chargeStart
  /-- CAPACITANCE_MEASURE, R526. -/
  | capacitanceMeasure (deltaQ : Nat)
  /-- GAUGE_REANCHOR, R528. -/
  | gaugeReanchor
  /-- GAUGE_SKEW, R528. -/
  | gaugeSkew
  /-- CURTAIN_START, R530. -/
  | curtainStart
  /-- CURTAIN_STOP, R534. -/
  | curtainStop
  /-- RESET_N_RELEASE, R47. -/
  | resetNRelease
  /-- LOSS_OF_AUX, R540. -/
  | lossOfAux
  /-- RAIL_UP, R543. -/
  | railUp
  /-- CHARGE_COMPLETE, R525. -/
  | chargeComplete
  /-- CHARGE_TIMEOUT, R526. -/
  | chargeTimeout
  /-- POWER_STATE_TIMEOUT, R538. -/
  | powerStateTimeout
  /-- DELAY_LIST_DUE, R449. -/
  | delayListDue (tick : Nat)
  /-- UART_BREAK_END, R507. -/
  | uartBreakEnd
  /-- TILE_DEGRADED_CLEAR, R485. -/
  | tileDegradedClear (tile : Nat)
  /-- JUNCTION_HIGH_CLEAR, R522. -/
  | junctionHighClear (readings : List Int)
  /-- DEMUX_SETTLED_AGAIN, R521. -/
  | demuxSettledAgain (plane : Nat)
  /-- LASER_HEATER_FAULT_CLEAR, R520. -/
  | laserHeaterFaultClear (x : Nat)
  /-- GAUGE_SKEW_CLEAR, R528. -/
  | gaugeSkewClear
deriving DecidableEq, Repr

end Sys2Proof
end

