-- ==== Sys2Proof/Decode.lean ====
section
/-! DEFINITION. The command that a word spells by the bits of the spec's table of operations and events. -/

namespace Sys2Proof

/-- No row of the table gives bits: its commands are a mailbox's opcode with request words, or events, so no word spells one
(assumption 1). -/
def decodeTableWord (_nbits _w : Nat) : Option Instr := none

end Sys2Proof
end

