-- ==== Sys2Proof/Config.lean ====
section
/-! DEFINITION. What one manufactured module fixes, and the values that the spec leaves open. None of these has a body that
Lean can evaluate, so a statement about one holds for every value of it. -/

namespace Sys2Proof

/-- A value that the spec leaves open after a step that goes on. The step applies it to the counter `State.free`, which it
then advances (assumption 2). -/
opaque Config.freeValue : Nat → Word

/-- The 128-bit device serial of R451; set at manufacture. -/
opaque Config.serial : Nat

/-- Byte `i` of the device certificate of R390; set at manufacture. -/
opaque Config.certificate : Nat → Byte

/-- Number of bytes of the device certificate; set at manufacture. -/
opaque Config.certificateLen : Nat

/-- JOIN_TINT_p of R111 in ps, 24 bits; set at manufacture. -/
opaque Config.tint : Nat → BitVec 24

/-- TIME_RXLAT_p of R397 in ps, 24 bits; set at manufacture. -/
opaque Config.rxLat : Nat → BitVec 24

/-- Factory latency from the PMA service interface to the contact in ps, per port type and direction (R406). -/
opaque Config.pmaLatency : Nat → Nat

/-- The factory coefficient at place `n` of a coefficient bank (R500, R501). Assumption 56. -/
opaque Config.factoryCoef : Nat → Word

/-- The factory tuning entry word of transmitter `x`, entry `w`, word `i` (R181). -/
opaque Config.tuning : Nat → Nat → Nat → Word

/-- The firmware version word of the image that fills slot `i` at manufacture (R546). -/
opaque Config.imageVersion : Nat → Word

/-- How far the LOS declare threshold of the cue lanes and the dark threshold of the burst lanes lie above -28 dBm, in hundredths of a
dB; R562 gives each a range of 4 dB (R98, R197). Assumption 109. -/
opaque Config.losDeclare : Fin 401
opaque Config.darkDeclare : Fin 401

/-- The client bits that leave a reserved express lane for whose burst no keystream was predicted (R210, R243; assumption 87). -/
opaque Config.openClient : Nat → BitVec 54336

/-- How far the 50 Hz loop trims the bits per slot that an egress lane group plays out, in 1/64 bit, for a T_nom and a fill of the scullery
store (R240; assumption 92). -/
opaque Config.sculleryTrim : Nat → Nat → Int

/-- What the chain of input `i` reads, in the unit of R494, for a resampled code in units of 2^-24 (R494, R496). Assumption 56. -/
opaque Config.senseScale : Nat → Int → Int

/-! The functions below are those of the standards that chapter 13 names; the spec does not restate them (assumption 73). -/

/-- One block of AES-256 under a key, and its inverse (FIPS 197; R353, R377). Assumption 73. -/
opaque Config.aesEncrypt : BitVec 256 → BitVec 128 → BitVec 128
opaque Config.aesDecrypt : BitVec 256 → BitVec 128 → BitVec 128

/-- SHA-384 of a string of bytes (R372, R374). Assumption 73. -/
opaque Config.sha384 : List Byte → BitVec 384

/-- The uncompressed P-384 public key of a private key, and the secret that it shares with a peer's public key (R372, R374).
Assumption 73. -/
opaque Config.ecdhPublic : BitVec 384 → BitVec 776
opaque Config.ecdhShared : BitVec 384 → BitVec 776 → BitVec 384

/-- ML-KEM-1024: the encapsulation key of a seed, the ciphertext and the secret of an encapsulation, and the secret of a decapsulation
(FIPS 203; R372, R374). -/
opaque Config.kemPublic : BitVec 512 → BitVec 12544
opaque Config.kemCipher : BitVec 12544 → BitVec 256 → BitVec 12544
opaque Config.kemShared : BitVec 12544 → BitVec 256 → BitVec 256
opaque Config.kemDecaps : BitVec 512 → BitVec 12544 → BitVec 256

/-- The hybrid signature of the module's device keys over a string of bytes, with the randomness that it takes (R372). -/
opaque Config.deviceSign : List Byte → BitVec 256 → BitVec 37784

/-- A certificate's chain verifies to the Askilaris root, and both signatures over a string of bytes verify against a certificate
(R372). -/
opaque Config.chainVerifies : List Byte → Bool
opaque Config.signatureVerifies : List Byte → List Byte → BitVec 37784 → Bool

/-- An access to a range of bytes touches Strongroom space; the spec gives no addresses of it (R383; assumption 98). -/
opaque Config.touchesStrongroom : Nat → Nat → Bool

/-- The hub certificate of the stage's hub configuration (R372). -/
opaque Config.hubCertificate : List Byte

/-- The text that the diagnostic monitor answers to a line of the console, by the line and the count of free values; R549 names what
it offers and gives no text (assumption 96). -/
opaque Config.monitorText : List Byte → Nat → List Byte

end Sys2Proof
end

