-- ==== Sys2Proof/Machine/Codes.lean ====
section
/-! DEFINITION. The numbers of the fixed names: status codes (R16), severities (R474), channel types and their index ranges
(R12, R437), sources (R451), hubs, and the event codes and sources of R18, R472 and R473. -/

namespace Sys2Proof.Machine

/-- Status code (R16). -/
def statusCode : Status → Nat
  | .ok => 0x00
  | .accepted => 0x01
  | .busy => 0x02
  | .badOpcode => 0x03
  | .badArg => 0x04
  | .staleHandle => 0x05
  | .noResource => 0x06
  | .denied => 0x07
  | .notReady => 0x08
  | .conflict => 0x09
  | .timeout => 0x0A
  | .aborted => 0x0B
  | .deferred => 0x0C

/-- Severity as the event record codes it (R474). -/
def sevCode : Severity → Nat
  | .critical => 0
  | .major => 1
  | .minor => 2
  | .info => 3
  | .trace => 4

/-- The severity of a code 0 to 4; codes above read as TRACE and never arise (R474). -/
def sevOf : Nat → Severity
  | 0 => .critical
  | 1 => .major
  | 2 => .minor
  | 3 => .info
  | _ => .trace

/-- Channel type number (R12). -/
def chanCode : ChanType → Nat
  | .expressGroup => 0x01
  | .tributary => 0x02
  | .flowBinding => 0x03
  | .meter => 0x04
  | .queuePair => 0x05
  | .parseGraph => 0x06
  | .ruleSet => 0x07
  | .sensor => 0x08
  | .peerKey => 0x09
  | .tsPort => 0x0A
  | .mcastGroup => 0x0B
  | .larderPool => 0x0C

/-- Number of indices of a channel type by number; 0 for a reserved type (R12, R437). -/
def chanRange : Nat → Nat
  | 0x01 => 256
  | 0x02 => 2048
  | 0x03 => 4096
  | 0x04 => 8192
  | 0x05 => 256
  | 0x06 => 4
  | 0x07 => 4
  | 0x08 => 64
  | 0x09 => 29
  | 0x0A => 256
  | 0x0B => 1024
  | 0x0C => 16
  | _ => 0

/-- Source number (R451). -/
def sourceCode : Source → Nat
  | .pf0 => 0
  | .pf1 => 1
  | .sideband => 2

/-- Hub number: 0 hub A, 1 hub B (R416). -/
def hubCode : Hub → Nat
  | .a => 0
  | .b => 1

/-- The other hub. -/
def otherHub : Hub → Hub
  | .a => .b
  | .b => .a

/-- The hub of a bit: 1 is hub B. -/
def hubOf (b : Bool) : Hub := if b then .b else .a

/-- Event source of transmitter `x` (R18). -/
def srcTx (x : Nat) : Nat := 1024 + x

/-- Event source of event `k` of plane `p` (R18). -/
def srcPlane (p k : Nat) : Nat := 1536 + 8 * p + k

/-- Event source of client lane `l` (R18). -/
def srcLane (l : Nat) : Nat := 1664 + l

/-- Event source of optical tile `t` (R472). -/
def srcTile (t : Nat) : Nat := 1931 + t

/-- Event source of sensing input `i` (R472). -/
def srcInput (i : Nat) : Nat := 1960 + i

end Sys2Proof.Machine
end

