-- ==== Sys2Proof/Machine/Types/Cue.lean ====
section
/-! DEFINITION. State of the clock root and of the cue-lane receivers (R82 to R103). -/

namespace Sys2Proof.Machine

/-- The states of the root (R83). -/
inductive RootPhase where
  | syncAcq
  | syncHeld
  | transfer
  | locked
  | holdover
deriving DecidableEq, Repr

/-- The clock root: its state, its reference lane (hub and plane), and since when it holds over. -/
structure RootClock where
  phase : RootPhase
  lane : Option (Hub × Nat)
  holdSince : Nat
  /-- The 10 s of holdover have passed and the root steers toward SYNC_REF (R83). -/
  steering : Bool
deriving DecidableEq, Repr

def rootReset : RootClock := ⟨.syncAcq, none, 0, false⟩

/-- Framer states (R96). -/
inductive Framer where
  | hunt
  | presync
  | sync
deriving DecidableEq, Repr

/-- A defect that is declared and cleared after runs of frames. -/
structure Defect where
  held : Bool
  /-- Length of the present run toward the other state. -/
  run : Nat
deriving DecidableEq, Repr

/-- One cue lane: framer, defects, content and counters (R96 to R103). -/
structure CueLane where
  /-- The lane's receiver has power. -/
  powered : Bool
  framer : Framer
  /-- Outside SYNC the evaluation points are the instants that are `grid` modulo 1,792 (R97). -/
  grid : Nat
  /-- The line bits of the 1,792 cc before the last evaluation point. -/
  past : Nat
  /-- Outside HUNT and SYNC: the place, among `past` and the bits after it, at which the frame to be judged next starts, and that this is
  still the candidate itself (R96). -/
  start : Nat
  unread : Bool
  confirm : Nat
  errored : Nat
  /-- Evaluation points since SYNC was left, counted to 8 (R98). -/
  lostEvals : Nat
  /-- Consecutive frames in SYNC, counted to 16. -/
  syncRun : Nat
  /-- Slot index of the candidate or of the last good frame. -/
  last : Option Nat
  los : Bool
  darkRun : Nat
  lightRun : Nat
  lof : Bool
  ais : Defect
  rdi : Defect
  sfnMis : Defect
  planeMis : Defect
  stageMis : Defect
  modulation : Defect
  /-- Consecutive frames in sync without LOS or LOF, counted to 16 (R82). -/
  goodRun : Nat
  qualified : Bool
  qualSince : Nat
  /-- The latest good frame's O bit, epoch and receive slot reference. -/
  claim : Bool
  epoch : Nat
  refCycle : Int
  refBits : Nat
  /-- The six counters of R103. -/
  counters : List Nat
deriving DecidableEq, Repr

def defectReset : Defect := ⟨false, 0⟩

/-- A lane at power-up: HUNT, with LOS and LOF declared (R96, R98). Assumption 114. -/
def cueLaneReset : CueLane :=
  { powered := false, framer := .hunt, grid := 0, past := 0, start := 0, unread := false, confirm := 0, errored := 0, lostEvals := 0, syncRun := 0, last := none, los := true,
    darkRun := 0, lightRun := 0, lof := true, ais := defectReset, rdi := defectReset, sfnMis := defectReset,
    planeMis := defectReset, stageMis := defectReset, modulation := defectReset, goodRun := 0, qualified := false,
    qualSince := 0, claim := false, epoch := 0, refCycle := 0, refBits := 0, counters := [0, 0, 0, 0, 0, 0] }

/-- The clock root, the 32 cue lanes (index 16 h + p), the message identities seen (hub, identity, slot) and the messages
accepted and not yet handled (R94, R95). -/
structure CueState where
  root : RootClock
  lanes : Tab CueLane
  seen : List (Hub × Nat × Nat)
  inbox : List StageMsg
deriving DecidableEq, Repr

def cueReset : CueState := ⟨rootReset, [], [], []⟩

end Sys2Proof.Machine
end

