-- ==== Sys2Proof/Machine/Types/Mailbox.lean ====
section
/-! DEFINITION. State of the Zordin interface: mailbox rings, sideband, channel handles and the task scheduler (R418 to R452). -/

namespace Sys2Proof.Machine

/-- One command that has been taken and has no final response yet (R426). -/
structure Outstanding where
  tag : Nat
  opcode : Nat
deriving DecidableEq, Repr

/-- One response: the header fields of R425 and its words. -/
structure Response where
  tag : Nat
  status : Nat
  final : Bool
  dup : Bool
  words : List Word
deriving DecidableEq, Repr

/-- One function notice (R431): 1 for an FLR completed, 2 for a halted DMA engine; the function concerned; the timestamp. -/
structure Notice where
  code : Nat
  func : Nat
  stamp : Nat
deriving DecidableEq, Repr

/-- One event record (R474), before its phase and slot_id are put in. -/
structure EventRecord where
  summary : Bool
  clear : Bool
  sev : Nat
  source : Nat
  count : Nat
  code : Nat
  first : Nat
  last : Nat
  detail4 : Word
  detail5 : Word
  seq : Nat
  boot : Nat
deriving DecidableEq, Repr

/-- One MSI-X vector: its table entry and pending bit (R481). -/
structure Vector where
  addrLo : Word
  addrHi : Word
  data : Word
  masked : Bool
  pending : Bool
  /-- Instant at which the holdoff of the last message ends. -/
  holdEnd : Option Nat
  /-- A message waits for the end of the holdoff. -/
  waiting : Bool
deriving DecidableEq, Repr

/-- A vector after reset: masked, nothing pending, as PCIe 5.0 leaves it (R420). Assumption 72. -/
def vectorReset : Vector := ⟨0, 0, 0, true, false, none, false⟩

/-- One host function: its MBOX block (R424), what waits for its rings, and its FUNC_STATUS counters (R451). -/
structure FuncBox where
  en : Bool
  halted : Bool
  cmdBase : Nat
  rspBase : Nat
  ntfBase : Nat
  cmdPi : Nat
  cmdCi : Nat
  rspPi : Nat
  rspCi : Nat
  ntfPi : Nat
  ntfCi : Nat
  ciBad : Bool
  rspHeld : Bool
  piBad : Bool
  dupTag : Bool
  /-- Cycle in which bits of MBOX_STAT were last set, and their mask (R9). -/
  setAt : Option (Nat × Nat)
  /-- For each FIFO, the cycle of the last push and the entries pushed in that cycle (R19): the command, response and
  notification rings and the event queue. -/
  cmdNew : Option (Nat × Nat)
  rspNew : Option (Nat × Nat)
  ntfNew : Option (Nat × Nat)
  evtNew : Option (Nat × Nat)
  outstanding : List Outstanding
  heldRsp : List Response
  notices : List Notice
  /-- The event queue of R478. -/
  events : List EventRecord
  msix : Tab Vector
  /-- The alarm latch of R475: words 1 to 3. -/
  latch : List Word
  cntTaken : Nat
  cntBadOpcode : Nat
  cntDup : Nat
  cntHeld : Nat
  cntDiscarded : Nat
deriving DecidableEq, Repr

/-- A function after reset (R424, R475). Assumption 72. -/
def funcBoxReset : FuncBox :=
  { en := false, halted := false, cmdBase := 0, rspBase := 0, ntfBase := 0, cmdPi := 0, cmdCi := 0, rspPi := 0, rspCi := 0,
    ntfPi := 0, ntfCi := 0, ciBad := false, rspHeld := false, piBad := false, dupTag := false, setAt := none, cmdNew := none, rspNew := none,
    ntfNew := none, evtNew := none, outstanding := [],
    heldRsp := [], notices := [], events := [], msix := [], latch := [0, 0, 0], cntTaken := 0, cntBadOpcode := 0, cntDup := 0,
    cntHeld := 0, cntDiscarded := 0 }

/-- The SMBus sideband (R441 to R444). -/
structure SidebandBox where
  /-- Bytes of the request being assembled, and the index the next fragment must carry. -/
  partialReq : Option (Nat × List Byte)
  /-- Complete requests that the terminal has not taken. -/
  requests : List (List Word)
  outstanding : List Outstanding
  /-- Responses waiting to be read, as the bytes of their slots. -/
  responses : List (List Byte)
  /-- Fragment of the oldest response that the next read delivers. -/
  rspFragment : Nat
  heldRsp : List Response
  /-- The notification queue: 8 words an entry. -/
  ntfs : List (List Word)
  /-- SB_STATUS bit 4: a write was rejected since the last read. -/
  rejected : Bool
  cntTaken : Nat
  cntBadOpcode : Nat
  cntDup : Nat
  cntHeld : Nat
  cntDiscarded : Nat
deriving DecidableEq, Repr

def sidebandReset : SidebandBox :=
  { partialReq := none, requests := [], outstanding := [], responses := [], rspFragment := 0, heldRsp := [], ntfs := [],
    rejected := false, cntTaken := 0, cntBadOpcode := 0, cntDup := 0, cntHeld := 0, cntDiscarded := 0 }

/-- What a pending long command waits for (R427): the chapters that own the long commands end it. -/
inductive LongKind where
  /-- JOIN_START (R129). -/
  | joinStart
  /-- JOIN_LEAVE (R129). -/
  | joinLeave
  /-- RX_LEDGER_TAP of the lanes `first .. first + count - 1` for a slot index (R226). -/
  | ledgerTap (slot first count : Nat)
  /-- GROUP_RESIZE of a group index (R253). -/
  | groupResize (group : Nat)
  /-- PEER_KEY_CREATE of an association index (R375). -/
  | peerKeyCreate (assoc : Nat)
  /-- KEY_ROLL with its kind and association index (R375). -/
  | keyRoll (kind assoc : Nat)
  /-- POWER_STATE (R514). -/
  | powerState
  /-- FW_VERIFY (R553). -/
  | fwVerify
deriving DecidableEq, Repr

/-- One accepted long command with no final response yet (R427). -/
structure LongCommand where
  src : Source
  tag : Nat
  kind : LongKind
deriving DecidableEq, Repr

/-- One index of one channel type (R12, R15, R437 to R439). -/
structure ChanSlot where
  live : Bool
  gen : Nat
  quarantined : Bool
  /-- Output time at which a running quarantine ends. -/
  quarEnd : Nat
deriving DecidableEq, Repr

def chanSlotReset : ChanSlot := ⟨false, 0, false, 0⟩

/-- One task of the scheduler: its priority level and an identifier (R447). -/
structure Task where
  level : Nat
  id : Nat
  /-- Instant at which it became ready. -/
  readyAt : Nat
deriving DecidableEq, Repr

/-- One Zordin core's ready queue, highest level first, and the highest figures of R450 since the last clear: ready-queue
depth, and time from ready to running in µs. -/
structure CoreQueue where
  ready : List Task
  /-- The core executes its wait instruction (R515). -/
  waiting : Bool
  depthMax : Nat
  waitMax : Nat
deriving DecidableEq, Repr

def coreQueueReset : CoreQueue := ⟨[], false, 0, 0⟩

/-- The task scheduler (R447 to R450). -/
structure Scheduler where
  cores : List CoreQueue
  /-- The delay list: due tick and task, sorted by tick, equal ticks in order of entry (R449). -/
  delayed : List (Nat × Task)
deriving DecidableEq, Repr

def schedulerReset : Scheduler :=
  ⟨[coreQueueReset, coreQueueReset, coreQueueReset, coreQueueReset], []⟩

/-- The whole of the Zordin interface. -/
structure Zordin where
  pf0 : FuncBox
  pf1 : FuncBox
  sb : SidebandBox
  longs : List LongCommand
  sched : Scheduler
deriving DecidableEq, Repr

def zordinReset : Zordin := ⟨funcBoxReset, funcBoxReset, sidebandReset, [], schedulerReset⟩

end Sys2Proof.Machine
end

