-- ==== Sys2Proof/Machine/Types/Events.lean ====
section
/-! DEFINITION. State of events and alarms: the alarm table, the coalescer, the destinations' buckets, the black box and the
tile machines (R472 to R489). -/

namespace Sys2Proof.Machine

/-- One held condition of an event source (R475, R476). The detail word tells conditions of one system source apart. -/
structure Condition where
  code : Nat
  sev : Nat
  since : Nat
  detail : Word
deriving DecidableEq, Repr

/-- One alarm entry (R475); its held conditions stand in the order in which they were raised. -/
structure AlarmEntry where
  conds : List Condition
  changed : Nat
  raises : Nat
deriving DecidableEq, Repr

def alarmReset : AlarmEntry := ⟨[], 0, 0⟩

/-- One open coalescing window (R477). -/
structure EventWindow where
  source : Nat
  code : Nat
  /-- Detail word 4, part of the key at system sources; 0 elsewhere. -/
  keyDetail : Word
  refSev : Option Nat
  count : Nat
  first : Nat
  last : Nat
  maxSev : Nat
  detail4 : Word
  detail5 : Word
  opened : Nat
deriving DecidableEq, Repr

/-- One token bucket of a severity class (R478): its rate and burst, and its fill at an instant in units of one record's
token divided by the cycles of one second. -/
structure EventBucket where
  rate : Nat
  burst : Nat
  fill : Nat
  at_ : Nat
deriving DecidableEq, Repr

/-- A destination's settings, kept in the configuration store (R478, R489). -/
structure DestConfig where
  minSev : Nat
  holdoff : Nat
  rates : List (Nat × Nat)
deriving DecidableEq, Repr

/-- The four counters of one class at one destination (R487). -/
structure ClassCounters where
  delivered : Nat
  lostBucket : Nat
  lostQueue : Nat
  filtered : Nat
deriving DecidableEq, Repr

def classCountersReset : ClassCounters := ⟨0, 0, 0, 0⟩

/-- One destination of records: PF0, PF1 or the sideband. -/
structure Destination where
  cfg : DestConfig
  buckets : List EventBucket
  counters : List ClassCounters
  /-- Records lost since the last EVT_LOST, and the instant of that EVT_LOST (R478). -/
  lost : Nat
  lostAt : Option Nat
deriving DecidableEq, Repr

/-- The states of a tile (R484). -/
inductive TilePhase where
  | off
  | running
  | retrain
  | failed
deriving DecidableEq, Repr

/-- One optical tile (R484). -/
structure Tile where
  phase : TilePhase
  attempts : Nat
  /-- Instants of its power cycles. -/
  cycles : List Nat
  /-- Instant at which the present training attempt begins, after a power cycle its end; an attempt lasts 10 ms (R484). -/
  tryFrom : Nat
  /-- The failure record in MRAM. -/
  record : Bool
deriving DecidableEq, Repr

def tileReset : Tile := ⟨.off, 0, [], 0, false⟩

/-- Events, alarms and tiles. -/
structure Events where
  alarms : Tab AlarmEntry
  windows : List EventWindow
  seq : Nat
  dests : List Destination
  /-- Newest first, at most 256 entries of 8 words, in MRAM (R480). -/
  blackBox : List (List Word)
  /-- Staged records, oldest first, at most 32 (R480). -/
  staged : List EventRecord
  cntEmitted : Nat
  cntUncoalesced : Nat
  cntBlackLost : Nat
  tiles : Tab Tile
deriving DecidableEq, Repr

/-- Cycles of one second: the core clock of R3. -/
def secCc : Nat := 1750000000

def bucketFull (now : Nat) (r : Nat × Nat) : EventBucket := ⟨r.1, r.2, r.2 * secCc, now⟩

def destConfigReset (minSev : Nat) : DestConfig :=
  ⟨minSev, 20, [(20000, 2048), (10000, 1024), (5000, 512), (1000, 64)]⟩

/-- A destination with counters at 0 and full buckets (R478). -/
def destinationOf (now : Nat) (c : DestConfig) : Destination :=
  ⟨c, c.rates.map (bucketFull now), List.replicate 5 classCountersReset, 0, none⟩

/-- The defaults of R478: INFO for both functions, MAJOR for the sideband. -/
def eventsReset : Events :=
  { alarms := [], windows := [], seq := 0,
    dests := [destinationOf 0 (destConfigReset 3), destinationOf 0 (destConfigReset 3), destinationOf 0 (destConfigReset 1)],
    blackBox := [], staged := [], cntEmitted := 0, cntUncoalesced := 0, cntBlackLost := 0, tiles := [] }

end Sys2Proof.Machine
end

