-- ==== Sys2Proof/Machine/Types/Express.lean ====
section
/-! DEFINITION. State of the express circuits and of the tributary interchange (R227 to R282). -/

namespace Sys2Proof.Machine

/-- Bits in order: how many, and the number that they spell, the first one most significant. -/
structure BitRun where
  len : Nat
  bits : Nat
deriving DecidableEq, Repr

def bitRunReset : BitRun := ⟨0, 0⟩

/-- The landing store of a sender and its lane aligner (R233, R240): the bits of each logical lane that wait for their turn, the
group-stream bits that have not been dealt, and of the last count window its bits and whether it held aligned data on all lanes. -/
structure Landing where
  lanes : List BitRun
  store : BitRun
  count : Nat
  aligned : Bool
deriving DecidableEq, Repr

def landingReset : Landing := ⟨[], bitRunReset, 0, false⟩

/-- The scullery store of a receiver (R240, R270): the bits that have not been played out, T of the last 64 slots, newest first, the part
of a bit that the lanes owe in 1/64 bit, the place of the next bit in the round of the lanes, and what each lane, in the order of port +
i, played out in the last slot. -/
structure Scullery where
  store : BitRun
  ts : List Nat
  owed : Int
  place : Nat
  lanes : List BitRun
deriving DecidableEq, Repr

def sculleryReset : Scullery := ⟨bitRunReset, [], 0, 0, []⟩

/-- One tributary slot: its descriptor of 24 bits and its 168 words (R265, R266). -/
structure TribSlot where
  desc : Nat
  words : List Word
deriving DecidableEq, Repr

/-- One member stream that is received (R105, R241, R244, R245, R251, R267). -/
structure MemberStream where
  /-- The stream has had an expected container. -/
  started : Bool
  los : Bool
  lof : Bool
  lostRun : Nat
  lightRun : Nat
  badRun : Nat
  goodRun : Nat
  ais : Defect
  rdi : Defect
  sd : Bool
  /-- Containers and errors of the block that runs (R245). -/
  blockCount : Nat
  blockErrors : Nat
  /-- mfi and slot index of the previous good container with a passing CRC (R241). -/
  mfi : Option (Nat × Nat)
  /-- The previous container delivered client bits: whether it was flagged, and the tag computed of it (R250, R251). -/
  carried : Option (Bool × Nat)
  late : Nat
  flagged : Bool
  lane : Nat
  laneSlot : Option Nat
  /-- Conditions held at a lane's source, as code and lane. -/
  held : List (Nat × Nat)
  /-- The last descriptor area whose CRC passed, and CRC failures in a row (R267). -/
  descs : List Nat
  descBad : Nat
deriving DecidableEq, Repr

/-- A stream starts with LOS and LOF declared (R244). -/
def streamReset : MemberStream :=
  { started := false, los := true, lof := true, lostRun := 0, lightRun := 0, badRun := 0, goodRun := 0, ais := defectReset,
    rdi := defectReset, sd := false, blockCount := 0, blockErrors := 0, mfi := none, carried := none, late := 0, flagged := false,
    lane := 0, laneSlot := none, held := [], descs := [], descBad := 0 }

/-- States of the resize machine in the order of R262. -/
inductive ResizePhase where
  | idle
  | request
  | farRequest
  | withdrawn
  | preparing
  | ready
  | switched
deriving DecidableEq, Repr

/-- The resize of a group (R253): the request that stands (true to remove), whether a GROUP_RESIZE made it, the far end's rsz field
with its run of good containers, the timers, and the SFNs of PREPARE and COMMIT. -/
structure Resize where
  phase : ResizePhase
  remove : Bool
  member : Nat
  own : Bool
  /-- The request that a WITHDRAWN terminal makes again. -/
  again : Option (Bool × Nat)
  farRsz : Nat
  farRemove : Bool
  farMember : Nat
  farRun : Nat
  /-- g of the last good container of the far end. -/
  farG : Nat
  tPrep : Option Nat
  tCommit : Option Nat
  prepSfn : Nat
  commitSfn : Option Nat
  /-- The map before the switch-over, from slot 0 of the COMMIT's SFN until the far end has followed (R253, R254). -/
  oldMap : Option Nat
deriving DecidableEq, Repr

def resizeReset : Resize :=
  { phase := .idle, remove := false, member := 0, own := false, again := none, farRsz := 0, farRemove := false, farMember := 0,
    farRun := 0, farG := 0, tPrep := none, tCommit := none, prepSfn := 0, commitSfn := none, oldMap := none }

/-- One container that a reserved express lane has delivered (R243). -/
structure Container where
  slot : Nat
  group : Nat
  member : Nat
  lane : Nat
  verdict : Nat
  /-- The burst passes steps 1 to 6 of R75; a header was decoded. -/
  passed : Bool
  decoded : Bool
  hdrCorr : Nat
  flagged : Bool
  /-- The header names the expected group and member (R105). -/
  named : Bool
  ptv : Bool
  /-- The lane had light and a delimiter, so words came; the tag computed of this container; prev_tag of its header (R73, R250). -/
  lit : Bool
  tag : Nat
  prevTag : Nat
  overhead : Nat
  words : Tab Word
  /-- Good under R105, once its slot has been evaluated. -/
  good : Bool
  /-- Cycles of the tile's forwarded-clock store (R246). -/
  depth : Nat
deriving DecidableEq, Repr

/-- What a group is created with, kept in the configuration store (R262, R281). -/
structure GroupConfig where
  number : Nat
  farTn : Nat
  port : Nat
  /-- The client type of R229; 0 for a tributary group. -/
  ctype : Nat
  role : Nat
  afAction : Bool
  afHold : Nat
  sdLimit : Nat
  trib : Bool
  pn0832 : Bool
deriving DecidableEq, Repr

def groupConfigReset : GroupConfig := ⟨0, 0, 0, 0, 0, false, 0, 40, false, false⟩

/-- One express group or tributary group, indexed as its handle. -/
structure ExpGroup where
  cfg : GroupConfig
  map : Nat
  resize : Resize
  streams : Tab MemberStream
  /-- 0 OK, 1 SD, 2 SF; none before the first evaluation. -/
  cond : Option Nat
  skew : Nat
  skewLevel : Nat
  tRx : Nat
  /-- The far end's failed receive side is told (R248). -/
  rdiOut : Bool
  authFail : Bool
  afUntil : Option Nat
  /-- Members whose last container sent carried client bits, and members that owe an end container (R73, R74). -/
  sentBits : Nat
  ending : Nat
  /-- The tag of the last container sent of each member (R73). -/
  sentTags : Tab Nat
  /-- Removed members whose end container has not come (R236). -/
  leaving : Nat
  /-- The client bits are carried; false for the former protect group of a pair (R263). -/
  bridged : Bool
  /-- The landing store, and what RATE_CONTROL has chosen: slot, AIS, and the T bits, newest first (R240). -/
  landing : Landing
  chosen : List (Nat × Bool × BitRun)
  /-- The deskew store: the containers of the last slots (R241, R246); the group stream of the last slot (R239); and the scullery store. -/
  recent : List Container
  stream : BitRun
  scullery : Scullery
  clientAis : Bool
  /-- Instant from which client AIS has not been counted (R261). -/
  aisFrom : Option Nat
  counters : List Nat
  /-- Flagged containers by member (R243). -/
  flags : Tab Nat
  flaggedCount : Nat
  unverifiedCount : Nat
  descLosses : Nat
deriving DecidableEq, Repr

def expGroupReset : ExpGroup :=
  { cfg := groupConfigReset, map := 0, resize := resizeReset, streams := [], cond := none, skew := 0, skewLevel := 0, tRx := 0,
    rdiOut := true, authFail := false, afUntil := none, sentBits := 0, ending := 0, sentTags := [], leaving := 0, bridged := true, landing := landingReset,
    chosen := [], recent := [], stream := bitRunReset, scullery := sculleryReset, clientAis := true, aisFrom := none,
    counters := List.replicate 12 0, flags := [], flaggedCount := 0,
    unverifiedCount := 0, descLosses := 0 }

/-- A destroyed group whose members still owe their end containers (R263, R74). -/
structure EndedGroup where
  farTn : Nat
  members : Nat
  g : Nat
  count : Nat
  /-- The tag of the last container sent of each member (R74). -/
  tags : Tab Nat
deriving DecidableEq, Repr

/-- States of the selector in the order of R262. -/
inductive SelPhase where
  | steady
  | hold
  | wtr
  | double
deriving DecidableEq, Repr

/-- Why the target differs from the selected side (R258). -/
inductive TargetWhy where
  | same
  | request
  | condition
  | reversion
deriving DecidableEq, Repr

/-- One pair, indexed by its working group (R256 to R258). `prot` tells the protect side. -/
structure Pair where
  protect : Nat
  revertive : Bool
  holdOff : Nat
  wtr : Nat
  selected : Bool
  phase : SelPhase
  request : Nat
  timer : Option Nat
  /-- Target and reason for which WTR runs. -/
  aim : Option (Bool × TargetWhy)
deriving DecidableEq, Repr

def pairReset : Pair := ⟨0, false, 0, 300, false, .steady, 0, none, none⟩

/-- One tributary circuit (R268 to R270, R278). -/
structure Tributary where
  ttype : Nat
  client : Bool
  lane : Nat
  sf : Bool
  /-- Containers in a row with a part mismatch, with ais, and with neither fault. -/
  mismatchRun : Nat
  aisRun : Nat
  clearRun : Nat
  landing : Landing
  chosen : List (Nat × Bool × BitRun)
  stream : BitRun
  scullery : Scullery
deriving DecidableEq, Repr

def tributaryReset : Tributary :=
  ⟨0, false, 0, false, 0, 0, 0, landingReset, [], bitRunReset, sculleryReset⟩

/-- Express circuits and tributaries. Pages are indexed 0 to 4,095; elastic stores by their entry (R271, R273); a store that is not listed
stands centred. -/
structure Express where
  groups : Tab ExpGroup
  ended : Tab (Option EndedGroup)
  pairs : Tab (Option Pair)
  /-- Containers of the slot that has not been evaluated. -/
  arrivals : List Container
  tribs : Tab Tributary
  stage : Tab (BitVec 64)
  wings : Tab (BitVec 64)
  /-- Effective SFN of a pending swap (R276). -/
  swap : Option Nat
  /-- Effective SFN of the last swap, and the instant at which it took place (R274, R276). -/
  swapped : Option (Nat × Nat)
  elastic : Tab (Option (List TribSlot))
  /-- Stores of entries of the pending page, which containers of its slots use before the swap (R274). -/
  elasticNext : Tab (Option (List TribSlot))
  /-- The slot evaluated last (R262). -/
  evalSlot : Option Nat
  /-- Client lanes whose port sends client AIS after GROUP_DESTROY until it is reconfigured (R263). -/
  aisLanes : List Nat
deriving DecidableEq, Repr

def expressReset : Express :=
  { groups := [], ended := [], pairs := [], arrivals := [], tribs := [], stage := [], wings := [], swap := none, swapped := none,
    elastic := [], elasticNext := [], evalSlot := none, aisLanes := [] }

end Sys2Proof.Machine
end

