-- ==== Sys2Proof/Machine/Types/Grants.lean ====
section
/-! DEFINITION. State of cue sheets, standing cue sheets and reports (R142 to R167). -/

namespace Sys2Proof.Machine

/-- One grant: the fields of a grant entry (R142), and where it came from as GRANT_VIEW codes it (R166): 0 a committed entry of
kind NONE, 1 dynamic, 2 standing, 3 absent. `e` is the phase exponent of the sheet that governs, 0 otherwise (R230). -/
structure Grant where
  kind : Nat
  standing : Bool
  tn : Nat
  k : Nat
  mcast : Bool
  dest : Nat
  member : Nat
  origin : Nat
  e : Nat
deriving DecidableEq, Repr

def grantNone : Grant := ⟨0, false, 0, 0, false, 0, 0, 0, 0⟩
def grantAbsent : Grant := ⟨0, false, 0, 0, false, 0, 0, 3, 0⟩

/-- One standing cue sheet (R146 to R148). -/
structure Sheet where
  kind : Nat
  wave : Nat
  tn : Nat
  k : Nat
  mcast : Bool
  dest : Nat
  member : Nat
  e : Nat
  phase : Nat
  takeover : Nat
  expiry : Nat
  /-- Slot index of the evaluation point that committed it, and whether that came after its takeover's freeze point. -/
  committed : Nat
  late : Bool
deriving DecidableEq, Repr

/-- What one cue frame gave for its target slot: no entries, or its 62 entries, those of kind NONE not listed (R90, R152). -/
structure CommittedFrame where
  absent : Bool
  entries : Tab Grant
deriving DecidableEq, Repr

def committedReset : CommittedFrame := ⟨true, []⟩

/-- The grant engine of one plane. -/
structure PlaneGrants where
  /-- Committed frames by target slot index; a slot not listed reads as absent. -/
  frames : Tab CommittedFrame
  /-- Target slot index of the last frame whose evaluation point has passed. -/
  lastTarget : Option Nat
  sheets : Tab (Option Sheet)
  /-- Frozen effective grants by slot index, then by wavelength. -/
  frozen : Tab (List Grant)
  /-- Slot index of the plane's last report. -/
  lastReport : Option Nat
  /-- The superframe in which a mirror difference last raised the event. -/
  mirrorSfn : Option Nat
  counters : List Nat
deriving DecidableEq, Repr

def planeGrantsReset : PlaneGrants :=
  { frames := [], lastTarget := none, sheets := [], frozen := [], lastReport := none, mirrorSfn := none,
    counters := List.replicate 9 0 }

/-- The grant engine: 16 planes and the piggy-back interval of R162. -/
structure Grants where
  planes : List PlaneGrants
  /-- Slot index up to which the freeze point has passed. -/
  frozenTo : Option Nat
  /-- The terminal's TN at the freeze point of a slot, plus 1; 0 without one (R157). -/
  frozenTn : Tab Nat
  /-- The interval of R162, and what it is from slot `piggyAt` on (R167). -/
  piggy : Nat
  piggyNext : Nat
  piggyAt : Nat
deriving DecidableEq, Repr

def grantsReset : Grants := ⟨List.replicate 16 planeGrantsReset, none, [], 16, 16, 0⟩

end Sys2Proof.Machine
end

