-- ==== Sys2Proof/Machine/Types/HostQueues.lean ====
section
/-! DEFINITION. State of the host queue pairs (R453 to R471). -/

namespace Sys2Proof.Machine

/-- One completion that has not been written: its ring (0 transmit, 1 receive), index, status, and words 1 to 4 (R461). -/
structure Completion where
  ring : Nat
  index : Nat
  status : Nat
  word1 : Word
  word2 : Word
  word3 : Word
  word4 : Word
deriving DecidableEq, Repr

/-- One queue pair (R453, R454). -/
structure QueuePair where
  func : Nat
  txLog2 : Nat
  rxLog2 : Nat
  cqLog2 : Nat
  bufLog2 : Nat
  weight : Nat
  burst : Nat
  /-- Weight and burst from the next round on (R470). -/
  next : Option (Nat × Nat)
  txBase : Nat
  rxBase : Nat
  cqBase : Nat
  running : Bool
  txPi : Nat
  txCi : Nat
  rxPi : Nat
  rxCi : Nat
  cqPi : Nat
  cqCi : Nat
  /-- Completions that wait for a free slot (R463). -/
  held : List Completion
  /-- Descriptors that ended OK and no completion covers yet (R462). -/
  uncovered : Nat
  haltCause : Nat
  haltIndex : Nat
  /-- The QP_STOP, by source and tag, whose response waits for the last ABORTED completion (R471). -/
  stopper : Option (Source × Nat)
  counters : List Nat
deriving DecidableEq, Repr

def queuePairReset : QueuePair :=
  { func := 0, txLog2 := 0, rxLog2 := 0, cqLog2 := 0, bufLog2 := 0, weight := 1, burst := 16, next := none, txBase := 0,
    rxBase := 0, cqBase := 0, running := false, txPi := 0, txCi := 0, rxPi := 0, rxCi := 0, cqPi := 0, cqCi := 0, held := [],
    uncovered := 0, haltCause := 0, haltIndex := 0, stopper := none, counters := List.replicate 8 0 }

/-- The place in the round of R458: pass, queue pair visited, and descriptors taken in the visit. -/
structure RoundPlace where
  pass : Nat
  pair : Nat
  taken : Nat
deriving DecidableEq, Repr

/-- Host queue pairs: the slow-path map by reason and the watch tables by 16 * channel + entry hold handles (R464). -/
structure HostQueues where
  pairs : Tab QueuePair
  map : Tab Word
  watch : Tab Word
  round : RoundPlace
  /-- Unmapped drops, halts of PF0, halts of PF1 (R469). -/
  globals : List Nat
deriving DecidableEq, Repr

def hostQueuesReset : HostQueues := ⟨[], [], [], ⟨0, 0, 0⟩, [0, 0, 0]⟩

end Sys2Proof.Machine
end

