-- ==== Sys2Proof/Machine/Types/Join.lean ====
section
/-! DEFINITION. State of joining: the terminal machine, the plane machines, ownership and the join counters (R106 to R141,
R581). -/

namespace Sys2Proof.Machine

/-- States of the terminal machine in the order of R140. -/
inductive TermPhase where
  | offline
  | cueAcq
  | discWait
  | discSent
  | identity
  | assigned
  | registered
  | rejected
  | leaving
deriving DecidableEq, Repr

/-- States of a plane machine in the order of R140. -/
inductive PlanePhase where
  | down
  | waitWindow
  | ranging
  | equalised
  | active
  | suspended
  | skewed
  | held
deriving DecidableEq, Repr

/-- Ownership states in the order of R140. -/
inductive Ownership where
  | unowned
  | ownedA
  | ownedB
  | contested
deriving DecidableEq, Repr

/-- What a RANGING burst answers (R117). -/
inductive AnswerKind where
  | discovery
  | identity
  | ranging
deriving DecidableEq, Repr

/-- One scheduled RANGING burst (R115, R119, R121, R125). -/
structure Answer where
  kind : AnswerKind
  plane : Nat
  wave : Nat
  /-- Slot index at which it is launched, and the slot index it names. -/
  slot : Nat
  label : Nat
  round : Nat
  delay : Nat
  segIndex : Nat
  segTotal : Nat
  /-- RT in sixteenths with which it is launched. -/
  rt : Nat
  dest : Nat
deriving DecidableEq, Repr

/-- One plane machine (R130) with its quantities (R106) and its ownership (R132). -/
structure PlaneMachine where
  phase : PlanePhase
  /-- RT_p and EqD_p in sixteenths of a line bit: 26 bits, and 26 bits in two's complement (R106, R108, R109). -/
  rt : Nat
  eqd : Int
  /-- RT_p and EqD_p of an accepted RANGE_RESULT, and the slot index at whose start they are loaded (R125). -/
  load : Option (Nat × Nat × Int)
  fails : Nat
  /-- T_RWIN expiries in a row. -/
  rwinRun : Nat
  /-- Instants at which the plane's timers end. -/
  tRwin : Option Nat
  tAct : Option Nat
  tSkew : Option Nat
  tSusp : Option Nat
  /-- Slot index after which a missing RANGE_RESULT counts as a failure. -/
  resultBy : Option Nat
  /-- The noted activation SFN (R126). -/
  actSfn : Option Nat
  /-- Accepted fine corrections: SFN, sixteenths, late. -/
  fine : List (Nat × Int × Bool)
  holdPending : Bool
  own : Ownership
  /-- The hub that owned the plane last (R101). -/
  lastOwner : Option Hub
  /-- The plane has had an owner or been contested since the reset (R136). -/
  ownSeen : Bool
  changes : Nat
  /-- The hub whose lane gives the receive slot reference, the reference's cycle and the line bits beyond (R62). -/
  refHub : Option Hub
  refCycle : Int
  refBits : Nat
  /-- The reference when the plane was suspended, in line bits. -/
  suspRef : Int
  counters : List Nat
deriving DecidableEq, Repr

def planeReset : PlaneMachine :=
  { phase := .down, rt := 0, eqd := 0, load := none, fails := 0, rwinRun := 0, tRwin := none, tAct := none, tSkew := none, tSusp := none,
    resultBy := none, actSfn := none, fine := [], holdPending := false, own := .unowned, lastOwner := none, ownSeen := false,
    changes := 0, refHub := none, refCycle := 0, refBits := 0, suspRef := 0, counters := [0, 0, 0, 0] }

/-- What the configuration store keeps (R110, R141): JOIN_ASYM_p as a signed number of ps. -/
structure JoinConfig where
  stageId : Word
  planeEnable : Nat
  autoJoin : Bool
  asym : Tab Int
deriving DecidableEq, Repr

def joinConfigReset : JoinConfig := ⟨0, 0xFFFF, false, []⟩

/-- The terminal machine and everything of joining. -/
structure Join where
  phase : TermPhase
  tn : Option Nat
  planeMask : Nat
  round : Nat
  /-- The delay range W (R119). -/
  delayRange : Nat
  rejectReason : Nat
  /-- Instants at which the terminal's timers end. -/
  tCue : Option Nat
  tNoWindow : Option Nat
  tId : Option Nat
  tReject : Option Nat
  tLeave : Option Nat
  tNoPlane : Option Nat
  /-- The discovery window answered: hub, plane, and the slot index after which the answer counts as lost. -/
  discovery : Option (Hub × Nat × Nat)
  answers : List Answer
  /-- A discovery draw waits for the entropy source: its answer with delay 0, and the bound of the draw (R119, R379). -/
  drawWaits : Option (Answer × Nat)
  /-- The TN_CLASH stop of R124. -/
  clash : Bool
  planes : List PlaneMachine
  /-- Receive slot reference of the first plane activated since none was active (R63). -/
  alignRef : Option Int
  cfg : JoinConfig
  counters : List Nat
deriving DecidableEq, Repr

def joinReset : Join :=
  { phase := .offline, tn := none, planeMask := 0, round := 0, delayRange := 16, rejectReason := 0, tCue := none,
    tNoWindow := none, tId := none, tReject := none, tLeave := none, tNoPlane := none, discovery := none, answers := [], drawWaits := none,
    clash := false, planes := List.replicate 16 planeReset, alignRef := none, cfg := joinConfigReset, counters := [0, 0] }

end Sys2Proof.Machine
end

