-- ==== Sys2Proof/Machine/Types/Pins.lean ====
section
/-! DEFINITION. State of the contacts of chapter 02 and the position in time: the core cycle, the star slot and the output time. -/

namespace Sys2Proof.Machine

/-- Latched straps and the levels of the contacts that hold one (R37 to R57). -/
structure Pins where
  slotId : Nat
  /-- The straps have been sampled since the last power-on or cold reset (R51, R539). -/
  strapped : Bool
  mfgTest : Bool
  strapFault : Bool
  resetN : Bool
  perstN : Bool
  /-- Start-up has released the PCIe controller, subject to PERST_N (R543). -/
  pcieReleased : Bool
  /-- TRST_N; its pull-down holds the test access port in reset (R50). -/
  trstN : Bool
  pwrfailN : Bool
  /-- CREF carries its clock (R37). -/
  cref : Bool
  /-- SYNC_REF carries its clock (R39). -/
  syncRef : Bool
  /-- The live level of PPS_OUT; in retention the pad stays low (R57, R412). -/
  ppsOut : Bool
  /-- PERST_N and CLKREQ_N are in retention (R56, R57). -/
  pcieRetained : Bool
  /-- Every other LS-CORE pad is in retention (R56, R57). -/
  retained : Bool
deriving DecidableEq, Repr

def pinsReset : Pins :=
  { slotId := 0, strapped := false, mfgTest := false, strapFault := false, resetN := true, perstN := false, pcieReleased := false, trstN := false, pwrfailN := true, cref := false,
    syncRef := false, ppsOut := false, pcieRetained := false, retained := false }

/-- A steering rate and a step of the output time that take effect at an instant (R393, R402). -/
structure Steer where
  at_ : Nat
  rate : Int
  step : Int
deriving DecidableEq, Repr

/-- The position in time. Instants count core cycles from the power-on reset; star slots count 128 to a superframe from
SFN 0 (R3, R60). -/
structure Clock where
  now : Nat
  slot : Nat
  /-- Instant of the aligned start of the slot. -/
  slotAt : Nat
  /-- The output time in units of 2^-48 ns: seconds, nanoseconds, fraction and the 16 bits below it (R392, R393). -/
  outTime : Nat
  /-- The steering rate in units of 2^-48 ns per second (R393). -/
  rate : Int
  /-- What the servo has computed for the next slot boundary. -/
  steer : Option Steer
deriving DecidableEq, Repr

def clockReset : Clock := ⟨0, 0, 0, 0, 0, none⟩

end Sys2Proof.Machine
end

