-- ==== Sys2Proof/Machine/Types/Ports.lean ====
section
/-! DEFINITION. State of the client ports, the parse graphs, the rule sets, the destination table, load spreading and the slow path
(R283 to R323). -/

namespace Sys2Proof.Machine

/-- States of a port in the order of R320. -/
inductive PortPhase where
  | disabled
  | training
  | aligning
  | up
  | powerDown
deriving DecidableEq, Repr

/-- What a port sends toward its client (R235, R285, R287). -/
inductive ClientSignal where
  | off
  | training
  | idle
  | remoteFault
  | frames
  | clientAis
  | carried
deriving DecidableEq, Repr

/-- What PORT_CONFIG sets, kept in the configuration store (R320, R321); type 0 is disabled. -/
structure PortConfig where
  ptype : Nat
  circuit : Bool
  iface : Nat
  rsfec : Bool
  txPol : Nat
  rxPol : Nat
  maxFrame : Nat
deriving DecidableEq, Repr

def portConfigReset : PortConfig := ⟨0, false, 0, false, 0, 0, 10240⟩

/-- One frame handed to egress: its bytes with the FCS, its Larder tokens, and what a host frame asks for (R291, R408). -/
structure EgressFrame where
  data : List Byte
  tokens : List Nat
  cls : Nat
  tsReq : Bool
  oneStep : Bool
  ptpOff : Nat
  tsId : Nat
deriving DecidableEq, Repr

/-- One client port, indexed by its number. -/
structure Port where
  cfg : PortConfig
  phase : PortPhase
  lf : Bool
  rf : Bool
  /-- Lanes with LOS, by their place in the port. -/
  los : Nat
  /-- T_TRAIN expiries in a row; PORT_STATUS shows at most 255 (R287, R320). -/
  trainFails : Nat
  tTrain : Option Nat
  counters : List Nat
  /-- The eight transmit queues (R291). -/
  queues : List (List EgressFrame)
  /-- The meters attached to the transmit queues (R331). -/
  shapers : List (Option Nat)
  /-- Express groups and tributary circuits that carry the port (R285). -/
  carriers : Nat
deriving DecidableEq, Repr

def portReset : Port :=
  { cfg := portConfigReset, phase := .disabled, lf := false, rf := false, los := 0, trainFails := 0, tTrain := none,
    counters := List.replicate 13 0, queues := List.replicate 8 [], shapers := List.replicate 8 none, carriers := 0 }

/-- A parse graph image: its node records, 32 words each, by number (R296). -/
structure GraphImage where
  nodes : Tab (List Word)
  locked : Bool
deriving DecidableEq, Repr

def graphImageReset : GraphImage := ⟨[], false⟩

/-- One range comparator (R301). -/
structure Comparator where
  off : Nat
  low : Nat
  high : Nat
deriving DecidableEq, Repr

/-- A comparator that is never true. -/
def comparatorReset : Comparator := ⟨0, 1, 0⟩

/-- A rule set (R300, R301, R308): rule records of 40 words by index, comparators, hash profiles as 576-bit masks, the default
action in the format of rule words 37 and 38, and the miss action. -/
structure RuleSet where
  rules : Tab (List Word)
  comparators : Tab Comparator
  profiles : Tab Nat
  action : Word
  policer : Word
  missSlow : Bool
  locked : Bool
  usesL4 : Bool
deriving DecidableEq, Repr

def ruleSetReset : RuleSet := ⟨[], [], [], 0, 0, false, false, false⟩

/-- One frame on its way into a parser: its port, its bytes with the FCS, and its receive timestamp (R290, R407). -/
structure InFrame where
  port : Nat
  data : List Byte
  ts : Option Nat
deriving DecidableEq, Repr

/-- One slow-path frame that has passed the policer (R314, R461, R464). -/
structure SlowFrame where
  reason : Nat
  untrusted : Bool
  port : Nat
  cls : Nat
  epoch : Nat
  /-- The receive timestamp, where the port has a timestamping channel (R407). -/
  ts : Option Nat
  symHash : Option Nat
  watch : Option Nat
  data : List Byte
  tokens : List Nat
deriving DecidableEq, Repr

/-- One packet flow binding (R312). -/
structure FlowBinding where
  table : Nat
  plane : Nat
  hash : Nat
  frames : Nat
deriving DecidableEq, Repr

def flowBindingReset : FlowBinding := ⟨0, 0, 0, 0⟩

/-- The slow-path policer (R315): rate in units of 100 Mbit/s, burst in bytes, and its fill in units of 1/140 byte. -/
structure SlowBucket where
  rate : Nat
  burst : Nat
  fill : Nat
  at_ : Nat
deriving DecidableEq, Repr

def slowBucketReset : SlowBucket := ⟨20, 262144, 262144 * 140, 0⟩

/-- Ports and classification. Rule set and graph indices are those of their channels; none is the built-in one. -/
structure Ports where
  ports : Tab Port
  fifos : Tab (List InFrame)
  /-- By pipeline, the cycle of the last push and the frames pushed in it, and the cycle after that of the last pop (R19, R290). -/
  fifoNew : Tab (Option (Nat × Nat))
  parserFree : Tab Nat
  graphs : Tab GraphImage
  ruleSets : Tab RuleSet
  graph : Option Nat
  ruleSet : Option Nat
  epoch : Nat
  /-- The graph and rule set of an older epoch still in flight (R317). -/
  older : Option (Option Nat × Option Nat)
  /-- Instant by which it has drained (R317). -/
  drainBy : Nat
  /-- Results by lookup key: 23 bits as FIB_INSERT word 3, and whether the entry lies in the stash (R305, R306). -/
  fib : Tab (Option (Nat × Bool))
  /-- Planes by 256 t + entry that differ from entry mod 16 (R309). -/
  indirection : Tab (Option Nat)
  bindings : Tab FlowBinding
  slow : SlowBucket
  slowQueue : List SlowFrame
  counters : List Nat
deriving DecidableEq, Repr

def portsReset : Ports :=
  { ports := [], fifos := [], fifoNew := [], parserFree := [], graphs := [], ruleSets := [], graph := none, ruleSet := none, epoch := 0, older := none, drainBy := 0, fib := [],
    indirection := [], bindings := [], slow := slowBucketReset, slowQueue := [], counters := List.replicate 17 0 }

end Sys2Proof.Machine
end

