-- ==== Sys2Proof/Machine/Types/Power.lean ====
section
/-! DEFINITION. State of power states, the thermal plant, the HOLD store and the Curtain (R513 to R538). -/

namespace Sys2Proof.Machine

/-- One demultiplexer loop (R521). -/
structure DemuxLoop where
  /-- It has settled once since power-on or cold reset. -/
  settledOnce : Bool
  settled : Bool
deriving DecidableEq, Repr

/-- The power states of R513. -/
inductive PowerState where
  | run
  | quiet
  | dormant
  | standby
  | curtain
deriving DecidableEq, Repr

/-- What the configuration store keeps (R522, R526, R537): states as POWER_STATE codes them, wake_after in s, coolant_high in °C and
c_nom in units of 0.1 mF. -/
structure PowerConfig where
  wakeTarget : Nat
  autoRestart : Bool
  wakeAfter : Nat
  coolantHigh : Nat
  cNom : Nat
deriving DecidableEq, Repr

def powerConfigReset : PowerConfig := ⟨0, true, 0, 45, 470⟩

/-- A transition that runs: its target as POWER_STATE codes it, the instant at which it began, and the gates whose close or opening
waits for the secure world (R515). -/
structure Transition where
  target : Nat
  since : Nat
  waiting : List Nat
  /-- The 100 ms have passed: no gate is requested any more. -/
  gaveUp : Bool
deriving DecidableEq, Repr

/-- One condition of R522: whether it is held, and since when its raising or clearing reading has stood. -/
structure Watch where
  held : Bool
  rising : Option Nat
  falling : Option Nat
deriving DecidableEq, Repr

def watchReset : Watch := ⟨false, none, none⟩

/-- The HOLD store (R525 to R528): readings in mV and mA, charge in pC, capacitance in nF. -/
structure Store where
  volt : Int
  current : Int
  charge : Int
  cLearn : Nat
  measured : Bool
  /-- A charge runs, since when, and whether it has failed the checks. -/
  charging : Bool
  chargeAt : Nat
  failed : Bool
  /-- The charge that runs has been measured. -/
  checked : Bool
  missing : Bool
  fault : Bool
  skew : Bool
deriving DecidableEq, Repr

/-- C_learn is c_nom until the first measurement. Assumption 36. -/
def storeReset (cNom : Nat) : Store := ⟨0, 0, 0, cNom * 100000, false, false, 0, false, false, false, false, false⟩

/-- A Curtain that runs (R529 to R534): its cause, the instant of its trigger, the slot in which it took effect, whether it began in
RUN, the estimates at the trigger, the planes with a call that is planned and the slot of each, which bursts are refused, and the
instant of the last reading of the fast monitor. -/
structure Curtain where
  cause : Nat
  at_ : Nat
  slot : Nat
  fromRun : Bool
  vAbsent : Bool
  cAbsent : Bool
  /-- Calls that are planned, as plane and slot index. -/
  calls : List (Nat × Nat)
  /-- Planes whose first standing report grant has been decided. -/
  called : List Nat
  refuseOptional : Bool
  refuseAll : Bool
  readAt : Nat
  message : List Byte
deriving DecidableEq, Repr

/-- Everything of power, heat and the Curtain. Gates are numbered as R518 numbers them. -/
structure Power where
  state : PowerState
  cfg : PowerConfig
  demux : List DemuxLoop
  transition : Option Transition
  /-- VIN is good (R514). -/
  vinGood : Bool
  /-- VIN is present. -/
  vin : Bool
  /-- AUX is present. -/
  aux : Bool
  /-- The power-up of chapter 20 starts at VIN good without a wake: with last_wake 0 after a reset, 4 after a Curtain (R514, R539). -/
  startWanted : Option Nat
  /-- The wake that is held, and the last one (R516, R537). -/
  heldWake : Option Nat
  lastWake : Nat
  lastCause : Nat
  wakeAt : Option Nat
  /-- Gates closed by a normal-world request, and gates closed by the Stagehand (R518, R519). -/
  closedHost : List Nat
  closedIsland : List Nat
  /-- Gates whose recorded request is the Stagehand's (R515). -/
  gateReq : List Nat
  /-- Planes held by the change to QUIET (R514). -/
  planesHeld : List Nat
  /-- Coolant in use in 0.001 °C, and the conditions LOW, HIGH, CRITICAL and FLOW (R522, R523). -/
  inlet : Int
  outlet : Int
  watches : List Watch
  /-- Junction readings in 0.01 °C by sensor. -/
  junctions : List Int
  junctionHigh : Bool
  /-- Transmitters with a heater fault, and the throttle level counted up to an instant (R520, R536). -/
  heaterFault : List Nat
  throttledAt : Nat
  store : Store
  /-- A trigger that has not taken effect: its cause and instant (R529). -/
  trigger : Option (Nat × Nat)
  curtain : Option Curtain
  /-- RESET_N stands low and waits for the end of a Curtain (R47). -/
  resetHeld : Bool
  counters : List Nat
deriving DecidableEq, Repr

def powerReset : Power :=
  { state := .standby, cfg := powerConfigReset, demux := List.replicate 16 ⟨false, false⟩, transition := none, vinGood := false,
    vin := false, aux := true, startWanted := some 0, heldWake := none, lastWake := 0, lastCause := 0, wakeAt := none, closedHost := [],
    closedIsland := [], gateReq := [], planesHeld := [], inlet := 0, outlet := 0, watches := List.replicate 4 watchReset,
    junctions := List.replicate 60 0, junctionHigh := false, heaterFault := [], throttledAt := 0,
    store := storeReset 470, trigger := none, curtain := none, resetHeld := false, counters := List.replicate 12 0 }

end Sys2Proof.Machine
end

