-- ==== Sys2Proof/Machine/Types/Queues.lean ====
section
/-! DEFINITION. State of the virtual output queues, the meters, the egress buffer, multicast replication, the Larder and the HBM
stacks (R324 to R350). -/

namespace Sys2Proof.Machine

/-- One frame in a plane queue: its bytes with the FCS, the egress port at its destination, its HBM tokens and stacks, and the
instant at which it reached the head of its queue, and the transmitter whose burst passed it over last (R175, R193, R344). -/
structure QFrame where
  data : List Byte
  port : Nat
  tokens : List Nat
  headAt : Option Nat
  passedBy : Option Nat
deriving DecidableEq, Repr

/-- VOQ_CONFIG (R349), kept in the configuration store; limits in units of 64 KiB. -/
structure VoqConfig where
  quantum : Nat
  limit : Nat
  yellow : Nat
deriving DecidableEq, Repr

def voqConfigReset : VoqConfig := ⟨10240, 4096, 2048⟩

/-- One VOQ (d, c), indexed by 8 d + c: its shaper and its nine counters (R331, R348). -/
structure Voq where
  shaper : Option Nat
  counters : List Nat
deriving DecidableEq, Repr

def voqReset : Voq := ⟨none, List.replicate 9 0⟩

/-- The DRR state of a destination and plane (R327): class pointer, fresh, and the deficit of each class. -/
structure Drr where
  ptr : Nat
  fresh : Bool
  deficits : List Nat
deriving DecidableEq, Repr

def drrReset : Drr := ⟨0, true, [0, 0, 0, 0, 0, 0, 0, 0]⟩

/-- What a shaper is attached to (R331): VOQ (d, c) or queue q of a port. -/
inductive ShaperTarget where
  | voq (d c : Nat)
  | portQueue (port q : Nat)
deriving DecidableEq, Repr

/-- One meter (R330, R331). Rates are in Mbit/s, sizes in bytes, buckets in units of 1/14,000 byte. -/
structure Meter where
  shaper : Bool
  aware : Bool
  colourOff : Nat
  colourMap : Nat
  cir : Nat
  pir : Nat
  cbs : Nat
  pbs : Nat
  tc : Int
  tp : Int
  at_ : Nat
  target : Option ShaperTarget
  counters : List Nat
deriving DecidableEq, Repr

def meterReset : Meter := ⟨false, false, 0, 0, 0, 0, 0, 0, 0, 0, 0, none, [0, 0, 0, 0, 0, 0]⟩

/-- One class of the egress buffer (R332, R348): reserve, cap, cells in use, and its three counters. -/
structure EgressClass where
  min : Nat
  cap : Nat
  used : Nat
  admitted : Nat
  drops : Nat
  highest : Nat
deriving DecidableEq, Repr

def egressClassReset : EgressClass := ⟨4096, 483328, 0, 0, 0, 0⟩

/-- One multicast group channel: its group and a mask of port numbers (R335). -/
structure McastChannel where
  group : Nat
  ports : Nat
deriving DecidableEq, Repr

def mcastChannelReset : McastChannel := ⟨0, 0⟩

/-- One buffer: its count and last owner (R341); that the last owner's use has ended and waits for the post (R342); and the class whose
cell it is in the egress buffer (R332). -/
structure Buffer where
  count : Nat
  last : Nat
  ended : Bool
  cls : Option Nat
deriving DecidableEq, Repr

def bufferReset : Buffer := ⟨0, 0, false, none⟩

/-- What the requesters have done at a pool's cache in one cycle (R338, R578): the cycle, the allocations and the frees, the
tokens pushed, and the last requester of each kind. -/
structure CycleUse where
  at_ : Nat
  allocs : Nat
  frees : Nat
  fresh : Nat
  allocBy : Nat
  freeBy : Nat
deriving DecidableEq, Repr

/-- One pool (R336): buffers, the stack of its region and buffer size; its free ring, from which `popped` tokens have been taken and
to which `pushed` have been put since it was made, those put standing in `ring` by their place; its cache; frees that are held,
as (token, owner), since when, and the instant up to which their cycles are counted. -/
structure Pool where
  total : Nat
  stack : Nat
  size : Nat
  popped : Nat
  pushed : Nat
  ring : Tab (Option Nat)
  cache : List Nat
  use : CycleUse
  held : List (Nat × Nat)
  heldSince : Option Nat
  heldCounted : Nat
  lost : Bool
  stalled : Bool
  counters : List Nat
deriving DecidableEq, Repr

def poolReset : Pool := ⟨0, 0, 0, 0, 0, [], [], ⟨0, 0, 0, 0, 0, 0⟩, [], none, 0, false, false, List.replicate 7 0⟩

/-- A pool with every buffer in its ring. -/
def freshPool (total stack size : Nat) : Pool := { poolReset with total := total, stack := stack, size := size }

/-- Queues and the Larder. Plane queues are indexed by ((1024 d + group) * 8 + c) * 16 + p, with group 0 for d below 30, and the DRR
state by (1024 d + group) * 16 + p. -/
structure Queues where
  voqCfg : Tab VoqConfig
  voqs : Tab Voq
  planeQueues : Tab (List QFrame)
  drrs : Tab Drr
  meters : Tab Meter
  egress : List EgressClass
  mcasts : Tab McastChannel
  pools : Tab Pool
  buffers : Tab Buffer
  /-- Release FIFOs by owner code (R341). -/
  releases : Tab (List Nat)
  /-- Tokens recorded as held by PF0 (R350), and those of queue pairs as (pair, token) (R459). -/
  pf0Tokens : List Nat
  qpTokens : List (Nat × Nat)
  /-- The stripe number s of R344. -/
  stripe : Nat
  /-- Frames dropped for a group without channel or ports (R335). -/
  mcastDrops : Nat
deriving DecidableEq, Repr

def poolsReset : Tab Pool :=
  [(0, freshPool 516096 0 256), (1, freshPool 23855104 0 512), (2, freshPool 23855104 1 512), (3, freshPool 23855104 2 512),
   (4, freshPool 23855104 3 512)]

def queuesReset : Queues :=
  { voqCfg := [], voqs := [], planeQueues := [], drrs := [], meters := [], egress := List.replicate 8 egressClassReset,
    mcasts := [], pools := poolsReset, buffers := [], releases := [], pf0Tokens := [], qpTokens := [], stripe := 0,
    mcastDrops := 0 }

end Sys2Proof.Machine
end

