-- ==== Sys2Proof/Machine/Types/Rx.lean ====
section
/-! DEFINITION. State of the receive side: the lanes, the slot in hand, the landing bank, reassembly and membership (R196 to
R226). -/

namespace Sys2Proof.Machine

/-- An open reassembly context: the slot and lane of the head, the frame as its head states it, its bytes and cells so far, and whether
the head's tag failed (R211, R212). -/
structure Context where
  slot : Nat
  lane : Nat
  frameLen : Nat
  cls : Nat
  data : List Byte
  tokens : List Nat
  untrusted : Bool
deriving DecidableEq, Repr

/-- What one lane has received in one slot (R200 to R216). Verdict and cmp are the codes of R200 and R215. -/
structure RxRecord where
  verdict : Nat
  cmp : Nat
  /-- A header was decoded. -/
  decoded : Bool
  type : Nat
  tn : Nat
  noTn : Bool
  x : Nat
  corr : Nat
  rsCorr : Nat
  uncorr : Nat
  wlErr : Int
  arrival : Int
  /-- Kind of the frozen grant, and the TN that it names. -/
  kind : Nat
  grantTn : Nat
  /-- A reserved express lane without a back-end channel (R207). -/
  noChannel : Bool
  /-- The burst is discarded under R209 or R368. -/
  failed : Bool
  /-- The context that the burst's tail may complete (R212). -/
  ctx : Option Context
  /-- The transmitter whose launched burst the frozen grant expects on this lane (R186). -/
  own : Option Nat
  /-- The 272 field bits of the decoded header. -/
  header : Nat
  /-- Of a kept burst: its 54,400 descrambled payload bits, the key and the IV of its cipher, and once its codewords are decoded its
  information area and the bytes of it that lie before the first uncorrectable one (R209). -/
  bits : Nat
  cipher : Option (BitVec 256 × Nat)
  info : Option Nat
  readable : Nat
deriving DecidableEq, Repr

/-- Darkness on a lane without a grant. -/
def rxRecordReset : RxRecord :=
  { verdict := 0, cmp := 0, decoded := false, type := 0, tn := 0, noTn := false, x := 0, corr := 0, rsCorr := 0, uncorr := 0,
    wlErr := 0, arrival := 0, kind := 0, grantTn := 0, noChannel := false, failed := false, ctx := none, own := none, header := 0,
    bits := 0, cipher := none, info := none, readable := 0 }

/-- One receive lane (R219, R222, R224, R225). -/
structure RxLane where
  /-- The entry of the last drained slot. -/
  entry : BitVec 64
  missing : Bool
  missRun : Nat
  cleanRun : Nat
  degraded : Bool
  /-- Header bits and errors of the quality window that runs. -/
  bits : Nat
  errors : Nat
  quality : Nat
  closedAt : Option Nat
  counters : List Nat
deriving DecidableEq, Repr

def rxLaneReset : RxLane :=
  { entry := 0, missing := false, missRun := 0, cleanRun := 0, degraded := false, bits := 0, errors := 0, quality := 0,
    closedAt := none, counters := List.replicate 16 0 }

/-- The receive side. Lanes are numbered 64 p + w; the counters of senders by 32 p + tn; contexts by 512 tn + x. -/
structure Rx where
  lanes : Tab RxLane
  /-- The slot whose bursts are in hand, and what its lanes received. -/
  slot : Option Nat
  records : Tab RxRecord
  /-- The slot that has landed last, its landing bank, and what the reconciler needs beside it (R216, R217). -/
  landed : Option Nat
  bank : Tab (BitVec 64)
  drained : Tab RxRecord
  senders : Tab (List Nat)
  /-- Membership bits by group: before and from the slot `memberAt` on (R214). -/
  member : Nat
  memberNext : Nat
  memberAt : Nat
  contexts : Tab (Option Context)
  /-- Reserved express lanes by slot, in ascending order, as they were at the slot's freeze point (R207). -/
  reserved : Tab (List Nat)
  /-- Own bursts launched, as slot index and transmitter (R124). -/
  launched : List (Nat × Nat)
deriving DecidableEq, Repr

def rxReset : Rx :=
  { lanes := [], slot := none, records := [], landed := none, bank := [], drained := [], senders := [], member := 0, memberNext := 0,
    memberAt := 0, contexts := [], reserved := [], launched := [] }

end Sys2Proof.Machine
end

