-- ==== Sys2Proof/Machine/Types/Security.lean ====
section
/-! DEFINITION. State of line security and the Strongroom (R351 to R391). -/

namespace Sys2Proof.Machine

/-- One epoch of a key in the line key store: its 2-bit number, its activation SFN, the slot index at which it was installed (R352,
R364), the key for sending, and the key for receiving, which for the hub key is the hub KEK (R374). -/
structure KeyEpoch where
  num : Nat
  act : Nat
  inst : Nat
  tx : BitVec 256
  rx : BitVec 256
deriving DecidableEq, Repr

def keyEpochReset : KeyEpoch := ⟨0, 0, 0, 0, 0⟩

/-- One key: its epochs, oldest first, and the number of the epoch that is current for sending. -/
structure LineKey where
  epochs : List KeyEpoch
  current : Option Nat
deriving DecidableEq, Repr

def lineKeyReset : LineKey := ⟨[], none⟩

/-- One sequence record copy in MRAM (R358). -/
structure SeqRecord where
  q : Nat
  writes : Nat
  valid : Bool
deriving DecidableEq, Repr

/-- The burst sequence (R356 to R361). -/
structure Sequence where
  recA : SeqRecord
  recB : SeqRecord
  /-- MRAM: the disable mark of R361. -/
  disabled : Bool
  /-- The sequence offset D, once set. -/
  offset : Option Int
  /-- The last value assigned since the reset, and the values of the slots that are frozen and have not passed. -/
  last : Option Nat
  assigned : Tab Nat
  /-- A record value being written. -/
  writing : Option Nat
  halted : Bool
deriving DecidableEq, Repr

/-- The factory state: copy A holds a valid record of Q = 0 (R360). -/
def sequenceReset : Sequence :=
  { recA := ⟨0, 0, true⟩, recB := ⟨0, 0, false⟩, disabled := false, offset := none, last := none, assigned := [], writing := none,
    halted := false }

/-- A header's epoch that replaces the predicted one of a key from a slot on, while the predicted one is `base` (R363). -/
structure EpochGuess where
  key : Nat
  from_ : Nat
  epoch : Nat
  base : Option Nat
deriving DecidableEq, Repr

/-- The prediction of one sender (R362, R363): the offset in force, those that start at later slots, earliest first, and the epochs
that its headers have named. -/
structure Prediction where
  offset : Option Int
  next : List (Nat × Int)
  epochs : List EpochGuess
deriving DecidableEq, Repr

def predictionReset : Prediction := ⟨none, [], []⟩

/-- States of a key association in the order of R390. -/
inductive AssocPhase where
  | idle
  | offered
  | withdrawn
deriving DecidableEq, Repr

/-- What an offer keeps secret, and its nonce: the ECDH private key and the ML-KEM seed (R372, R374). -/
structure OfferSecret where
  ecdh : BitVec 384
  kem : BitVec 512
  nonce : BitVec 256
deriving DecidableEq, Repr

def offerSecretReset : OfferSecret := ⟨0, 0, 0⟩

/-- One peer key association, or the exchange of the hub key (R375). -/
structure Association where
  peer : Nat
  phase : AssocPhase
  /-- The epoch offered and its activation SFN. -/
  offer : KeyEpoch
  secret : OfferSecret
  recId : Nat
  /-- T_ANS expiries in a row, and the slot index at which T_ANS ends. -/
  expiries : Nat
  tAns : Option Nat
  /-- Slot index at which a WITHDRAWN association offers again. -/
  reofferAt : Option Nat
  /-- An offer waits for the entropy source (R379). -/
  waiting : Bool
deriving DecidableEq, Repr

def associationReset : Association := ⟨0, .idle, keyEpochReset, offerSecretReset, 0, 0, none, none, false⟩

/-- A key record reassembled whole: its kind, its originator and identity, and its bytes (R370, R372). -/
structure KeyRecord where
  kind : Nat
  fromTn : Nat
  recId : Nat
  bytes : List Byte
deriving DecidableEq, Repr

/-- A key record being reassembled (R370): kind, originator, identity, segments by index, total, and the slot index of its end. -/
structure PartialRecord where
  kind : Nat
  fromTn : Nat
  recId : Nat
  total : Nat
  segs : List (Nat × List Byte)
  deadline : Nat
deriving DecidableEq, Repr

/-- One key segment that waits for a hub (R370, R371): its kind, addressee, record, place, and data. -/
structure KeySegment where
  recKind : Nat
  toTn : Nat
  recId : Nat
  index : Nat
  total : Nat
  data : List Byte
deriving DecidableEq, Repr

/-- States of the entropy source in the order of R390. -/
inductive EntropyPhase where
  | running
  | startupTest
  | failed
deriving DecidableEq, Repr

/-- One firewall rule (R383). -/
structure FwRule where
  base : Word
  limit : Word
  flags : Word
deriving DecidableEq, Repr

def fwRuleReset : FwRule := ⟨0, 0, 0⟩

/-- KEY_POLICY (R390), kept in the configuration store. -/
structure KeyPolicy where
  limitLog2 : Nat
  rollLog2 : Nat
  untrusted : Bool
  autoAnswer : Bool
deriving DecidableEq, Repr

def keyPolicyReset : KeyPolicy := ⟨36, 30, false, true⟩

/-- One copy of the anti-rollback counter in MRAM (R387). -/
structure RollbackCopy where
  value : Nat
  valid : Bool
deriving DecidableEq, Repr

/-- Line security and the Strongroom. Keys are numbered: pair key to TN d is d, the self key 30, the hub key 31, group key g is
64 + g. Predictions are numbered by TN. -/
structure Security where
  keys : Tab LineKey
  seq : Sequence
  predictions : Tab Prediction
  assocs : Tab Association
  hubAssoc : Association
  partials : List PartialRecord
  /-- Records reassembled whole that have not been processed. -/
  complete : List KeyRecord
  /-- The hub queues of hub A and hub B, 64 segments each, and what firmware holds beyond them. -/
  hubQueueA : List KeySegment
  hubQueueB : List KeySegment
  backlogA : List KeySegment
  backlogB : List KeySegment
  nextRecId : Nat
  /-- Records that wait for the entropy source (R379). -/
  waitingRecords : List KeyRecord
  /-- The identity blob of the DISCOVERY_ACK answered last (R117, R122). -/
  identity : List Byte
  /-- The masks of the block that the masked engine carried out last (R378). -/
  mask : BitVec 256
  entropy : EntropyPhase
  entropyFailures : Nat
  drbgRequests : Nat
  reseedAt : Nat
  /-- When the source failed or was tested last: its start-up test is repeated every 1 s (R379). -/
  testedAt : Nat
  debugOpen : Bool
  /-- Gates owned by the secure world, and recorded requests: true to close (R381, R382). -/
  owned : List Nat
  deferred : Tab (Option Bool)
  /-- Rules of the normal world at 0 to 31 and of the secure world at 32 to 63. -/
  rules : Tab FwRule
  /-- Rule writes that wait, the first of them in force since `ruleAt` and not yet acknowledged; accesses that have not completed, those
  checked under the old rule apart (R385). -/
  ruleWrites : List (Nat × FwRule)
  ruleAt : Nat
  oldFlight : Nat
  inFlight : Nat
  /-- The last host access completed with Unsupported Request (R384). -/
  unsupported : Bool
  rollbackA : RollbackCopy
  rollbackB : RollbackCopy
  /-- KEY_POLICY, and what it is from slot `policyAt` on (R391). -/
  policy : KeyPolicy
  policyNext : KeyPolicy
  policyAt : Nat
  counters : List Nat
deriving DecidableEq, Repr

/-- The factory rules of the normal world (R419; assumption 11): Zordin and PF0 read and write every address, PF1 reads. -/
def factoryRules : Tab FwRule := [(0, ⟨0, 0xFFFFFFFF, 0x37⟩), (1, ⟨0, 0xFFFFFFFF, 0x43⟩)]

def securityReset : Security :=
  { keys := [], seq := sequenceReset, predictions := [], assocs := [], hubAssoc := { associationReset with peer := 30 },
    partials := [], complete := [], hubQueueA := [], hubQueueB := [], backlogA := [], backlogB := [], nextRecId := 0, waitingRecords := [],
    identity := [], mask := 0,
    entropy := .startupTest, entropyFailures := 0, drbgRequests := 0, reseedAt := 0, testedAt := 0, debugOpen := false, owned := [], deferred := [],
    rules := factoryRules, ruleWrites := [], ruleAt := 0, oldFlight := 0, inFlight := 0, unsupported := false, rollbackA := ⟨0, true⟩, rollbackB := ⟨0, false⟩,
    policy := keyPolicyReset, policyNext := keyPolicyReset, policyAt := 0, counters := List.replicate 12 0 }

end Sys2Proof.Machine
end

