-- ==== Sys2Proof/Machine/Types/Sensing.lean ====
section
/-! DEFINITION. State of the Stagehand island: its regulator, the sensing chain, the sensor channels and the console (R490 to R512). -/

namespace Sys2Proof.Machine

/-- SENSE_CONFIG (R511), kept in the configuration store. -/
structure SenseConfig where
  counts : List Nat
  steps : List Nat
  scan : Bool
deriving DecidableEq, Repr

/-- The defaults of R495 and R502. -/
def senseConfigReset : SenseConfig :=
  ⟨[2, 2, 2, 2, 2, 2, 1, 1, 1, 1, 1, 1, 1, 1, 1, 1], List.replicate 16 32, true⟩

/-- The conversion chain (R495 to R502), which every island reset restarts. -/
structure Chain where
  /-- The chain emits outputs. -/
  started : Bool
  /-- Integrators and comb delays of the CIC, and the modulator bits since its last output. -/
  integrators : List Int
  combs : List Int
  bits : Nat
  /-- The last 32 values at 16 kHz and the last 24 at 8 kHz, newest first, in units of 2^-24 and of 2^-43. -/
  fir : List Int
  odd : Bool
  hist : List Int
  /-- Values at 8 kHz since the last switch of the multiplexer. -/
  since : Nat
  /-- Fraction of the grid instant's position in units of 2^-32 input samples. -/
  pos : Nat
  /-- P in units of 2^-32 ns (R498), and the measurements within its limit in a row. -/
  period : Nat
  rcRun : Nat
  /-- The converting input, the outputs left in its dwell, and the dwell's extensions (R495, R504). -/
  input : Nat
  left : Nat
  extended : Nat
  /-- Outputs that are still to be marked UNSETTLED (R502). -/
  unsettled : Nat
  /-- Bank B is active; the coefficients written, at index for set 0 and 16 + index for set 1 (R501). -/
  active : Bool
  bankA : Tab (Option Nat)
  bankB : Tab (Option Nat)
  /-- A pending swap, and who waits for it, unless a reset of the function has dropped the command. -/
  swap : Option (Option (Source × Nat))
  /-- Instant of the last output, and whether its TIME is island time (R499, R500). -/
  lastOut : Option Nat
  island : Bool
deriving DecidableEq, Repr

/-- The chain after an island reset: factory coefficients, bank A, P = 125 µs (R498, R501). -/
def chainReset : Chain :=
  { started := false, integrators := [0, 0, 0, 0], combs := [0, 0, 0, 0], bits := 0, fir := [], odd := false, hist := [], since := 0,
    pos := 0, period := 125000 * 2 ^ 32, rcRun := 0, input := 0, left := 0, extended := 0, unsettled := 0, active := false,
    bankA := [], bankB := [], swap := none, lastOut := none, island := true }

/-- One input: its last sample, its OPEN runs and fault, its last good sample and when it came, and its five counters (R504, R505,
R510). -/
structure SenseInput where
  last : BitVec 64
  prevOpen : Bool
  openRun : Nat
  clearRun : Nat
  fault : Bool
  good : BitVec 64
  goodAt : Option Nat
  counters : List Nat
deriving DecidableEq, Repr

def senseInputReset : SenseInput := ⟨0, false, 0, 0, false, 0, none, [0, 0, 0, 0, 0]⟩

/-- One sensor channel (R506): its settings, its FIFO, oldest first, and its threshold runs. -/
structure SensorChannel where
  input : Nat
  all : Bool
  highEn : Bool
  lowEn : Bool
  persist : Nat
  high : Int
  low : Int
  hyst : Int
  fifo : List (BitVec 64)
  /-- Cycle of the last push and the samples pushed in it (R19). -/
  new : Option (Nat × Nat)
  drops : Nat
  highRun : Nat
  lowRun : Nat
deriving DecidableEq, Repr

def sensorChannelReset : SensorChannel := ⟨0, false, false, false, 0, 0, 0, 0, [], none, 0, 0, 0⟩

/-- The console (R507): its input FIFO, oldest first, whether it waits for the line to read 1, its five counters, and the diagnostic
monitor's last answer, whose text the spec leaves open (R549). -/
structure Console where
  fifo : List Byte
  /-- The line that the diagnostic monitor has taken so far (R549). -/
  line : List Byte
  inBreak : Bool
  counters : List Nat
  /-- The last answer of the diagnostic monitor: when it began and its text (R549). -/
  answer : Option (Nat × List Byte)
deriving DecidableEq, Repr

def consoleReset : Console := ⟨[], [], false, [0, 0, 0, 0, 0], none⟩

/-- The island (R490 to R493). `low` is MODE; `wakePending` is a wake that came while the core did not wait. -/
structure Island where
  low : Bool
  modeReq : Nat
  bor : Bool
  borCount : Nat
  waiting : Bool
  wakePending : Bool
  /-- Instant at which island time was 0. -/
  zero : Nat
  cfg : SenseConfig
  /-- The configuration in force since the last multiplexer switch (R512). -/
  inForce : SenseConfig
  chain : Chain
  inputs : Tab SenseInput
  /-- Consumers 1 to 5 that have fallen back (R505). -/
  fallback : List Bool
  channels : Tab SensorChannel
  console : Console
deriving DecidableEq, Repr

def islandReset : Island :=
  { low := false, modeReq := 0, bor := false, borCount := 0, waiting := false, wakePending := false, zero := 0,
    cfg := senseConfigReset, inForce := senseConfigReset, chain := chainReset, inputs := [], fallback := List.replicate 5 false,
    channels := [], console := consoleReset }

end Sys2Proof.Machine
end

