-- ==== Sys2Proof/Machine/Bits.lean ====
section
/-! DEFINITION. Bit fields of words, two's-complement readings, saturating counts and the check codes of R577 and R236. -/

namespace Sys2Proof.Machine

/-- Bits `lo + len - 1 : lo` of a word as a number (R5). -/
def fieldOf (w : Word) (lo len : Nat) : Nat := (w.toNat >>> lo) % 2 ^ len

/-- Bit `i` of a word. -/
def bitOf (w : Word) (i : Nat) : Bool := w.getLsbD i

/-- A number as a word; the high bits fall away. -/
def wordOf (n : Nat) : Word := BitVec.ofNat 32 n

/-- A truth value as one bit. -/
def bitNat (b : Bool) : Nat := if b then 1 else 0

/-- A word built of fields, each given by its low bit and its value; the fields do not overlap (R5). -/
def pack (fs : List (Nat × Nat)) : Word := wordOf (fs.foldl (fun a f => a + f.2 * 2 ^ f.1) 0)

/-- The number of `len` bits read as two's complement. -/
def signedOf (len n : Nat) : Int :=
  if n % 2 ^ len < 2 ^ (len - 1) then (n % 2 ^ len : Nat) else (n % 2 ^ len : Nat) - (2 ^ len : Nat)

/-- An integer as the two's-complement number of `len` bits. -/
def unsignedOf (len : Nat) (i : Int) : Nat := (i % ((2 ^ len : Nat) : Int)).toNat

/-- An integer as a 32-bit two's-complement word. -/
def wordOfInt (i : Int) : Word := wordOf (unsignedOf 32 i)

/-- An integer held to `lo .. hi`. Assumption 82. -/
def clampInt (lo hi i : Int) : Int := if i < lo then lo else if hi < i then hi else i

/-- A count of `width` bits that saturates (R451, R487 and the other counter rules). -/
def satAdd (width n k : Nat) : Nat := if n + k < 2 ^ width then n + k else 2 ^ width - 1

/-- Element `i` of a list of words, 0 past its end. -/
def wordAt (ws : List Word) (i : Nat) : Word := ws.getD i 0

/-- The low word and the high word of a 64-bit number. -/
def lowWord (n : Nat) : Word := wordOf n
def highWord (n : Nat) : Word := wordOf (n / 2 ^ 32)

/-- The bit mask of the places `0 .. n - 1` at which `f` holds. -/
def maskOf (f : Nat → Bool) : Nat → Nat
  | 0 => 0
  | n + 1 => maskOf f n + (if f n then 2 ^ n else 0)

/-- Is bit `i` of the number 1? -/
def maskBit (m i : Nat) : Bool := m.testBit i

/-- A number with one bit set or cleared. -/
def withBit (n i : Nat) (b : Bool) : Nat := if n.testBit i == b then n else if b then n + 2 ^ i else n - 2 ^ i

/-- The four bytes of a word in host-memory order (R7). -/
def bytesOfWord (w : Word) : List Byte :=
  [BitVec.ofNat 8 w.toNat, BitVec.ofNat 8 (w.toNat / 2 ^ 8), BitVec.ofNat 8 (w.toNat / 2 ^ 16), BitVec.ofNat 8 (w.toNat / 2 ^ 24)]

/-- The bytes of a list of words in host-memory order (R7). -/
def bytesOfWords (ws : List Word) : List Byte := ws.flatMap bytesOfWord

/-- The number whose bytes, lowest address first, are `bs` (R7). -/
def leNat : List Byte → Nat
  | [] => 0
  | b :: bs => b.toNat + 2 ^ 8 * leNat bs

/-- The words that a list of bytes in host-memory order holds. -/
def wordsOfBytes : List Byte → List Word
  | a :: b :: c :: d :: rest => wordOf (leNat [a, b, c, d]) :: wordsOfBytes rest
  | [] => []
  | bs => [wordOf (leNat bs)]

/-- One input bit of the reflected CRC-32 register of R577. -/
def crc32Bit (c : Nat) (b : Bool) : Nat :=
  if (c % 2 == 1) != b then (c / 2) ^^^ 0xEDB88320 else c / 2

/-- One input byte, least significant bit first (R577). -/
def crc32Byte (c : Nat) (b : Byte) : Nat :=
  (List.range 8).foldl (fun c i => crc32Bit c (b.getLsbD i)) c

/-- The CRC-32 of R577 over bytes in the order given. -/
def crc32 (bs : List Byte) : Word := wordOf (bs.foldl crc32Byte 0xFFFFFFFF ^^^ 0xFFFFFFFF)

/-- One bit of a CRC of `width` bits that shifts left, with the polynomial's low bits `poly`. -/
def crcBit (width poly c : Nat) (b : Bool) : Nat :=
  let s := (2 * c) % 2 ^ width
  if c.testBit (width - 1) != b then s ^^^ poly else s

/-- The CRC-16 of R236 over bits in the order given: x^16 + x^12 + x^5 + 1 from 0xFFFF, with no final inversion. -/
def crc16 (bs : List Bool) : Nat := bs.foldl (fun c b => crcBit 16 0x1021 c b) 0xFFFF

/-- The bits of a byte, most significant first (R6). -/
def bitsOfByte (b : Byte) : List Bool := (List.range 8).map (fun i => b.getLsbD (7 - i))

/-- The `len` low bits of a number, most significant first (R6). -/
def bitsOfNat (len n : Nat) : List Bool := (List.range len).map (fun i => n.testBit (len - 1 - i))

/-- The number whose bits, most significant first, are `bs` (R6). -/
def natOfBits (bs : List Bool) : Nat := bs.foldl (fun a b => 2 * a + bitNat b) 0

/-- Numbers of `w` bits one after another as one number, the first the most significant (R6). -/
def beFold (w : Nat) (vs : List Nat) : Nat := vs.foldl (fun a v => a * 2 ^ w + v) 0

/-- The bytes as one number, the first the most significant (R6). -/
def beNat (bs : List Byte) : Nat := bs.foldl (fun a b => 256 * a + b.toNat) 0


/-- Fields by offset and width in an item of `total` bits, most significant first (R6). -/
def packBits (total : Nat) (fs : List (Nat × Nat × Nat)) : Nat := fs.foldl (fun a f => a + f.2.2 % 2 ^ f.2.1 * 2 ^ (total - f.1 - f.2.1)) 0

/-- The bytes of an item of `n` bytes, most significant first. -/
def bytesBE (n v : Nat) : List Byte := (List.range n).map (fun i => BitVec.ofNat 8 (v / 2 ^ (8 * (n - 1 - i))))

/-- Field of `width` bits at bit offset `off` of a string of bytes, the first bit the most significant (R6). -/
def fieldBE (bs : List Byte) (off width : Nat) : Nat := (beNat bs * 2 ^ (off + width) / 2 ^ (8 * bs.length)) % 2 ^ width

/-- Field of `width` bits at bit offset `off` of a number of `total` bits, the first bit the most significant (R6). -/
def fieldAt (total n off width : Nat) : Nat := (n >>> (total - off - width)) % 2 ^ width

end Sys2Proof.Machine
end

