-- ==== Sys2Proof/Machine/Types/Startup.lean ====
section
/-! DEFINITION. State of start-up, resets, firmware images and the boot record (R539 to R553). -/

namespace Sys2Proof.Machine

/-- One copy of the boot record in MRAM (R547). Image 0 is A and 1 is B. -/
structure BootRecord where
  preferred : Nat
  trial : Bool
  tries : Nat
  autoCommit : Bool
  writes : Nat
  /-- The CRC of the copy holds. -/
  valid : Bool
deriving DecidableEq, Repr

/-- One firmware image region of MRAM (R546): its bytes, and the verified flag of R553. -/
structure FwImage where
  bytes : Memory
  verified : Bool
deriving DecidableEq, Repr

/-- What caused the last reset (R552). -/
inductive ResetCause where
  | powerOn
  | resetN
  | resetCold
  | resetWarm
  | watchdog
  | curtainAux
deriving DecidableEq, Repr

/-- Training of one HBM stack (R545, R345). -/
structure HbmStack where
  attempts : Nat
  trained : Bool
  retired : Bool
deriving DecidableEq, Repr

def hbmStackReset : HbmStack := ⟨0, false, false⟩

/-- Start-up, resets and firmware. -/
structure Startup where
  /-- The Zordin cores run. -/
  running : Bool
  /-- The core die is in recovery (R548). -/
  recovery : Bool
  /-- The image that the last image choice started. -/
  image : Option Nat
  /-- The Strongroom firmware of the chosen image is verified (R386). -/
  strongroomOk : Bool
  lastReset : ResetCause
  /-- MRAM: resets since manufacture (R542). -/
  boots : Nat
  recA : BootRecord
  recB : BootRecord
  imgA : FwImage
  imgB : FwImage
  /-- Instant of VIN good of this start-up (R543). -/
  vinGoodAt : Option Nat
  railsUp : Bool
  coresAt : Option Nat
  /-- Milliseconds from VIN good, 0 when not reached (R552). -/
  tZordin : Nat
  tReg : Nat
  /-- A RESET that waits for the end of a Curtain: its kind (R553). -/
  pendingReset : Option Nat
  verifying : Bool
  hbm : List HbmStack
  startUpDone : Bool
deriving DecidableEq, Repr

/-- The image header of R546 as the bytes of a factory image: magic, version 0, security version 0, stepping 0xB1B1. Assumption 36. -/
def factoryImageBytes : Memory :=
  [(0, 0xF1), (2, 0x64), (3, 0x16), (16, 0xB1), (17, 0xB1)]

def bootRecordReset : BootRecord := ⟨0, false, 0, false, 0, true⟩

def startupReset : Startup :=
  { running := false, recovery := false, image := none, strongroomOk := false, lastReset := .powerOn, boots := 1,
    recA := bootRecordReset, recB := { bootRecordReset with valid := false }, imgA := ⟨factoryImageBytes, false⟩,
    imgB := ⟨[], false⟩, vinGoodAt := none, railsUp := false, coresAt := none, tZordin := 0, tReg := 0, pendingReset := none,
    verifying := false, hbm := List.replicate 4 hbmStackReset, startUpDone := false }

/-- A 32-bit field of an image header (R546). -/
def imageWord (i : FwImage) (off : Nat) : Nat :=
  leNat [memRead i.bytes off, memRead i.bytes (off + 1), memRead i.bytes (off + 2), memRead i.bytes (off + 3)]

end Sys2Proof.Machine
end

