-- ==== Sys2Proof/Machine/Types/Time.lean ====
section
/-! DEFINITION. State of time: the servo and its domains, captures, the transmit timestamp queue, PPS and PTM (R392 to R417). Times
and rates are in units of 2^-48 ns and 2^-48 ns per second. -/

namespace Sys2Proof.Machine

/-- Servo states in the order of R416. -/
inductive ServoPhase where
  | unset
  | tracking
  | holdover
deriving DecidableEq, Repr

/-- TIME_CONFIG (R416), kept in the configuration store; step_limit in units of 100 ns. -/
structure TimeConfig where
  primary : Hub
  revertive : Bool
  kp : Nat
  ki : Nat
  stepLimit : Nat
  ppsOut : Bool
  ppsWidth : Nat
  ppsDelay : Nat
  ppsinLimit : Nat
deriving DecidableEq, Repr

def timeConfigReset : TimeConfig := ⟨.a, true, 4, 10, 10, false, 1000, 0, 0⟩

/-- One hub as the servo sees it: its domain's integrator and output (R401), its offset of the last superframe, and its runs
(R402). -/
structure HubTime where
  integ : Int
  out : Int
  offset : Int
  usable : Bool
  planes : Nat
  unusableRun : Nat
  usableSince : Option Nat
  overRun : Nat
deriving DecidableEq, Repr

def hubTimeReset : HubTime := ⟨0, 0, 0, false, 0, 0, none, 0⟩

/-- One hub on one plane in the superframe that runs, index 16 h + p (R399, R400). -/
structure PlaneTime where
  sum : Int
  count : Nat
  /-- The plane has been unusable at some point of the superframe. -/
  broken : Bool
  outRun : Nat
  inRun : Nat
  outlier : Bool
deriving DecidableEq, Repr

def planeTimeReset : PlaneTime := ⟨0, 0, false, 0, 0, false⟩

/-- One entry of the transmit timestamp queue (R410). -/
structure TsEntry where
  port : Nat
  tsId : Nat
  ts : Nat
deriving DecidableEq, Repr

/-- One timestamping channel (R406, R416). -/
structure TsChannel where
  port : Nat
  ingress : Int
  egress : Int
deriving DecidableEq, Repr

def tsChannelReset : TsChannel := ⟨0, 0, 0⟩

/-- PTM (R414): its settings, a dialog that runs with its t1, the last dialog's start, and the record of the last completed
dialog. -/
structure Ptm where
  enable : Bool
  interval : Nat
  running : Option Nat
  lastAt : Option Nat
  startedAt : Nat
  t1 : Nat
  t4 : Nat
  master : Nat
  prop : Nat
  valid : Bool
deriving DecidableEq, Repr

def ptmReset : Ptm := ⟨false, 10, none, none, 0, 0, 0, 0, 0, false⟩

/-- Everything of time but the output time itself, which the clock holds. -/
structure Time where
  cfg : TimeConfig
  pendingCfg : Option TimeConfig
  phase : ServoPhase
  selected : Hub
  hubA : HubTime
  hubB : HubTime
  planes : Tab PlaneTime
  /-- JOIN_ASYM in force for the superframe (R112). -/
  asym : Tab Int
  divRun : Nat
  convRun : Nat
  /-- The detail word of TIME_DIVERGE while it is held (R404). -/
  diverge : Option Word
  /-- The captures of PF0 and PF1 (R395). -/
  captures : List Nat
  tsq : List TsEntry
  tsqLo : Nat
  tsqOvf : Bool
  tsqDrops : Nat
  /-- Cycle of the last push into the queue and the entries that landed in it (R19); cycle of the last discards and their
  number (R9). -/
  tsqNew : Option (Nat × Nat)
  tsqLost : Option (Nat × Nat)
  /-- Holding registers by port (R409). -/
  holding : Tab (Option TsEntry)
  tsPorts : Tab TsChannel
  /-- Instants of the last rise of PPS_OUT and of its fall (R412). -/
  ppsRise : Option Nat
  ppsFall : Option Nat
  /-- The last accepted edge of PPS_IN, its offset in ns, and the edges accepted (R413). -/
  ppsEdge : Option Nat
  ppsOffset : Int
  ppsEdges : Nat
  ptm : Ptm
  steps : Nat
  switches : Nat
  holdovers : Nat
  ptmFails : Nat
  /-- Frames sent unchanged for want of a timestamping channel (R408). -/
  noChannel : Nat
deriving DecidableEq, Repr

def timeReset : Time :=
  { cfg := timeConfigReset, pendingCfg := none, phase := .unset, selected := .a, hubA := hubTimeReset, hubB := hubTimeReset,
    planes := [], asym := [], divRun := 0, convRun := 0, diverge := none, captures := [0, 0], tsq := [], tsqLo := 0,
    tsqOvf := false, tsqDrops := 0, tsqNew := none, tsqLost := none, holding := [], tsPorts := [], ppsRise := none, ppsFall := none, ppsEdge := none,
    ppsOffset := 0, ppsEdges := 0, ptm := ptmReset, steps := 0, switches := 0, holdovers := 0, ptmFails := 0, noChannel := 0 }

end Sys2Proof.Machine
end

