-- ==== Sys2Proof/Machine/Types/Tx.lean ====
section
/-! DEFINITION. State of the transmitters, their tuning tables and drift supervision (R168 to R195). -/

namespace Sys2Proof.Machine

/-- Transmitter states in the order of R194. -/
inductive TxPhase where
  | off
  | warming
  | ready
  | out
  | failed
deriving DecidableEq, Repr

/-- Reasons in the order of R194. -/
inductive TxReason where
  | none
  | host
  | drift
  | gate
  | tileCut
  | power
  | retune
  | trim
  | table
deriving DecidableEq, Repr

/-- A frame remainder that the next burst of a transmitter must carry as a tail, the slot of that burst, and the frame's HBM tokens
(R174). -/
structure Tail where
  slot : Nat
  mcast : Bool
  dest : Nat
  cls : Nat
  port : Nat
  frameLen : Nat
  data : List Byte
  tokens : List Nat
deriving DecidableEq, Repr

/-- What a selection window has chosen for one own PACKET burst (R173). -/
structure Selection where
  slot : Nat
  wave : Nat
  /-- Frames were queued, or a tail was due. -/
  packet : Bool
  units : List PayloadUnit
  /-- Every frame taken, with the plane queue it came from, in order; a frame whose head unit was chosen is the last. -/
  taken : List (Nat × QFrame)
  /-- Segments taken from a hub's queue, and which hub's. -/
  segs : List KeySegment
  toB : Bool
  tailIn : Option Tail
  tailOut : Option Tail
  /-- A report unit is among the units; the plane's last report before it. -/
  report : Bool
  prevReport : Option Nat
  fill : Nat
  /-- CI, CO, RP and fill, once the window has closed. -/
  fixed : Option (Bool × Bool × Bool × Nat)
deriving DecidableEq, Repr

def selectionReset : Selection :=
  { slot := 0, wave := 0, packet := false, units := [], taken := [], segs := [], toB := false, tailIn := none, tailOut := none,
    report := false, prevReport := none, fill := 0, fixed := none }

/-- A change of state that waits for the slot boundary (R189, R191): the table is loaded, the transmitter is ready, its pedestal loop has
left its band, TX_SERVICE has returned it, it leaves service, or it fails. -/
inductive TxChange where
  | loaded
  | ready
  | unsettled
  | returned
  | leave (why : TxReason)
  | fail (why : TxReason)
deriving DecidableEq, Repr

/-- The section currents in force: the tuning-table entry applied last, its codes for the front mirror, the rear mirror, the phase section
with the trim, and the gain section, and its pre-emphasis (R178, R185). -/
structure Tuned where
  entry : Nat
  front : Nat
  rear : Nat
  phase : Int
  gain : Nat
  preEmphasis : Nat
deriving DecidableEq, Repr

def tunedReset : Tuned := ⟨64, 0, 0, 0, 0, 0⟩

/-- One transmitter (R177 to R193). Channel 64 is park; entries of the tuning table count 2 to 64. -/
structure Transmitter where
  phase : TxPhase
  reason : TxReason
  /-- Changes of state that wait for the slot boundary, in order. -/
  pending : List TxChange
  channel : Nat
  gateOpen : Bool
  /-- The plan for a slot: the slot and the wavelength, or park (R177). -/
  plan : Option (Nat × Nat)
  /-- The burst planned for the slot, or being sent; its key, and where its offset 0 leaves, in sixteenths of a line bit, 512 to a core
  cycle. -/
  burst : Option Burst
  key : BitVec 256
  edge : Int
  /-- The line bits of the slot being sent; 0 while the gate is shut. -/
  line : Nat
  tuned : Tuned
  /-- The instants from which and up to which the last retune lowers the gain-section current (R178, R182). -/
  lowFrom : Nat
  lowTo : Nat
  /-- The pedestal loop is settled, and the guards passed in a row (R189). -/
  settled : Bool
  guards : Nat
  /-- Locker misses, low-power bursts and dark-check failures in a row. -/
  misses : Nat
  lowPower : Nat
  darkFails : Nat
  /-- Instant of a gate cut (R183). -/
  cutAt : Option Nat
  trimHigh : Bool
  trims : Tab Int
  lastStep : Tab Nat
  acc : Tab Int
  accN : Tab Nat
  /-- TRIM_RESET waits for the superframe boundary (R188). -/
  trimReset : Bool
  tail : Option Tail
  sel : Option Selection
  /-- MRAM: the last checkpoint of the trims, the one before it in the other copy, and a recorded failure (R183, R185, R550). -/
  checkpoint : Tab Int
  checkpointOld : Tab Int
  record : Option TxReason
  counters : List Nat
deriving DecidableEq, Repr

def txReset : Transmitter :=
  { phase := .off, reason := .none, pending := [], channel := 64, gateOpen := false, plan := none, burst := none, key := 0, edge := 0, line := 0,
    tuned := tunedReset, lowFrom := 0, lowTo := 0, settled := false, guards := 0, misses := 0,
    lowPower := 0, darkFails := 0, cutAt := none, trimHigh := false, trims := [], lastStep := [], acc := [], accN := [],
    trimReset := false, tail := none, sel := none, checkpoint := [], checkpointOld := [], record := none, counters := List.replicate 8 0 }

/-- TX_CONFIG (R194), kept in the configuration store. -/
structure TxConfig where
  calEnable : Bool
  splitEnable : Bool
  jumboWait : Nat
deriving DecidableEq, Repr

def txConfigReset : TxConfig := ⟨true, true, 8⟩

/-- Arrival supervision of the own bursts on one wavelength of one plane (R184): the baseline, and this superframe's sum and
count of readings, in sixteenths of a line bit. -/
structure Arrival where
  baseline : Option Int
  sum : Int
  count : Nat
deriving DecidableEq, Repr

def arrivalReset : Arrival := ⟨none, 0, 0⟩

/-- The 512 transmitters, their settings, and the drift of the planes (index 64 p + w). -/
structure Tx where
  txs : Tab Transmitter
  cfg : TxConfig
  /-- A calibration setting that waits for the superframe boundary (R188). -/
  calPending : Option Bool
  arrivals : Tab Arrival
  /-- Planes whose drift is above 16 line bits. -/
  driftHigh : List Nat
deriving DecidableEq, Repr

def txAllReset : Tx := ⟨[], txConfigReset, none, [], []⟩

end Sys2Proof.Machine
end

