-- ==== Sys2Proof/Machine/State.lean ====
section
/-! DEFINITION. The state of the block, its reset value, and the reasons a step can stop. -/

namespace Sys2Proof.Machine

/-- The machine's state: plain data, one field per part of the terminal, and the queue of commands that wait. -/
structure State where
  /-- Commands that wait, first in, first out. -/
  pending : List Instr
  clock : Clock
  pins : Pins
  zordin : Zordin
  chans : Tab ChanSlot
  ev : Events
  start : Startup
  cue : CueState
  join : Join
  grants : Grants
  tx : Tx
  rx : Rx
  express : Express
  power : Power
  island : Island
  sec : Security
  ports : Ports
  queues : Queues
  hq : HostQueues
  time : Time
  /-- The 128-bit device serial, set at manufacture (R451). -/
  serial : Nat
  /-- Bytes of the device certificate, set at manufacture (R390). -/
  certLen : Nat
  /-- What the terminal has written into host memory by DMA. -/
  hostMem : Memory
  /-- The data of the last register or SMBus read: the model's own field. -/
  readBack : List Word
  /-- Place of the next free value: the model's own field (assumption 2). -/
  free : Nat
deriving DecidableEq, Repr

/-- No step of this block stops: the type has no constructor. -/
inductive Fault where
deriving DecidableEq, Repr

/-- Why a step gives a command no meaning. -/
inductive Refusal where
  /-- Raised by exec for a command whose meaning is not written; safe, since nothing is claimed about it. -/
  | notModelled (mnemonic : String)
deriving DecidableEq, Repr

/-- Pools 0 to 4 are live at reset (R336, R350). -/
def chansReset : Tab ChanSlot :=
  (List.range 5).map (fun i => (0x0C * 65536 + i, { chanSlotReset with live := true }))

/-- The machine right after the power-on reset (R541, R542). Assumptions 1 and 35. -/
def State.reset : State :=
  { pending := [], clock := clockReset, pins := pinsReset, zordin := zordinReset, chans := chansReset, ev := eventsReset, start := startupReset,
    cue := cueReset, join := joinReset, grants := grantsReset, tx := txAllReset, rx := rxReset, express := expressReset, power := powerReset, island := islandReset, sec := securityReset, ports := portsReset,
    queues := queuesReset, hq := hostQueuesReset, time := timeReset,
    serial := Config.serial, certLen := Config.certificateLen, hostMem := [], readBack := [], free := 0 }

/-- The outcome of a command. -/
abbrev Result := Host.Outcome State Fault Refusal

end Sys2Proof.Machine
end

