-- ==== Sys2Proof/Machine/Ops.lean ====
section
/-! DEFINITION. Shared operations: time, free values, channel handles, and the mailbox operations that write
responses. -/

namespace Sys2Proof.Machine

/-! ### Time -/

/-- Core cycles of 1 µs, 1 ms, a slot and a superframe (R3). -/
def usCc : Nat := 1750
def msCc : Nat := 1750000
def slotCc : Nat := 1792
def superframeCc : Nat := 229376

/-- The SFN and the slot number of a slot index (R3, R60). -/
def sfnOf (slot : Nat) : Nat := slot / 128
def slotNoOf (slot : Nat) : Nat := slot % 128

/-- A quotient of integers rounded to the nearest, halves upwards. Assumptions 19 and 82. -/
def roundDiv (a : Int) (b : Nat) : Int := (2 * a + b) / (2 * b : Int)

/-- The nominal increment of the time base, 4/7 ns in units of 2^-48 ns (R393). -/
def nominalIncrement : Nat := 0x924924924925

/-- The applied increment: nominal times (1 - r * 10^-9), with r in units of 2^-48 ns per second (R393). -/
def timeIncrement (rate : Int) : Nat :=
  (nominalIncrement - roundDiv (nominalIncrement * rate) (10 ^ 9 * 2 ^ 48)).toNat

/-- `dt` cycles of the time base at the present rate (R392). -/
def runBase (dt : Nat) (c : Clock) : Clock := { c with outTime := c.outTime + dt * timeIncrement c.rate }

/-- The time base after what the servo has computed takes effect (R393, R402). -/
def applySteer (v : Steer) (c : Clock) : Clock :=
  { c with rate := v.rate, outTime := (c.outTime + v.step).toNat, steer := none }

/-- The time base over `dt` cycles, a pending steering value taking effect at its slot boundary. -/
def runTime (dt : Nat) (c : Clock) : Clock :=
  match c.steer with
  | none => runBase dt c
  | some v =>
    if c.now + dt < v.at_ then runBase dt c
    else runBase (c.now + dt - max c.now v.at_) (applySteer v (runBase (v.at_ - c.now) c))

/-- Lets `dt` core cycles pass: the time base, the slot count and the output time advance (R392, R60). Assumption 1. -/
def advance (dt : Nat) (s : State) : State :=
  let n := s.clock.now + dt
  let k := (n - s.clock.slotAt) / slotCc
  let c := runTime dt s.clock
  { s with clock := { c with now := n, slot := s.clock.slot + k, slotAt := s.clock.slotAt + k * slotCc } }

/-- Lets time pass up to instant `t`; nothing when `t` is past. Assumption 28. -/
def advanceTo (t : Nat) (s : State) : State := advance (t - s.clock.now) s

/-- One second of output time, in units of 2^-48 ns. -/
def secOut : Nat := 10 ^ 9 * 2 ^ 48

/-- Lets time pass until the output time reads at least `t`; nothing when it already does. Assumptions 28 and 68. -/
def advanceToOut (t : Nat) (s : State) : State :=
  let inc := timeIncrement s.clock.rate
  advance ((t - s.clock.outTime + inc - 1) / inc) s

/-- Lets time pass up to the aligned start of slot `n`; nothing when that slot has begun. Assumption 28. -/
def toSlot (n : Nat) (s : State) : State :=
  if s.clock.slot < n then advanceTo (s.clock.slotAt + (n - s.clock.slot) * slotCc) s else s

/-- Whole nanoseconds of an output time, and its seconds, nanoseconds and fraction (R392). -/
def outNs (t : Nat) : Nat := t / 2 ^ 48
def outSeconds (t : Nat) : Nat := t / 2 ^ 48 / 10 ^ 9
def outNanos (t : Nat) : Nat := t / 2 ^ 48 % 10 ^ 9
def outFrac (t : Nat) : Nat := t / 2 ^ 16 % 2 ^ 32

/-- The 32-bit timestamp of now (R396). -/
def stamp (s : State) : Nat := outNs s.clock.outTime % 2 ^ 32

/-- What a mark (cycle, number) says of the present cycle: 0 when it is of an earlier one. Assumption 71. -/
def inCycle (now : Nat) (m : Option (Nat × Nat)) : Nat :=
  match m with
  | some (t, n) => if t = now then n else 0
  | none => 0

/-- The mark after `k` more entries have been pushed into a FIFO in this cycle. Assumption 71. -/
def pushMark (k : Nat) (now : Nat) (m : Option (Nat × Nat)) : Option (Nat × Nat) := some (now, inCycle now m + k)

/-- A pop of `wanted` entries of a FIFO that holds `depth`, with the marked ones pushed in this cycle: what it takes was pushed
in an earlier cycle, so it falls in the next cycle where it takes one of these (R19, R578; assumption 71). -/
def popCycle (wanted depth : Nat) (m : Option (Nat × Nat)) (s : State) : State :=
  if depth < wanted + inCycle s.clock.now m ∧ wanted ≤ depth then advance 1 s else s

/-- A read of counters, then with the clear bit set their clearing. A count of the cycle of the clear lands after it, so the clear takes the
cycle after every count that stands before it (assumption 71). -/
def cleared (clear : Bool) (f : State → State) (s : State) : State := if clear then f (advance 1 s) else s

/-- A table write lands at the end of its cycle: a lookup of the same cycle sees the table as it was, so those that follow the write in the
queue are of the next cycle (R307, R313, R466; assumption 71). -/
def lands (s : State) : State := advance 1 s

/-- Takes the next free value (assumption 2). -/
def takeFree (s : State) : Word × State := (Config.freeValue s.free, { s with free := s.free + 1 })

/-- A number of `32 · n` bits, each word of it a free value. -/
def takeFreeBits : Nat → State → Nat × State
  | 0, s => (0, s)
  | n + 1, s => ((takeFreeBits n (takeFree s).2).1 * 2 ^ 32 + (takeFree s).1.toNat, (takeFreeBits n (takeFree s).2).2)

/-! ### Functions -/

/-- The mailbox of function 0 (PF0) or 1 (PF1). -/
def funcBox (f : Nat) (s : State) : FuncBox := if f = 0 then s.zordin.pf0 else s.zordin.pf1

/-- Replaces the mailbox of a function. -/
def setFunc (f : Nat) (b : FuncBox) (s : State) : State :=
  if f = 0 then { s with zordin := { s.zordin with pf0 := b } } else { s with zordin := { s.zordin with pf1 := b } }

/-- Rewrites the mailbox of a function. -/
def modFunc (f : Nat) (g : FuncBox → FuncBox) (s : State) : State := setFunc f (g (funcBox f s)) s

/-- Sets bit `i` of a function's MBOX_STAT in the mark of this cycle (R9). -/
def markStat (i now : Nat) (b : FuncBox) : FuncBox :=
  { b with setAt := some (now, inCycle now b.setAt ||| 2 ^ i) }

/-- Rewrites the sideband. -/
def modSb (g : SidebandBox → SidebandBox) (s : State) : State :=
  { s with zordin := { s.zordin with sb := g s.zordin.sb } }

/-- Writes bytes into host memory by DMA (R7). Assumption 70. -/
def hostWrite (a : Nat) (bs : List Byte) (s : State) : State := { s with hostMem := memWrite s.hostMem (a % 2 ^ 64) bs }

/-- The free slots of a ring of `size` slots whose indices carry a wrap bit (R423). -/
def ringFree (size pi ci : Nat) : Nat := size - (pi + 2 * size - ci) % (2 * size)

/-- The phase of a ring slot: 1 on the first pass, toggling each time the slot index returns to 0 (R425). -/
def ringPhase (size pi : Nat) : Nat := if pi % (2 * size) < size then 1 else 0

/-! ### Interrupts (R481) -/

/-- Sends the message of vector `v`, or sets its pending bit while it is masked. Assumption 70. -/
def sendMessage (f v : Nat) (s : State) : State :=
  let b := funcBox f s
  let x := tabGet vectorReset b.msix v
  let x' := { x with pending := x.masked, waiting := false, holdEnd := some (s.clock.now + (s.ev.dests.getD f (destinationOf 0 (destConfigReset 3))).cfg.holdoff * usCc) }
  let s := setFunc f { b with msix := tabSet vectorReset b.msix v x' } s
  if x.masked then s else hostWrite (x.addrLo.toNat + 2 ^ 32 * x.addrHi.toNat) (bytesOfWord x.data) s

/-- An entry has been written to the ring of vector `v`: the message is sent at once, or when the holdoff ends. Assumption 70. -/
def signalVector (f v : Nat) (s : State) : State :=
  let b := funcBox f s
  let x := tabGet vectorReset b.msix v
  match x.holdEnd with
  | none => sendMessage f v s
  | some t =>
    if t ≤ s.clock.now then sendMessage f v s
    else setFunc f { b with msix := tabSet vectorReset b.msix v { x with waiting := true } } s

/-! ### Responses (R425 to R429) -/

/-- Word 0 of a response with a phase bit (R425). -/
def responseHeader (phase : Nat) (r : Response) : Word :=
  pack [(31, phase), (24, r.words.length % 128), (23, bitNat r.final), (22, bitNat r.dup), (16, r.tag % 32), (0, r.status % 256)]

/-- The outstanding commands after a response with this header has been written (R426). -/
def settle (r : Response) (os : List Outstanding) : List Outstanding :=
  if r.final && !r.dup then os.filter (fun o => o.tag != r.tag) else os

/-- Writes a response into a function's next response slot, words 1 on first and word 0 last (R429). Assumption 70. -/
def writeResponse (f : Nat) (r : Response) (s : State) : State :=
  let b := funcBox f s
  let a := b.rspBase + 512 * (b.rspPi % 64)
  let s := hostWrite (a + 4) (bytesOfWords r.words) s
  let s := hostWrite a (bytesOfWord (responseHeader (ringPhase 64 b.rspPi) r)) s
  let s := setFunc f { b with rspPi := (b.rspPi + 1) % 128, rspNew := pushMark 1 s.clock.now b.rspNew, outstanding := settle r b.outstanding } s
  signalVector f 0 s

/-- Answers a command of a function: the response is discarded while the rings are off or the engine is halted (R433, R434),
held while no slot is free (R429), and written otherwise. -/
def respondFunc (f : Nat) (r : Response) (s : State) : State :=
  let b := funcBox f s
  if b.halted || !b.en then setFunc f { b with outstanding := settle r b.outstanding } s
  else if b.heldRsp ≠ [] ∨ ringFree 64 b.rspPi b.rspCi = 0 then
    setFunc f (markStat 2 s.clock.now { b with
      heldRsp := b.heldRsp ++ [r], rspHeld := true, cntHeld := satAdd 32 b.cntHeld 1 }) s
  else writeResponse f r s

/-- The bytes of a sideband response slot; the sideband has no ring, so the phase bit is a free value (assumption 4). -/
def sidebandSlot (r : Response) (s : State) : List Byte × State :=
  let (v, s) := takeFree s
  (bytesOfWords (responseHeader (v.toNat % 2) r :: r.words), s)

/-- Answers a sideband command: queued for reading, or held while 8 responses wait (R443). -/
def respondSideband (r : Response) (s : State) : State :=
  let b := s.zordin.sb
  if b.heldRsp ≠ [] ∨ 8 ≤ b.responses.length then
    modSb (fun b => { b with heldRsp := b.heldRsp ++ [r], cntHeld := satAdd 32 b.cntHeld 1 }) s
  else
    let (bs, s) := sidebandSlot r s
    modSb (fun b => { b with responses := b.responses ++ [bs], outstanding := settle r b.outstanding }) s

/-- Delivers a response to the source of its command. -/
def deliver (src : Source) (r : Response) (s : State) : State :=
  match src with
  | .pf0 => respondFunc 0 r s
  | .pf1 => respondFunc 1 r s
  | .sideband => respondSideband r s

/-- The final response of a command (R426). Assumption 26. -/
def respond (src : Source) (tag : Nat) (st : Status) (ws : List Word) (s : State) : State :=
  deliver src ⟨tag, statusCode st, true, false, ws⟩ s

/-! ### Long commands (R427) -/

/-- Registers an accepted long command (R427). -/
def startLong (src : Source) (tag : Nat) (k : LongKind) (s : State) : State :=
  { s with zordin := { s.zordin with longs := s.zordin.longs ++ [⟨src, tag, k⟩] } }

/-- Writes the final responses of long commands, in order. -/
def respondAll (st : Status) (ws : List Word) : List LongCommand → State → State
  | [], s => s
  | l :: ls, s => respondAll st ws ls (respond l.src l.tag st ws s)

/-- Ends every pending long command that satisfies `p`, with its final response (R427, R440). -/
def endLongs (p : LongKind → Bool) (st : Status) (ws : List Word) (s : State) : State :=
  let mine := s.zordin.longs.filter (fun l => p l.kind)
  let s := { s with zordin := { s.zordin with longs := s.zordin.longs.filter (fun l => !p l.kind) } }
  respondAll st ws mine s

/-- Drops the pending long commands of a source; no response is written (R420, R434). -/
def dropLongs (src : Source) (s : State) : State :=
  { s with zordin := { s.zordin with longs := s.zordin.longs.filter (fun l => l.src != src) } }

/-! ### Channel handles (R12 to R15, R437 to R440) -/

/-- The key of an index of a channel type. -/
def chanKey (ty ix : Nat) : Nat := ty * 65536 + ix

/-- The slot of an index of a channel type. -/
def chanSlot (ty ix : Nat) (s : State) : ChanSlot := tabGet chanSlotReset s.chans (chanKey ty ix)

/-- Replaces the slot of an index. -/
def setChan (ty ix : Nat) (c : ChanSlot) (s : State) : State :=
  { s with chans := tabSet chanSlotReset s.chans (chanKey ty ix) c }

/-- The handle of an index with its present generation (R12). -/
def handleOf (ty ix : Nat) (s : State) : Word := pack [(26, ty), (16, (chanSlot ty ix s).gen), (0, ix)]

/-- The handle of a live index, the null handle otherwise (R13, R451). -/
def liveHandle (ty ix : Nat) (s : State) : Word := if (chanSlot ty ix s).live then handleOf ty ix s else 0

/-- The lowest free index of a type among `fuel` indices from `ix` that is not quarantined (R437). -/
def freeIndex (ty : Nat) (s : State) (ix : Nat) : Nat → Option Nat
  | 0 => none
  | fuel + 1 =>
    let c := chanSlot ty ix s
    if !c.live && !c.quarantined then some ix else freeIndex ty s (ix + 1) fuel

/-- The index that a create of this type takes (R15, R437). -/
def nextIndex (t : ChanType) (s : State) : Option Nat := freeIndex (chanCode t) s 0 (chanRange (chanCode t))

/-- Makes an index live. -/
def openChan (t : ChanType) (ix : Nat) (s : State) : State :=
  setChan (chanCode t) ix { chanSlot (chanCode t) ix s with live := true } s

/-- Destroys the channel at an index: its generation steps and, when it wraps, the index is quarantined for 1 s of output time (R15,
R439). Assumption 68. -/
def closeChan (t : ChanType) (ix : Nat) (s : State) : State :=
  let c := chanSlot (chanCode t) ix s
  setChan (chanCode t) ix
    { live := false, gen := (c.gen + 1) % 1024, quarantined := c.gen == 1023, quarEnd := s.clock.outTime + secOut } s

/-- The handle checks of R14 for a handle that must be of type `t`: the index, or the status that ends the command. -/
def checkHandle (t : ChanType) (h : Word) (s : State) : Except Status Nat :=
  let ty := fieldOf h 26 6
  let ix := fieldOf h 0 16
  if ty ≠ chanCode t then .error .badArg
  else if chanRange ty ≤ ix then .error .badArg
  else
    let c := chanSlot ty ix s
    if c.live && c.gen == fieldOf h 16 10 then .ok ix else .error .staleHandle

end Sys2Proof.Machine
end

