-- ==== Sys2Proof/Machine/EventOps.lean ====
section
/-! DEFINITION. Raising and clearing events: the alarm table (R475, R476), the coalescer (R477), the destinations (R478, R479)
and the staging of the black box (R480). -/

namespace Sys2Proof.Machine

/-- The alarm entry of a source. -/
def alarmEntry (src : Nat) (s : State) : AlarmEntry := tabGet alarmReset s.ev.alarms src

/-- Order among conditions of equal severity that an owning chapter gives: the cue defects of R101. -/
def conditionRank (code : Nat) : Nat :=
  if code = 0x0201 then 0
  else if code = 0x0202 then 1
  else if code = 0x0205 ∨ code = 0x0206 ∨ code = 0x0207 then 2
  else if code = 0x0203 then 3
  else if code = 0x0204 then 4
  else 5

/-- Does condition `a` show before `b`, when `a` was raised first? (R476) -/
def showsBefore (a b : Condition) : Bool :=
  a.sev < b.sev || (a.sev == b.sev && conditionRank a.code ≤ conditionRank b.code)

/-- The shown condition of held conditions in raise order (R476). -/
def shownOf : List Condition → Option Condition
  | [] => none
  | c :: cs =>
    match shownOf cs with
    | none => some c
    | some d => if showsBefore c d then some c else some d

/-- Words 0 to 3 of an alarm entry (R475). -/
def alarmWords (e : AlarmEntry) : List Word :=
  match shownOf e.conds with
  | none => [pack [(0, 7)], 0, wordOf e.changed, wordOf e.raises]
  | some c =>
    [pack [(16, c.code), (8, min 255 e.conds.length), (4, 1), (0, c.sev)], wordOf c.since, wordOf e.changed, wordOf e.raises]

/-- System sources carry detail word 4 in the key of a condition and of a coalescing window (R477). -/
def keyDetail (src : Nat) (d4 : Word) : Word := if src < 1920 then 0 else d4

/-- Is the condition held at the source? -/
def conditionHeld (code src : Nat) (d4 : Word) (s : State) : Bool :=
  (alarmEntry src s).conds.any (fun c => c.code == code && c.detail == keyDetail src d4)

/-- The destination settings and counters of PF0 (0), PF1 (1) or the sideband (2). -/
def destOf (i : Nat) (s : State) : Destination := s.ev.dests.getD i (destinationOf 0 (destConfigReset 3))

/-- Rewrites a destination. -/
def modDest (i : Nat) (g : Destination → Destination) (s : State) : State :=
  { s with ev := { s.ev with dests := s.ev.dests.modify i g } }

/-- Rewrites the counters of a severity class at a destination (R487). -/
def modClass (i c : Nat) (g : ClassCounters → ClassCounters) (s : State) : State :=
  modDest i (fun d => { d with counters := d.counters.modify c g }) s

/-- Words of an event record with a phase bit and the latched SLOT_ID (R474). -/
def recordWords (phase slotId : Nat) (r : EventRecord) : List Word :=
  [pack [(31, phase), (23, bitNat r.summary), (22, bitNat r.clear), (19, r.sev), (8, r.source), (0, slotId)],
   pack [(16, r.count), (0, r.code)], wordOf r.first, wordOf r.last, r.detail4, r.detail5, wordOf r.seq, pack [(0, r.boot)]]

/-- The tokens of a bucket now, refilled at its rate up to its burst (R478). -/
def bucketNow (now : Nat) (b : EventBucket) : EventBucket :=
  { b with fill := min (b.burst * secCc) (b.fill + b.rate * (now - b.at_)), at_ := now }

/-- Takes one token of the class's bucket at a function: whether there was one, and the state after (R478). -/
def takeToken (f c : Nat) (s : State) : Bool × State :=
  let b := bucketNow s.clock.now ((destOf f s).buckets.getD (c - 1) ⟨0, 0, 0, 0⟩)
  if secCc ≤ b.fill then
    (true, modDest f (fun d => { d with buckets := d.buckets.set (c - 1) { b with fill := b.fill - secCc } }) s)
  else (false, modDest f (fun d => { d with buckets := d.buckets.set (c - 1) b }) s)

/-- Counts a record of class `c` lost to the queue or ring of a function (R478). -/
def loseRecord (f c : Nat) (s : State) : State :=
  modDest f (fun d => { d with lost := d.lost + 1 })
    (modClass f c (fun k => { k with lostQueue := satAdd 32 k.lostQueue 1 }) s)

/-- Pushes an admitted record into a function's event queue, or loses it (R478, R479). -/
def pushEvent (f : Nat) (r : EventRecord) (s : State) : State :=
  let b := funcBox f s
  if 256 ≤ b.events.length then loseRecord f r.sev s
  else if r.sev = 4 ∧ ringFree 256 b.ntfPi b.ntfCi < 64 then loseRecord f r.sev s
  else setFunc f { b with events := b.events ++ [r], evtNew := pushMark 1 s.clock.now b.evtNew } s

/-- Offers a record to a function: min_sev, then the bucket of its class, then the event queue (R478). -/
def offerFunc (f : Nat) (r : EventRecord) (s : State) : State :=
  if (destOf f s).cfg.minSev < r.sev then modClass f r.sev (fun k => { k with filtered := satAdd 32 k.filtered 1 }) s
  else if r.sev = 0 ∨ r.code = 0x0D05 then pushEvent f r s
  else
    match takeToken f r.sev s with
    | (true, s) => pushEvent f r s
    | (false, s) =>
      modDest f (fun d => { d with lost := d.lost + 1 })
        (modClass f r.sev (fun k => { k with lostBucket := satAdd 32 k.lostBucket 1 }) s)

/-- An entry as the sideband queue holds it: its phase bit is a free value (assumption 4). -/
def sidebandPhase (s : State) : Nat × State :=
  let (v, s) := takeFree s
  (v.toNat % 2, s)

/-- Pushes an entry into the sideband notification queue; an entry that finds its 16 places taken is counted (R444). -/
def pushSideband (ws : Nat → List Word) (s : State) : Bool × State :=
  if 16 ≤ s.zordin.sb.ntfs.length then
    (false, modSb (fun b => { b with cntDiscarded := satAdd 32 b.cntDiscarded 1 }) s)
  else
    let (p, s) := sidebandPhase s
    (true, modSb (fun b => { b with ntfs := b.ntfs ++ [ws p] }) s)

/-- Offers a CRITICAL or MAJOR record to the sideband (R478, R444). -/
def offerSideband (r : EventRecord) (s : State) : State :=
  if 1 < r.sev then s
  else if (destOf 2 s).cfg.minSev < r.sev then modClass 2 r.sev (fun k => { k with filtered := satAdd 32 k.filtered 1 }) s
  else
    match pushSideband (fun p => recordWords p s.pins.slotId r) s with
    | (true, s) => modClass 2 r.sev (fun k => { k with delivered := satAdd 32 k.delivered 1 }) s
    | (false, s) => modClass 2 r.sev (fun k => { k with lostQueue := satAdd 32 k.lostQueue 1 }) s

/-- Stages a CRITICAL or MAJOR record for the black box (R480). -/
def stageBlackBox (r : EventRecord) (s : State) : State :=
  if 1 < r.sev then s
  else if 32 ≤ s.ev.staged.length then { s with ev := { s.ev with cntBlackLost := satAdd 32 s.ev.cntBlackLost 1 } }
  else { s with ev := { s.ev with staged := s.ev.staged ++ [r] } }

/-- A record leaves the coalescer: it takes the next sequence number and goes to every destination (R474, R478). -/
def emitRecord (r : EventRecord) (s : State) : State :=
  let r := { r with seq := s.ev.seq, boot := s.start.boots % 65536 }
  let s := { s with ev := { s.ev with seq := (s.ev.seq + 1) % 2 ^ 32, cntEmitted := satAdd 32 s.ev.cntEmitted 1 } }
  stageBlackBox r (offerSideband r (offerFunc 1 r (offerFunc 0 r s)))

/-- The summary of the raises that a window has folded, when it has folded any (R477). -/
def emitSummary (w : EventWindow) (s : State) : State :=
  if w.count = 0 then s
  else emitRecord ⟨true, false, w.maxSev, w.source, min w.count 65535, w.code, w.first, w.last, w.detail4, w.detail5, 0, 0⟩ s

/-- The window of a key: one per source below 1920, one per source, code and detail word at system sources (R477). -/
def windowMatches (src code : Nat) (d4 : Word) (w : EventWindow) : Bool :=
  if src < 1920 then w.source == src else w.source == src && w.code == code && w.keyDetail == d4

/-- Puts a window in place of the one with its key, or opens it; system sources share 256 places, and a record that finds none
free opens no window (R477). -/
def openWindow (src code : Nat) (d4 : Word) (ref : Option Nat) (s : State) : Option State :=
  let w : EventWindow := ⟨src, code, keyDetail src d4, ref, 0, 0, 0, 4, d4, 0, s.clock.now⟩
  let others := s.ev.windows.filter (fun x => !windowMatches src code d4 x)
  if 1920 ≤ src ∧ 256 ≤ (others.filter (fun x => 1920 ≤ x.source)).length then none
  else some { s with ev := { s.ev with windows := others ++ [w] } }

/-- One immediate record (R474). -/
def immediateRecord (clear : Bool) (code src sev : Nat) (d4 d5 : Word) (s : State) : EventRecord :=
  ⟨false, clear, sev, src, 1, code, stamp s, stamp s, d4, d5, 0, 0⟩

/-- Emits a raise at once and opens its window; without a place it is counted as uncoalesced (R477). -/
def emitRaise (code src sev : Nat) (d4 d5 : Word) (s : State) : State :=
  let s := emitRecord (immediateRecord false code src sev d4 d5 s) s
  match openWindow src code d4 (some sev) s with
  | some s => s
  | none => { s with ev := { s.ev with cntUncoalesced := satAdd 32 s.ev.cntUncoalesced 1 } }

/-- A window after it has folded one raise (R477). -/
def foldRaise (sev stampNow : Nat) (d4 d5 : Word) (w : EventWindow) : EventWindow :=
  { w with
      count := w.count + 1, first := (if w.count = 0 then stampNow else w.first), last := stampNow,
      maxSev := (if w.count = 0 then sev else min w.maxSev sev), detail4 := d4, detail5 := d5 }

/-- The coalescer takes a raise (R477). -/
def coalesceRaise (code src sev : Nat) (d4 d5 : Word) (s : State) : State :=
  match s.ev.windows.find? (windowMatches src code d4) with
  | none => emitRaise code src sev d4 d5 s
  | some w =>
    if w.code ≠ code then emitRaise code src sev d4 d5 (emitSummary w s)
    else
      match w.refSev with
      | some r =>
        if r ≤ sev then
          { s with ev := { s.ev with windows := s.ev.windows.map (fun x =>
              if windowMatches src code d4 x then foldRaise sev (stamp s) d4 d5 x else x) } }
        else emitRaise code src sev d4 d5 (emitSummary w s)
      | none => emitRaise code src sev d4 d5 (emitSummary w s)

/-- The coalescer takes a clear (R477). -/
def coalesceClear (code src : Nat) (d4 d5 : Word) (s : State) : State :=
  let s :=
    match s.ev.windows.find? (windowMatches src code d4) with
    | none => s
    | some w => emitSummary w s
  let s := emitRecord (immediateRecord true code src 3 d4 d5 s) s
  match openWindow src code d4 none s with
  | some s => s
  | none => s

/-- Rewrites an alarm entry. -/
def modAlarm (src : Nat) (g : AlarmEntry → AlarmEntry) (s : State) : State :=
  { s with ev := { s.ev with alarms := tabMod alarmReset s.ev.alarms src g } }

/-- Raises an event that is not held (R476, R477). -/
def raise (code src : Nat) (sev : Severity) (d4 d5 : Word) (s : State) : State :=
  coalesceRaise code src (sevCode sev) d4 d5
    (modAlarm src (fun e => { e with changed := stamp s, raises := satAdd 32 e.raises 1 }) s)

/-- Raises a held condition; while it is held already with that severity nothing happens, and with another severity it is
raised again in place of the old one (R476; assumption 5). -/
def hold (code src : Nat) (sev : Severity) (d4 d5 : Word) (s : State) : State :=
  let k := keyDetail src d4
  if (alarmEntry src s).conds.any (fun c => c.code == code && c.detail == k && c.sev == sevCode sev) then s
  else
    coalesceRaise code src (sevCode sev) d4 d5
      (modAlarm src (fun e =>
        { conds := e.conds.filter (fun c => !(c.code == code && c.detail == k)) ++ [⟨code, sevCode sev, stamp s, k⟩],
          changed := stamp s, raises := satAdd 32 e.raises 1 }) s)

/-- Clears a held condition, with severity INFO; nothing happens when it is not held (R476, R477). Assumption 5. -/
def clear (code src : Nat) (d4 d5 : Word) (s : State) : State :=
  let k := keyDetail src d4
  if (alarmEntry src s).conds.any (fun c => c.code == code && c.detail == k) then
    coalesceClear code src d4 d5
      (modAlarm src (fun e =>
        { e with conds := e.conds.filter (fun c => !(c.code == code && c.detail == k)), changed := stamp s }) s)
  else s

/-- Holds or clears a condition as `on` says. Assumption 5. -/
def holdIf (on : Bool) (code src : Nat) (sev : Severity) (d4 d5 : Word) (s : State) : State :=
  if on then hold code src sev d4 d5 s else clear code src d4 d5 s

/-- The number of sources whose shown condition satisfies `p` (R488). -/
def countShown (p : Condition → Bool) (s : State) : Nat :=
  (s.ev.alarms.filter (fun e => match shownOf e.2.conds with | some c => p c | none => false)).length

/-- At least one CRITICAL alarm is active (R49). -/
def criticalActive (s : State) : Bool := s.ev.alarms.any (fun e => e.2.conds.any (fun c => c.sev == 0))

/-- A function notice goes to a function, which holds up to 8 (R432). -/
def noticeTo (f : Nat) (n : Notice) (s : State) : State :=
  let b := funcBox f s
  if 8 ≤ b.notices.length then setFunc f { b with cntDiscarded := satAdd 32 b.cntDiscarded 1 } s
  else setFunc f { b with notices := b.notices ++ [n] } s

/-- Words of a function notice (R431). -/
def noticeWords (phase slotId : Nat) (n : Notice) : List Word :=
  [pack [(31, phase), (6, 1), (0, slotId)], pack [(8, n.func), (0, n.code)], wordOf n.stamp, 0, 0, 0, 0, 0]

/-- A function notice goes to the sideband (R444). -/
def noticeToSideband (n : Notice) (s : State) : State := (pushSideband (fun p => noticeWords p s.pins.slotId n) s).2

/-- The DMA engine of a function halts: the flag, and a notice with code 2 to the other function and the sideband (R433). -/
def haltEngine (f : Nat) (s : State) : State :=
  let b := funcBox f s
  if b.halted then s
  else
    let n : Notice := ⟨2, f, stamp s⟩
    noticeToSideband n (noticeTo (1 - f) n (setFunc f { b with halted := true } s))

end Sys2Proof.Machine
end

