-- ==== Sys2Proof/Machine/GaugeOps.lean ====
section
/-! DEFINITION. The HOLD store's gauge (R526 to R528), the coolant conditions (R522) and the throttle level (R523, R536). -/

namespace Sys2Proof.Machine

/-- Rewrites the power part, and the HOLD store. -/
def modPower (g : Power → Power) (s : State) : State := { s with power := g s.power }
def modStore (g : Store → Store) (s : State) : State := modPower (fun p => { p with store := g p.store }) s

/-- Counts in the power counters (R536). -/
def countPower (i n : Nat) (s : State) : State := modPower (fun p => { p with counters := p.counters.modify i (fun c => satAdd 32 c n) }) s

/-- One input of the sensing chain. -/
def inputOf (i : Nat) (s : State) : SenseInput := tabGet senseInputReset s.island.inputs i

/-- The value of a sample (R500). -/
def sampleValue (w : BitVec 64) : Int := signedOf 24 w.toNat

/-- The last good value of an input (R505). -/
def goodValue (i : Nat) (s : State) : Int := sampleValue (inputOf i s).good

/-- Consumer `c` (1 to 5) has fallen back (R505). -/
def fallenBack (c : Nat) (s : State) : Bool := s.island.fallback.getD (c - 1) false

/-! ### The gauge -/

/-- The store temperature of R526 in 0.001 °C: input 6, or input 5 while input 6 has fallen back (R505). -/
def storeTemp (s : State) : Int := if fallenBack 5 s then goodValue 5 s else goodValue 6 s

/-- C in nF (R526). Assumption 63. -/
def gaugeC (s : State) : Int := (s.power.store.cLearn : Int) * (1000000 - 3 * max 0 (25000 - storeTemp s)) / 1000000

/-- V_v in µV: the HOLD voltage plus the discharge current times 0.025 Ω (R527). Assumption 63. -/
def gaugeV (g : Store) : Int := g.volt * 1000 - g.current * 25

/-- V_c = Q / C in µV (R527). -/
def countV (s : State) : Int := s.power.store.charge * 1000 / gaugeC s

/-- ½C(V² - V0²) in nJ of a capacitance in nF and voltages in µV, not below 0. -/
def energyOf (c v v0 : Int) : Int := max 0 (c * (v * v - v0 * v0) / (2 * 10 ^ 12))

/-- E_full in nJ: from 12 V to the floor of 9 V (R527). Assumption 63. -/
def energyFull (s : State) : Int := energyOf (gaugeC s) 12000000 9000000

/-- The estimates E_v and E_c in nJ, with what is absent taken from the flags (R527, R528). -/
def estimatesWith (vAbsent cAbsent : Bool) (s : State) : Option Int × Option Int :=
  let ev := energyOf (gaugeC s) (gaugeV s.power.store) 9000000
  if s.power.store.missing || (vAbsent && cAbsent) then (some 0, some 0)
  else if vAbsent then (none, some (energyOf (gaugeC s) (countV s) 9000000))
  else if cAbsent then (some ev, some ev)
  else (some ev, some (energyOf (gaugeC s) (countV s) 9000000))

/-- The estimates as the sensing chain stands, or as the trigger froze it (R528). -/
def estimates (s : State) : Option Int × Option Int :=
  match s.power.curtain with
  | some c => estimatesWith c.vAbsent c.cAbsent s
  | none => estimatesWith (fallenBack 1 s) (fallenBack 2 s) s

/-- A reading of the store's current over an interval in ns adds to the count (R527). -/
def addCharge (ma : Int) (ns : Int) (g : Store) : Store := { g with current := ma, charge := g.charge + ma * ns }

/-- |E_c - E_v| in nJ, 0 while one of them is absent. Assumption 63. -/
def gaugeGap (s : State) : Int :=
  match estimates s with
  | (some v, some c) => ((c - v).natAbs : Int)
  | _ => 0

/-! ### Coolant and throttle -/

/-- The four conditions of R522 in the order LOW, HIGH, CRITICAL, FLOW: their events, severities, and times to raise and to clear. -/
def coolantEvent (k : Nat) : Nat := [0x0F03, 0x0F04, 0x0F05, 0x0F06].getD k 0
def coolantSeverity (k : Nat) : Severity := [Severity.minor, .major, .critical, .major].getD k .major
def coolantRaise (k : Nat) : Nat := if k = 2 then secCc else 10 * secCc

/-- The readings that raise and that clear a condition (R522). -/
def coolantBad (k : Nat) (s : State) : Bool :=
  let p := s.power
  match k with
  | 0 => decide (p.inlet < 15000)
  | 1 => decide ((p.cfg.coolantHigh : Int) * 1000 < p.inlet)
  | 2 => decide (50000 < p.inlet)
  | _ => decide (15000 < p.outlet - p.inlet)

def coolantGood (k : Nat) (s : State) : Bool :=
  let p := s.power
  match k with
  | 0 => decide (17000 ≤ p.inlet)
  | 1 => decide (p.inlet ≤ ((p.cfg.coolantHigh : Int) - 2) * 1000)
  | 2 => decide (p.inlet ≤ 48000)
  | _ => decide (p.outlet - p.inlet ≤ 12000)

/-- Since when a reading has stood. -/
def standing (on : Bool) (t : Option Nat) (now : Nat) : Option Nat := if on then some (t.getD now) else none

/-- The coolant in use follows the sensors, and the times of each condition follow the readings (R522). -/
def watchCoolant (s : State) : State :=
  let now := s.clock.now
  let one := fun k (w : Watch) => { w with
    rising := standing (coolantBad k s) w.rising now, falling := standing (coolantGood k s) w.falling now }
  modPower (fun p => { p with watches := p.watches.zipIdx.map (fun e => one e.2 e.1) }) s

/-- The throttle level that a coolant or junction condition demands (R522, R523). -/
def throttleLevel (p : Power) : Nat :=
  if (p.watches.getD 2 watchReset).held || p.junctions.any (fun j => decide (10300 < j)) && p.junctionHigh then 2
  else if (p.watches.getD 1 watchReset).held || p.junctionHigh then 1
  else 0

/-- Counts the milliseconds at the present throttle level up to now (R536). -/
def countThrottle (s : State) : State :=
  let ms := (s.clock.now - s.power.throttledAt) / msCc
  let l := throttleLevel s.power
  if l = 0 then modPower (fun p => { p with throttledAt := s.clock.now }) s
  else modPower (fun p => { p with throttledAt := p.throttledAt + ms * msCc }) (countPower (8 + l) ms s)

/-- A pipeline takes no frame in this cycle: the level lets 12 or 8 of every 16 cycles pass (R523). Assumption 62. -/
def throttled (s : State) : Bool :=
  match throttleLevel s.power with
  | 0 => false
  | 1 => 12 ≤ s.clock.now % 16
  | _ => 8 ≤ s.clock.now % 16

end Sys2Proof.Machine
end

