-- ==== Sys2Proof/Machine/ParseGraph.lean ====
section
/-! DEFINITION. Parse graphs: node records, the built-in graph, and the walk of a frame (R295 to R299). -/

namespace Sys2Proof.Machine

/-- A field that a node reads: its bit offset from the header start, and its width. -/
structure NodeField where
  off : Nat
  width : Nat
deriving DecidableEq, Repr

/-- One node of a parse graph (R296). -/
structure Node where
  sel : Option NodeField
  entries : List (Nat × Nat)
  dflt : Nat
  advConst : Nat
  advField : Option (NodeField × Nat)
  /-- Length field, its scale, and the constant added. -/
  len : Option (NodeField × Nat × Nat)
  frag : Option NodeField
  mark : Nat
  /-- Field and key bit. -/
  extracts : List (NodeField × Nat)
deriving DecidableEq, Repr

/-- Next codes END and UNKNOWN (R296). -/
def codeEnd : Nat := 0x100
def codeUnknown : Nat := 0x101

/-! ### Records (R296, R297) -/

/-- The node that a record of 32 words describes. -/
def nodeOfRecord (ws : List Word) : Node :=
  let w := wordAt ws
  let nextOf := fun (i : Nat) => fieldOf (w (24 + i / 2)) (16 * (i % 2)) 9
  { sel := if fieldOf (w 0) 9 6 = 0 then none else some ⟨fieldOf (w 0) 0 9, fieldOf (w 0) 9 6⟩
    entries := (List.range (fieldOf (w 0) 15 5)).map (fun i => ((w (8 + i)).toNat, nextOf i))
    dflt := fieldOf (w 0) 20 9
    advConst := fieldOf (w 1) 1 8
    advField := if bitOf (w 1) 0 then some (⟨fieldOf (w 1) 9 9, fieldOf (w 1) 18 5⟩, 2 ^ fieldOf (w 1) 23 2) else none
    len := if bitOf (w 2) 0 then some (⟨fieldOf (w 2) 1 9, fieldOf (w 2) 10 5⟩, 2 ^ fieldOf (w 2) 15 2, fieldOf (w 2) 17 8) else none
    frag := if bitOf (w 3) 0 then some ⟨fieldOf (w 3) 1 9, fieldOf (w 3) 10 5⟩ else none
    mark := fieldOf (w 3) 24 8
    extracts := (List.range 4).filterMap (fun e =>
      let x := w (4 + e)
      if fieldOf x 9 8 = 0 then none else some (⟨fieldOf x 0 9, fieldOf x 9 8⟩, fieldOf x 17 9)) }

/-- A field lies inside the 512 bits of a node, with a width from 1 to `most` (R296, R297). -/
def fieldFits (most : Nat) (f : NodeField) : Bool := 1 ≤ f.width && f.width ≤ most && f.off + f.width ≤ 512

/-- NODE_WRITE takes the record (R297). -/
def recordFits (ws : List Word) : Bool :=
  let n := nodeOfRecord ws
  let selWidth := fieldOf (wordAt ws 0) 9 6
  let codeOk := fun (c : Nat) => decide (c ≤ codeUnknown)
  selWidth ≤ 32 && fieldOf (wordAt ws 0) 15 5 ≤ 16 && codeOk n.dflt && n.entries.all (fun e => codeOk e.2 && e.1 < 2 ^ selWidth) &&
    (match n.sel with | some f => fieldFits 32 f | none => true) &&
    (match n.advField with | some (f, _) => fieldFits 16 f | none => true) &&
    (match n.len with | some (f, _) => fieldFits 16 f | none => true) &&
    (match n.frag with | some f => fieldFits 16 f | none => true) &&
    n.extracts.all (fun e => fieldFits 128 e.1 && e.2 + e.1.width ≤ 512)

/-! ### The built-in graph (R299) -/

/-- A node of the built-in graph: selector, matches and constant advance; every match list ends in END. -/
def plainNode (sel : Option NodeField) (entries : List (Nat × Nat)) (adv mark : Nat) (extracts : List (NodeField × Nat)) : Node :=
  { sel := sel, entries := entries, dflt := codeEnd, advConst := adv, advField := none, len := none, frag := none, mark := mark,
    extracts := extracts }

/-- Matches of node 0 without the tags, and of node 8. -/
def etherMatches : List (Nat × Nat) := [(0x8847, 4), (0x8848, 4), (0x0800, 7), (0x86DD, 8), (0x88F7, 13)]
def ipv6Matches : List (Nat × Nat) := [(0, 9), (43, 9), (60, 9), (44, 10), (6, 12), (17, 11)]

/-- The nodes of the built-in graph. -/
def builtInNode : Nat → Option Node
  | 0 => some (plainNode (some ⟨96, 16⟩) ([(0x8100, 1), (0x88A8, 2)] ++ etherMatches) 14 0x01 [(⟨0, 48⟩, 0)])
  | 1 => some (plainNode (some ⟨16, 16⟩) etherMatches 4 0x02 [(⟨4, 12⟩, 48), (⟨0, 3⟩, 60)])
  | 2 => some (plainNode (some ⟨16, 16⟩) ((0x8100, 3) :: etherMatches) 4 0x02 [(⟨4, 12⟩, 48), (⟨0, 3⟩, 60)])
  | 3 => some (plainNode (some ⟨16, 16⟩) etherMatches 4 0x02 [(⟨4, 12⟩, 64)])
  | 4 => some (plainNode (some ⟨23, 1⟩) [(0, 5), (1, 6)] 4 0x04 [(⟨0, 20⟩, 76), (⟨20, 3⟩, 96)])
  | 5 => some (plainNode (some ⟨23, 1⟩) [(0, 5), (1, 6)] 4 0x04 [])
  | 6 => some (plainNode (some ⟨0, 4⟩) [(4, 7), (6, 8)] 0 0 [])
  | 7 => some { plainNode (some ⟨72, 8⟩) [(6, 12), (17, 11)] 0 0x08
                  [(⟨8, 6⟩, 99), (⟨72, 8⟩, 112), (⟨96, 32⟩, 216), (⟨128, 32⟩, 344)] with
                  advField := some (⟨4, 4⟩, 4), len := some (⟨16, 16⟩, 1, 0), frag := some ⟨51, 13⟩ }
  | 8 => some { plainNode (some ⟨48, 8⟩) ipv6Matches 40 0x10
                  [(⟨4, 6⟩, 99), (⟨48, 8⟩, 112), (⟨64, 128⟩, 120), (⟨192, 128⟩, 248)] with len := some (⟨32, 16⟩, 1, 40) }
  | 9 => some { plainNode (some ⟨0, 8⟩) ipv6Matches 8 0 [(⟨0, 8⟩, 112)] with advField := some (⟨8, 8⟩, 8) }
  | 10 => some { plainNode (some ⟨0, 8⟩) ipv6Matches 8 0 [(⟨0, 8⟩, 112)] with frag := some ⟨16, 13⟩ }
  | 11 => some { plainNode (some ⟨16, 16⟩) [(319, 13), (320, 13)] 8 0x20 [(⟨0, 16⟩, 376), (⟨16, 16⟩, 392)] with
                  len := some (⟨32, 16⟩, 1, 0) }
  | 12 => some { plainNode none [] 0 0x40 [(⟨0, 16⟩, 376), (⟨16, 16⟩, 392), (⟨104, 8⟩, 408)] with advField := some (⟨96, 4⟩, 4) }
  | 13 => some (plainNode none [] 0 0x80 [(⟨4, 4⟩, 416), (⟨32, 8⟩, 420)])
  | _ => none

/-! ### The walk (R295) -/

/-- The parse exceptions, as the slow path's reasons number them (R314). -/
def tooDeep : Nat := 1
def unknownNode : Nat := 2
def lengths : Nat := 3

/-- What the walk has gathered: the key (bit 0 most significant), marks, the fragment flag, and the start of the first IP header, of
its kind, and of the UDP header. -/
structure Walk where
  key : Nat
  marks : Nat
  frag : Bool
  ipAt : Option Nat
  ipv6 : Bool
  udpAt : Option Nat
deriving DecidableEq, Repr

def walkStart : Walk := ⟨0, 0, false, none, false, none⟩

/-- The frame as the walk reads it: its first 256 bytes as one number, and its length without the FCS. -/
structure WalkFrame where
  bits : Nat
  len : Nat
deriving DecidableEq, Repr

/-- The first 256 bytes of a frame, zeros past its end. -/
def walkFrame (data : List Byte) : WalkFrame :=
  let bs := data.take 256
  ⟨bs.foldl (fun a b => 256 * a + b.toNat) 0 * 256 ^ (256 - bs.length), data.length - 4⟩

/-- A field read at header start `h`, most significant bit first, or the exception that the read gives. -/
def readField (fr : WalkFrame) (h : Nat) (f : NodeField) : Except Nat Nat :=
  let lo := 8 * h + f.off
  let last := (lo + f.width - 1) / 8
  if 255 < last then .error tooDeep
  else if fr.len ≤ last then .error lengths
  else .ok (fr.bits / 2 ^ (2048 - lo - f.width) % 2 ^ f.width)

/-- The advance of a node. -/
def nodeAdvance (fr : WalkFrame) (h : Nat) (n : Node) : Except Nat Nat :=
  match n.advField with
  | none => .ok n.advConst
  | some (f, scale) =>
    match readField fr h f with
    | .error e => .error e
    | .ok v => .ok (v * scale + n.advConst)

/-- The length check of a node. -/
def nodeLength (fr : WalkFrame) (h : Nat) (n : Node) : Except Nat Unit :=
  match n.len with
  | none => .ok ()
  | some (f, scale, add) =>
    match readField fr h f with
    | .error e => .error e
    | .ok v =>
      let claimed := v * scale + add
      if fr.len - h < claimed then .error lengths
      else
        match nodeAdvance fr h n with
        | .error e => .error e
        | .ok a => if claimed < a then .error lengths else .ok ()

/-- Sets `width` bits of a vector of `total` bits from bit `dst` on. -/
def setBits (total n dst width v : Nat) : Nat :=
  let sh := total - dst - width
  n - n / 2 ^ sh % 2 ^ width * 2 ^ sh + v * 2 ^ sh

/-- The extracts of a node. -/
def nodeExtracts (fr : WalkFrame) (h : Nat) : List (NodeField × Nat) → Nat → Except Nat Nat
  | [], key => .ok key
  | (f, dst) :: es, key =>
    match readField fr h f with
    | .error e => .error e
    | .ok v => nodeExtracts fr h es (setBits 512 key dst f.width v)

/-- The fragment test of a node. -/
def nodeFragment (fr : WalkFrame) (h : Nat) (n : Node) : Except Nat Bool :=
  match n.frag with
  | none => .ok false
  | some f =>
    match readField fr h f with
    | .error e => .error e
    | .ok v => .ok (v != 0)

/-- The next code of a node. -/
def nodeNext (fr : WalkFrame) (h : Nat) (n : Node) : Except Nat Nat :=
  match n.sel with
  | none => .ok n.dflt
  | some f =>
    match readField fr h f with
    | .error e => .error e
    | .ok v =>
      match n.entries.find? (fun e => e.1 == v) with
      | some e => .ok e.2
      | none => .ok n.dflt

/-- The marks of a node join those gathered. -/
def nodeMarks (h : Nat) (n : Node) (w : Walk) : Walk :=
  let ip := n.mark.testBit 3 || n.mark.testBit 4
  { w with
    marks := w.marks ||| n.mark
    ipv6 := if ip && w.ipAt.isNone then !n.mark.testBit 3 else w.ipv6
    ipAt := if ip && w.ipAt.isNone then some h else w.ipAt
    udpAt := if n.mark.testBit 5 then some h else w.udpAt }

/-- One visit: the walk ends with what it has gathered, or goes on at a node and header start. -/
def visit (graph : Nat → Option Node) (fr : WalkFrame) (h : Nat) (n : Node) (w : Walk) :
    Except Nat (Walk × Option (Nat × Node)) :=
  match nodeLength fr h n with
  | .error e => .error e
  | .ok _ =>
    let w := nodeMarks h n w
    match nodeExtracts fr h n.extracts w.key with
    | .error e => .error e
    | .ok key =>
      let w := { w with key := key }
      match nodeFragment fr h n with
      | .error e => .error e
      | .ok true => .ok ({ w with frag := true }, none)
      | .ok false =>
        match nodeNext fr h n with
        | .error e => .error e
        | .ok nxt =>
          match nodeAdvance fr h n with
          | .error e => .error e
          | .ok a =>
            if nxt = codeEnd then .ok (w, none)
            else
              match graph nxt with
              | none => .error unknownNode
              | some m => .ok (w, some (h + a, m))

/-- The walk from a node with a number of visits left (R295). -/
def walkFrom (graph : Nat → Option Node) (fr : WalkFrame) : Nat → Nat → Node → Walk → Except Nat Walk
  | 0, _, _, _ => .error tooDeep
  | fuel + 1, h, n, w =>
    match visit graph fr h n w with
    | .error e => .error e
    | .ok (w, none) => .ok w
    | .ok (w, some (h, n)) => walkFrom graph fr fuel h n w

/-- The walk of a frame over a graph: what it gathers, or the reason of the exception. -/
def walk (graph : Nat → Option Node) (data : List Byte) : Except Nat Walk :=
  match graph 0 with
  | none => .error unknownNode
  | some n => walkFrom graph (walkFrame data) 24 0 n walkStart

/-- The match vector of 576 bits, bit 0 most significant (R298). -/
def matchVector (port : Nat) (w : Walk) : Nat :=
  w.key * 2 ^ 64 + port % 256 * 2 ^ 56 + w.marks % 256 * 2 ^ 48 + bitNat w.frag * 2 ^ 47

/-- Bits of the match vector (R298). -/
def vectorField (mv off width : Nat) : Nat := mv / 2 ^ (576 - off - width) % 2 ^ width

end Sys2Proof.Machine
end

