-- ==== Sys2Proof/Machine/Contacts.lean ====
section
/-! DEFINITION. What the contacts show: the levels of the output contacts, the SMBus address and packet error code, the console line, the
test access port, and the pads in each power state (R33, R38, R44, R45, R47, R49, R50, R52, R55 to R57). Every one is computed from State;
no pad is stored twice. -/

namespace Sys2Proof.Machine

/-- The level that the module gives an output contact: driven low, driven high, or high-impedance, which an open-drain contact also is when
it is released (R33). -/
inductive Level where
  | low
  | high
  | z
deriving DecidableEq, Repr

/-- The bank of a contact group: which supply powers its pads. -/
inductive Bank where
  | hsClient
  | hsPcie
  | lsCore
  | lsAux
  | analog
deriving DecidableEq, Repr

/-- The LS-AUX contacts that carry an output are driven: AUX is present and RESET_N does not stand low (R47, R49). -/
def auxDriven (s : State) : Bool := s.power.aux && s.pins.resetN

/-- ALARM_N, open-drain: low for a CRITICAL alarm, a Curtain, or MFG_TEST (R49, R52). -/
def alarmN (s : State) : Level :=
  if auxDriven s && (criticalActive s || s.power.curtain.isSome || (s.pins.strapped && s.pins.mfgTest)) then .low else .z

/-- SMB_ALERT_N, open-drain: low while the notification queue of the sideband holds an entry (R44, R444). -/
def smbAlertN (s : State) : Level := if s.power.aux && s.zordin.sb.ntfs ≠ [] then .low else .z

/-- The LS-CORE bank drives its outputs: it has power and RESET_N does not stand low (R47, R55). -/
def coreDriven (s : State) : Bool := s.start.railsUp && s.pins.resetN

/-- The PCIe controller is out of reset: released at start-up, and PERST_N stands high (R38, R543). Assumption 105. -/
def pcieUp (s : State) : Bool := s.start.railsUp && s.pins.pcieReleased && s.pins.perstN && !s.pins.pcieRetained

/-- CLKREQ_N, open-drain: low while the PCIe controller is out of reset; released before the bank loses power, in retention, and under
RESET_N (R38, R47, R56). -/
def clkreqN (s : State) : Level := if coreDriven s && pcieUp s then .low else .z

/-- PPS_OUT: its live value; low in retention; high-impedance without AUX and core power, and under RESET_N (R40, R56, R57). -/
def ppsOutPad (s : State) : Level :=
  if s.pins.retained then (if s.power.aux && s.pins.resetN then .low else .z)
  else if coreDriven s then (if s.pins.ppsOut then .high else .low) else .z

/-- TDO: IEEE 1149.1 drives it only while the port shifts, and no row moves the port out of its reset (R50, R56; assumption 96). -/
def tdo (_ : State) : Level := .z

/-- TRST_N low, as its pull-down leaves it, holds the test access port in reset (R50). Assumption 96. -/
def tapHeld (s : State) : Bool := !s.pins.trstN

/-- Boundary scan covers the LS-CORE and the LS-AUX contacts only (R50). Assumption 96. -/
def bankScanned : Bank → Bool
  | .lsCore => true
  | .lsAux => true
  | _ => false

/-! ### The console line (R45) -/

/-- The levels of one character, 8N1: a start bit of 0, eight data bits with the least significant first, a stop bit of 1. Assumption 96. -/
def uartFrame (b : Byte) : List Bool := false :: ((List.range 8).map (fun k => b.getLsbD k) ++ [true])

/-- Bits of 1/115,200 s in a number of core cycles. -/
def uartBits (cc : Nat) : Nat := cc * 115200 / 1750000000

/-- UART_TX: the answer of the diagnostic monitor, character after character, and high when idle; high-impedance without AUX or under
RESET_N (R45, R47, R549). Assumption 96. -/
def uartTx (s : State) : Level :=
  if !auxDriven s then .z
  else
    match s.island.console.answer with
    | none => .high
    | some (t, text) => if (text.flatMap uartFrame).getD (uartBits (s.clock.now - t)) true then .high else .low

/-! ### SMBus (R44, R441) -/

/-- The module's 7-bit address. Assumption 95. -/
def smbusAddress (s : State) : Nat := 0x40 + s.pins.slotId % 16

/-- One byte into the CRC-8 of SMBus 3.1, x^8 + x^2 + x + 1, most significant bit first (assumption 95). -/
def pecByte (c : Nat) (b : Nat) : Nat :=
  (List.range 8).foldl (fun r _ => if 128 ≤ r then (2 * r % 256) ^^^ 7 else 2 * r) (c ^^^ b)

/-- The packet error code over the bytes of a message, its addresses included. Assumption 95. -/
def pecOf (bytes : List Nat) : Byte := BitVec.ofNat 8 (bytes.foldl pecByte 0)

/-- The packet error code of a Block Write and of a Block Read to the module (R441). Assumption 95. -/
def writePec (code : Nat) (bytes : List Byte) (s : State) : Byte :=
  pecOf (2 * smbusAddress s :: code :: bytes.length :: bytes.map BitVec.toNat)
def readPec (code : Nat) (bytes : List Byte) (s : State) : Byte :=
  pecOf (2 * smbusAddress s :: code :: (2 * smbusAddress s + 1) :: bytes.map BitVec.toNat)

/-! ### PCIe identity (R418, R575) -/

/-- Vendor and Subsystem Vendor ID, and Device, Subsystem and Revision ID and class code of a function. -/
structure PcieIds where
  vendor : Nat
  device : Nat
  subVendor : Nat
  subsystem : Nat
  revision : Nat
  class_ : Nat
deriving DecidableEq, Repr

/-- The IDs of PF0 and PF1 (R418, R575). -/
def pcieIds (func : Nat) : PcieIds :=
  ⟨0x1DF6, if func = 0 then 0x1664 else 0x1665, 0x1DF6, 0x00B1, 0xB1, 0x028000⟩

/-! ### Pads in each power state (R55) -/

/-- The contact groups of R55. -/
inductive PadGroup where
  | clientTransmit
  | clientReceive
  | pcie
  | coreOutput
  | coreInput
  | auxContact
  | analogInput
  | optical
deriving DecidableEq, Repr

/-- How a contact group behaves. -/
inductive PadMode where
  | active
  | electricalIdle
  | signalDetect
  | off
  | linkConfigured
  | linkL1
  | driven
  | latched
  | ignored
  | converted
  | dark
  | energyGated
deriving DecidableEq, Repr

/-- The transmitters and outputs that RESET_N low makes high-impedance (R47). -/
def resetOff : PadGroup → Bool
  | .clientTransmit => true
  | .pcie => true
  | .coreOutput => true
  | _ => false

/-- The behaviour of a contact group in the present power state (R47, R55). The Curtain sheds the client SerDes within its first 2 µs, so
client pads are off in it (R530). -/
def padMode (g : PadGroup) (s : State) : PadMode :=
  if !s.pins.resetN && resetOff g then .off
  else
  match g, s.power.state with
  | .clientTransmit, .run => .active
  | .clientTransmit, .quiet => .electricalIdle
  | .clientTransmit, _ => .off
  | .clientReceive, .run => .active
  | .clientReceive, .quiet => .signalDetect
  | .clientReceive, _ => .off
  | .pcie, .dormant => .linkL1
  | .pcie, .standby => .off
  | .pcie, _ => .linkConfigured
  | .coreOutput, .standby => .latched
  | .coreOutput, _ => .driven
  | .coreInput, .standby => .ignored
  | .coreInput, _ => .active
  | .auxContact, _ => .active
  | .analogInput, _ => .converted
  | .optical, .run => .active
  | .optical, .curtain => .energyGated
  | .optical, _ => .dark

/-- CREF is watched: its receiver is terminated (R37, R55). -/
def crefSeen (s : State) : Bool := padMode .clientReceive s != .off

end Sys2Proof.Machine
end

