-- ==== Sys2Proof/Machine/Scheduler.lean ====
section
/-! DEFINITION. The task scheduler of R447 to R450: joining a ready queue, finishing, and leaving the delay list. -/

namespace Sys2Proof.Machine

/-- Puts a task behind the ready tasks of its level or above (R447). -/
def enqueueTask (t : Task) : List Task → List Task
  | [] => [t]
  | u :: us => if t.level ≤ u.level then u :: enqueueTask t us else t :: u :: us

/-- Puts a task before the ready tasks of its level (R449: tasks leaving the delay list go first). -/
def enqueueFirst (t : Task) : List Task → List Task
  | [] => [t]
  | u :: us => if t.level < u.level then u :: enqueueFirst t us else t :: u :: us

/-- Ready tasks of a core at or above a level (R448). -/
def readyAbove (level : Nat) (c : CoreQueue) : Nat := (c.ready.filter (fun t => level ≤ t.level)).length

/-- The place of the first core with the fewest ready tasks at or above a level (R448). -/
def chooseCore (level : Nat) : List CoreQueue → Nat
  | [] => 0
  | [_] => 0
  | c :: d :: cs =>
    let j := chooseCore level (d :: cs)
    if readyAbove level c ≤ readyAbove level ((d :: cs).getD j coreQueueReset) then 0 else j + 1

/-- A core after a task has joined its ready queue with `put`; its highest depth follows, and a core that waits
resumes (R450, R492). -/
def joinCore (put : Task → List Task → List Task) (t : Task) (c : CoreQueue) : CoreQueue :=
  let r := put t c.ready
  { c with ready := r, depthMax := max c.depthMax r.length, waiting := false }

/-- A new task joins the ready queue of the core that R448 chooses. -/
def createTask (level id : Nat) (s : State) : State :=
  let i := chooseCore level s.zordin.sched.cores
  { s with zordin := { s.zordin with sched := { s.zordin.sched with
      cores := s.zordin.sched.cores.modify i (joinCore enqueueTask ⟨level, id, s.clock.now⟩) } } }

/-- A core after the first task with an identifier has left it; the time from ready to running counts toward the highest. -/
def finishOn (now id : Nat) (c : CoreQueue) : CoreQueue :=
  match c.ready.find? (fun t => t.id == id) with
  | none => c
  | some t => { c with ready := c.ready.erase t, waitMax := max c.waitMax ((now - t.readyAt) / usCc) }

/-- The place of the first core that holds a task with an identifier; past the last core when none does. -/
def taskCore (id : Nat) (cs : List CoreQueue) : Nat := cs.findIdx (fun c => c.ready.any (fun t => t.id == id))

/-- The task of a command, named by its source and tag. -/
def commandTask (src : Source) (tag : Nat) : Nat := 32 * sourceCode src + tag

/-- The task that handles a stage message, named by the lane it came on. Assumption 101. -/
def messageTask (m : StageMsg) : Nat := 128 + 16 * hubCode m.hub + m.plane

/-- The level of the stage protocol's message handlers, within 56 to 63 (R447; assumption 101). -/
def messageLevel : Nat := 56

/-- The level of a source's commands (R447). -/
def commandLevel : Source → Nat
  | .pf0 => 40
  | .pf1 => 24
  | .sideband => 48

/-- A task has run and leaves its core. -/
def finishTask (id : Nat) (s : State) : State :=
  { s with zordin := { s.zordin with sched := { s.zordin.sched with
      cores := s.zordin.sched.cores.modify (taskCore id s.zordin.sched.cores) (finishOn s.clock.now id) } } }

/-- Each task of a list joins a ready queue ahead of the tasks of its level, the last first, so that the list's order stands. -/
def wakeTasks : List Task → State → State
  | [], s => s
  | t :: ts, s =>
    let s := wakeTasks ts s
    let i := chooseCore t.level s.zordin.sched.cores
    { s with zordin := { s.zordin with sched := { s.zordin.sched with
        cores := s.zordin.sched.cores.modify i (joinCore enqueueFirst { t with readyAt := s.clock.now }) } } }

/-- DELAY_LIST_DUE: at a tick the tasks whose delay is due leave the delay list, in the order in which they entered it, and join
their ready queues ahead of the tasks created in that tick; a tick is 10 µs (R449). Assumption 6. -/
def execDelayListDue (tick : Nat) (s : State) : Result :=
  let s := advanceTo (tick * (10 * usCc)) s
  let due := s.zordin.sched.delayed.filter (fun d => d.1 ≤ tick)
  let s := { s with zordin := { s.zordin with sched := { s.zordin.sched with
      delayed := s.zordin.sched.delayed.filter (fun d => tick < d.1) } } }
  .next (wakeTasks (due.map (fun d => d.2)) s)

end Sys2Proof.Machine
end

