-- ==== Sys2Proof/Machine/Gate.lean ====
section
/-! DEFINITION. The gate that every Zordin command passes: the checks of R436 that commands share, the command's own rule, and its
response. -/

namespace Sys2Proof.Machine

/-! ### The gate of a command (R435, R436) -/

/-- How a command's own rule ends: with its final status and words, accepted as a long command, or with a response that its effect
writes later (R501). -/
inductive Reply where
  | done (st : Status) (ws : List Word)
  | accepted
  | later
deriving DecidableEq, Repr

/-- What a command's own chapter says of it beside its effect. -/
structure CommandRule where
  /-- Request words that the command defines (R435: a shorter request ends with BAD_ARG). -/
  words : Nat
  /-- The source may issue it with these arguments (R419, R445). -/
  allowed : Bool
  /-- The Stagehand executes it without Zordin (R445). -/
  stagehand : Bool

/-- A command that ends with a status and changes nothing (R435). -/
def refuse (st : Status) (s : State) : Reply × State := (.done st [], s)

/-- A command that ends with OK, its response words and its effect. -/
def okay (ws : List Word) (s : State) : Reply × State := (.done .ok ws, s)

/-- Carries out a command: the checks of R436 that every command shares, then the command's own rule, then its response. `able` says
that someone runs who can execute it. During a Curtain Zordin executes nothing and no response is written (R530).
Assumptions 26 and 27. -/
def runCommand (able : Bool) (src : Source) (tag : Nat) (req : List Word) (rule : CommandRule) (body : State → Reply × State)
    (s : State) : Result :=
  if s.power.state == .curtain && !rule.stagehand then .next s
  else
  let (reply, s) :=
    if req.length < rule.words then refuse .badArg s
    else if !rule.allowed then refuse .denied s
    else if !able then refuse .notReady s
    else body s
  let s := finishTask (commandTask src tag) s
  match reply with
  | .done st ws => .next (respond src tag st ws s)
  | .accepted => .next (deliver src ⟨tag, statusCode .accepted, false, false, []⟩ s)
  | .later => .next s

/-- A command of Zordin, or one that the Stagehand executes without Zordin; in recovery neither does (R445, R548). Assumptions 26 and 27. -/
def command (src : Source) (tag : Nat) (req : List Word) (rule : CommandRule) (body : State → Reply × State) (s : State) :
    Result :=
  runCommand (!s.start.recovery && (rule.stagehand || s.start.running)) src tag req rule body s

/-- Only PF0 may issue the command (R419). -/
def pf0Only (src : Source) : Bool := src == .pf0

/-- The command is a status read that every source may issue; with its clear bit set only PF0 may (R452 and like rules). -/
def readOrPf0 (src : Source) (clear : Bool) : Bool := src == .pf0 || !clear

/-- Carries on with the index of a handle, or ends with the status of R14. -/
def withHandle (t : ChanType) (h : Word) (s : State) (k : Nat → Reply × State) : Reply × State :=
  match checkHandle t h s with
  | .ok ix => k ix
  | .error st => refuse st s

end Sys2Proof.Machine
end

