-- ==== Sys2Proof/Machine/TxOps.lean ====
section
/-! DEFINITION. Transmitter operations: state changes with their events, counters, and the drift baselines (R183 to R193). -/

namespace Sys2Proof.Machine

/-- Transmitter `x`. -/
def txOf (x : Nat) (s : State) : Transmitter := tabGet txReset s.tx.txs x

/-- Rewrites a transmitter. -/
def modTx (x : Nat) (g : Transmitter → Transmitter) (s : State) : State :=
  { s with tx := { s.tx with txs := tabMod txReset s.tx.txs x g } }

/-- Adds to a counter of a list; the counter saturates at 2^32 - 1. -/
def bump (i n : Nat) (cs : List Nat) : List Nat := cs.modify i (fun c => satAdd 32 c n)

/-- Counts on a transmitter (R193). -/
def countTx (x i n : Nat) (s : State) : State := modTx x (fun t => { t with counters := bump i n t.counters }) s

/-- Transmitter state and reason numbers (R194). -/
def txPhaseCode : TxPhase → Nat
  | .off => 0
  | .warming => 1
  | .ready => 2
  | .out => 3
  | .failed => 4

def txReasonCode : TxReason → Nat
  | .none => 0
  | .host => 1
  | .drift => 2
  | .gate => 3
  | .tileCut => 4
  | .power => 5
  | .retune => 6
  | .trim => 7
  | .table => 8

/-- Lane-ready means READY (R189). -/
def laneReady (x : Nat) (s : State) : Bool := (txOf x s).phase == .ready

/-- The lowest-numbered lane-ready transmitter of a plane (R119, R125). -/
def lowestReady (p : Nat) (s : State) : Option Nat := (List.range 32).find? (fun k => laneReady (32 * p + k) s) |>.map (32 * p + ·)

/-- Phase and reason once a change has taken effect. -/
def afterChange : TxChange → TxPhase × TxReason
  | .loaded => (.warming, .none)
  | .ready => (.ready, .none)
  | .unsettled => (.warming, .none)
  | .returned => (.warming, .none)
  | .leave r => (.out, r)
  | .fail r => (.failed, r)

/-- Phase and reason of a transmitter once what waits for the slot boundary has taken effect. -/
def nextPhase (x : Nat) (s : State) : TxPhase × TxReason :=
  match (txOf x s).pending.getLast? with
  | some c => afterChange c
  | none => ((txOf x s).phase, (txOf x s).reason)

/-- A change of state waits for the slot boundary (R189, R191). -/
def awaitChange (x : Nat) (c : TxChange) (s : State) : State := modTx x (fun t => { t with pending := t.pending ++ [c] }) s

/-- The failure of a transmitter that GATE_STUCK tells (R192). -/
def gateStuck (x : Nat) (s : State) : State := hold 0x0407 (srcTx x) .critical 0 0 s

/-- A change of state takes effect, with its event (R189, R192). -/
def applyChange (x : Nat) (c : TxChange) (s : State) : State :=
  let s := modTx x (fun t => { t with phase := (afterChange c).1, reason := (afterChange c).2 }) s
  match c with
  | .loaded => modTx x (fun t => { t with guards := 0, channel := 64, trims := t.checkpoint }) s
  | .ready => raise 0x0401 (srcTx x) .info 0 0 s
  | .unsettled => raise 0x0402 (srcTx x) .minor 0 0 (modTx x (fun t => { t with guards := 0 }) s)
  | .returned => modTx x (fun t => { t with misses := 0, lowPower := 0, guards := 0 }) s
  | .leave r => raise 0x0403 (srcTx x) .info (wordOf (txReasonCode r)) 0 s
  | .fail r => raise 0x0406 (srcTx x) .major (wordOf (txReasonCode r)) 0 (modTx x (fun t => { t with guards := 0 }) s)

/-- The changes of a list, in order. -/
def applyAll (x : Nat) : List TxChange → State → State
  | [], s => s
  | c :: cs, s => applyAll x cs (applyChange x c s)

/-- At a slot boundary of a transmitter what waits takes effect (R189). -/
def txBoundary (x : Nat) (s : State) : State :=
  let cs := (txOf x s).pending
  if cs.isEmpty then s else applyAll x cs (modTx x (fun t => { t with pending := [] }) s)

/-- A failure that R183 cuts at once; it is recorded in MRAM (R183, R189, R191). -/
def cutTx (x : Nat) (r : TxReason) (s : State) : State :=
  let s := modTx x (fun t => { t with pending := [], gateOpen := false, line := 0, channel := 64, record := some r }) s
  let s := applyChange x (.fail r) s
  if r = .gate then gateStuck x s else s

/-- A transmitter loses its tile's power: OFF, unless its failure is recorded (R189). Its light ends with its power, at once (assumption
80). -/
def powerOffTx (x : Nat) (s : State) : State :=
  modTx x (fun t =>
    let t := { t with pending := [], plan := none, gateOpen := false, line := 0, burst := none, settled := false, guards := 0 }
    if t.record.isSome then t
    else { t with phase := .off, reason := .none, channel := 64, misses := 0, lowPower := 0, darkFails := 0, cutAt := none }) s

/-- Applies an operation to the numbers of a list in order. -/
def forEach (g : Nat → State → State) : List Nat → State → State
  | [], s => s
  | x :: xs, s => forEach g xs (g x s)

/-- The transmitters of a tile: planes 2t and 2t + 1 (R484). -/
def tileTxs (t : Nat) : List Nat := (List.range 64).map (fun i => 64 * t + i)

/-- The transmitters of a plane. -/
def planeTxs (p : Nat) : List Nat := (List.range 32).map (fun k => 32 * p + k)

/-- The transmitters of a plane that are OUT for drift return to READY at their slot boundary (R184, R189). -/
def returnDrifted (p : Nat) (s : State) : State :=
  forEach (fun x s => if nextPhase x s = (.out, .drift) then awaitChange x .ready s else s) (planeTxs p) s

/-- Clears the drift baselines of a plane and returns its transmitters that are OUT for drift (R184). -/
def resetBaselines (p : Nat) (s : State) : State :=
  let s := { s with tx := { s.tx with arrivals := tabKeep (fun k => k / 64 != p) s.tx.arrivals } }
  returnDrifted p s

end Sys2Proof.Machine
end

