-- ==== Sys2Proof/Machine/Larder.lean ====
section
/-! DEFINITION. The Larder: pools, caches and rings, and the operations ALLOC, SHARE and FREE (R336 to R343). -/

namespace Sys2Proof.Machine

/-- A 64-bit counter of a list that saturates (R319, R348). -/
def bump64 (i n : Nat) (cs : List Nat) : List Nat := cs.modify i (fun c => satAdd 64 c n)

/-- Rewrites the queues. -/
def modQueues (g : Queues → Queues) (s : State) : State := { s with queues := g s.queues }

/-- A pool, and a pool rewritten. -/
def poolOf (i : Nat) (s : State) : Pool := tabGet poolReset s.queues.pools i
def modPool (i : Nat) (g : Pool → Pool) (s : State) : State :=
  modQueues (fun q => { q with pools := tabMod poolReset q.pools i g }) s

/-- A buffer, and a buffer rewritten. -/
def bufferOf (t : Nat) (s : State) : Buffer := tabGet bufferReset s.queues.buffers t
def modBuffer (t : Nat) (g : Buffer → Buffer) (s : State) : State :=
  modQueues (fun q => { q with buffers := tabMod bufferReset q.buffers t g }) s

/-- Counts on a pool (R348). -/
def countPool (i k n : Nat) (s : State) : State := modPool i (fun p => { p with counters := bump64 k n p.counters }) s

/-- The pool and the index that a token names, and a pool's token (R337). -/
def tokenPool (t : Nat) : Nat := t / 2 ^ 28 % 16
def tokenIndex (t : Nat) : Nat := t % 2 ^ 28
def tokenOf (pool ix : Nat) : Nat := 2 ^ 28 * pool + ix

/-- Tokens in a pool's ring. -/
def ringCount (p : Pool) : Nat := p.total + p.pushed - p.popped

/-- The token at the head of a pool's ring: the place holds what was put there, else the token it has held since the pool was made
(assumption 21). -/
def ringHead (i : Nat) (p : Pool) : Nat := (tabGet none p.ring p.popped).getD (tokenOf i (p.popped + 1))

/-- Takes `n` tokens off a pool's ring into its cache. -/
def refill (i : Nat) : Nat → Pool → Pool
  | 0, p => p
  | n + 1, p =>
    refill i n { p with cache := p.cache ++ [ringHead i p], popped := p.popped + 1, ring := tabSet none p.ring p.popped none }

/-- Puts `n` tokens of the cache onto the ring. -/
def spill : Nat → Pool → Pool
  | 0, p => p
  | n + 1, p =>
    match p.cache with
    | [] => p
    | t :: ts => spill n { p with cache := ts, pushed := p.pushed + 1, ring := tabSet none p.ring (p.total + p.pushed) (some t) }

/-- The HBM stack of a pool has been retired, or its host pool is lost (R345). -/
def poolDead (i : Nat) (s : State) : Bool :=
  let p := poolOf i s
  p.lost || (1 ≤ i && (s.start.hbm.getD p.stack hbmStackReset).retired)

/-- A failed allocation: counted as pool empty or as cache starved, and POOL_EMPTY raised (R339). -/
def allocFails (i : Nat) (empty : Bool) (s : State) : State :=
  raise 0x0901 1926 .minor (wordOf i) 0 (countPool i (if empty then 1 else 2) 1 s)

/-- What has happened at a pool's cache in the present cycle. -/
def useNow (i : Nat) (s : State) : CycleUse :=
  let u := (poolOf i s).use
  if u.at_ = s.clock.now then u else ⟨s.clock.now, 0, 0, 0, 0, 0⟩

/-- Records a use of a pool's cache. -/
def noteUse (i : Nat) (g : CycleUse → CycleUse) (s : State) : State := modPool i (fun p => { p with use := g (useNow i s) }) s

/-- A request that the present cycle cannot serve in its order falls in the next one: 16 are served a cycle, in ascending
requester order (R338, R578; assumption 71). -/
def requestCycle (served by_ owner : Nat) (fresh : Bool) (s : State) : State :=
  if 16 ≤ served ∨ owner < by_ ∨ fresh then advance 1 s else s

/-- The cycle of an allocation: one in which the oldest token of the cache was not pushed. -/
def allocCycle (i owner : Nat) (s : State) : State :=
  let u := useNow i s
  let n := (poolOf i s).cache.length
  let s := requestCycle u.allocs u.allocBy owner (decide (0 < n ∧ n ≤ u.fresh)) s
  noteUse i (fun u => { u with allocs := u.allocs + 1, allocBy := owner }) s

/-- The cycle of a free that pushes `owner`'s token. -/
def freeCycle (i owner : Nat) (s : State) : State :=
  let u := useNow i s
  let s := requestCycle u.frees u.freeBy owner false s
  noteUse i (fun u => { u with frees := u.frees + 1, fresh := u.fresh + 1, freeBy := owner }) s

/-- ALLOC: pops the cache for an owner; none is the null token (R339, R341). A pool of a retired stack gives none (R345). -/
def larderAlloc (i owner : Nat) (s : State) : Option Nat × State :=
  let s := allocCycle i owner s
  let p := poolOf i s
  if poolDead i s then (none, allocFails i (ringCount p == 0) s)
  else
    match p.cache with
    | [] => (none, allocFails i (ringCount p == 0) s)
    | t :: ts =>
      let s := modPool i (fun p => { p with cache := ts }) s
      if t = 0 then (none, allocFails i true s)
      else (some t, countPool i 0 1 (modBuffer t (fun _ => ⟨1, owner, false, none⟩) s))

/-- SHARE (R341). Assumption 53. -/
def larderShare (t add last : Nat) (s : State) : State :=
  modBuffer t (fun b => { b with count := (b.count + add) % 256, last := last, ended := false }) s

/-- The hardware owners, each with a release FIFO (R340, R341). -/
def hardwareOwner (o : Nat) : Bool :=
  (1 ≤ o && o ≤ 5) || (0x100 ≤ o && o < 0x200) || (0x200 ≤ o && o < 0x300)

/-- A cell of the egress buffer returns: its class holds one fewer (R332). -/
def cellReturned (t : Nat) (s : State) : State :=
  match (bufferOf t s).cls with
  | none => s
  | some c =>
    modQueues (fun q => { q with egress := q.egress.modify c (fun e => { e with used := e.used - 1 }) })
      (modBuffer t (fun b => { b with cls := none }) s)

/-- A free that cannot go on waits, and its client with it (R20, R338, R341). -/
def holdFree (t owner : Nat) (s : State) : State :=
  modPool (tokenPool t) (fun p =>
    { p with
      held := p.held ++ [(t, owner)], heldSince := some (p.heldSince.getD s.clock.now),
      heldCounted := if p.heldSince.isSome then p.heldCounted else s.clock.now }) s

/-- FREE by the last owner: the token goes to its pool's cache as given; none where the cache is full (R338, R341). -/
def freeByLast (t : Nat) (s : State) : Option State :=
  let i := tokenPool t
  if (poolOf i s).lost then some s
  else if 64 ≤ (poolOf i s).cache.length then none
  else
    let s := freeCycle i (bufferOf t s).last s
    let s := cellReturned t (modBuffer t (fun b => { b with ended := false }) s)
    some (countPool i 3 1 (modPool i (fun p => { p with cache := p.cache ++ [t] }) s))

/-- FREE by another owner: the count falls, and at 1 the token is posted to the last owner, who frees it at once when its own use
has ended (R341, R342). None where the post would find the release FIFO full. -/
def freeByOther (t : Nat) (s : State) : Option State :=
  let b := bufferOf t s
  let n := (b.count + 255) % 256
  let i := tokenPool t
  if (poolOf i s).lost then some s
  else if n ≠ 1 ∨ !hardwareOwner b.last then some (countPool i 4 1 (modBuffer t (fun b => { b with count := n }) s))
  else if b.ended then
    let s := countPool i 5 1 (countPool i 4 1 (modBuffer t (fun b => { b with count := n }) s))
    match freeByLast t s with
    | some s => some s
    | none => some (holdFree t b.last s)
  else
    let fifo := tabGet [] s.queues.releases b.last
    if 256 ≤ fifo.length then none
    else
      some (modQueues (fun q => { q with releases := tabSet [] q.releases b.last (fifo ++ [t]) })
        (countPool i 5 1 (countPool i 4 1 (modBuffer t (fun b => { b with count := n }) s))))

/-- A free by an owner; none where it must be held. Assumption 53. -/
def tryFree (t owner : Nat) (s : State) : Option State :=
  if owner = (bufferOf t s).last then freeByLast t s else freeByOther t s

/-- FREE by an owner: carried out, or held behind the owner's frees that wait (R20, R341). Assumption 53. -/
def larderFree (t owner : Nat) (s : State) : State :=
  if (poolOf (tokenPool t) s).held.any (fun h => h.2 == owner) then holdFree t owner s
  else
    match tryFree t owner s with
    | some s => s
    | none => holdFree t owner s

/-- Frees tokens in order. -/
def freeAll (owner : Nat) : List Nat → State → State
  | [], s => s
  | t :: ts, s => freeAll owner ts (larderFree t owner s)

/-- A hardware last owner's use of a token ends: it frees at once when the count reads 1, and waits for the post otherwise (R342). -/
def ownerDone (owner t : Nat) (s : State) : State :=
  if (bufferOf t s).count = 1 then
    larderFree t owner (modQueues (fun q =>
      { q with releases := tabSet [] q.releases owner ((tabGet [] q.releases owner).erase t) }) s)
  else modBuffer t (fun b => { b with ended := true }) s

/-- Every token of a list shared. -/
def shareAll (add last : Nat) : List Nat → State → State
  | [], s => s
  | t :: ts, s => shareAll add last ts (larderShare t add last s)

/-- Allocates one token from each pool of a list in order; when one fails, those taken are freed again (R326, R333). -/
def allocAll (owner : Nat) : List Nat → List Nat → State → Option (List Nat) × State
  | [], got, s => (some got, s)
  | i :: is, got, s =>
    match larderAlloc i owner s with
    | (some t, s) => allocAll owner is (got ++ [t]) s
    | (none, s) => (none, freeAll owner got s)

/-! ### Egress cells (R332 to R334) -/

/-- The class state of the egress buffer. -/
def egressClass (c : Nat) (s : State) : EgressClass := s.queues.egress.getD c egressClassReset

/-- The shared use of a class, and the free cells of the shared area (R332). -/
def sharedUse (e : EgressClass) : Nat := e.used - e.min
def sharedFree (s : State) : Nat :=
  516096 - (s.queues.egress.map (fun e => e.min)).sum - (s.queues.egress.map sharedUse).sum

/-- Rewrites a class of the egress buffer. -/
def modEgress (c : Nat) (g : EgressClass → EgressClass) (s : State) : State :=
  modQueues (fun q => { q with egress := q.egress.modify c g }) s

/-- One cell for class `c` (R333). -/
def allocCell (c : Nat) (s : State) : Option Nat × State :=
  let e := egressClass c s
  if e.used < e.min ∨ (sharedUse e < e.cap ∧ 0 < sharedFree s) then
    match larderAlloc 0 0x003 s with
    | (none, s) => (none, s)
    | (some t, s) =>
      (some t, modEgress c (fun e => { e with used := e.used + 1, highest := max e.highest (e.used + 1) })
        (modBuffer t (fun b => { b with cls := some c }) s))
  else (none, s)

/-- `n` cells for class `c` on top of those held; on a failure every cell is freed and an egress drop is counted (R333). -/
def allocCells (c : Nat) : Nat → List Nat → State → Option (List Nat) × State
  | 0, got, s => (some got, s)
  | n + 1, got, s =>
    match allocCell c s with
    | (some t, s) => allocCells c n (got ++ [t]) s
    | (none, s) => (none, modEgress c (fun e => { e with drops := satAdd 64 e.drops 1 }) (freeAll 0x003 got s))

/-- rx_credit of a class in bytes (R334). -/
def rxCredit (c : Nat) (s : State) : Nat :=
  let e := egressClass c s
  256 * ((e.min - e.used) + min (sharedFree s) (e.cap - sharedUse e))

/-! ### Rows of the Larder -/

/-- LARDER_REFILL: a cache below 32 takes up to 16 tokens of its ring (R338). -/
def execLarderRefill (pool : Nat) (s : State) : Result :=
  let p := poolOf pool s
  let n := min 16 (ringCount p)
  if 32 ≤ p.cache.length then .next s
  else .next (modPool pool (refill pool n) (noteUse pool (fun u => { u with fresh := u.fresh + n }) s))

/-- LARDER_SPILL: a cache above 48 puts up to 16 tokens on its ring, as far as the ring has room (R338, R343). -/
def execLarderSpill (pool : Nat) (s : State) : Result :=
  let p := poolOf pool s
  if p.cache.length ≤ 48 then .next s
  else
    let n := min 16 (min (p.cache.length - 48) (p.total - ringCount p))
    let s := if p.cache.length < n + (useNow pool s).fresh then advance 1 s else s
    .next (modPool pool (spill n) s)

/-- LARDER_ALLOC: a client allocates; the token, or the null token, is what it reads back (R339, R341). -/
def execLarderAlloc (pool owner : Nat) (s : State) : Result :=
  let (t, s) := larderAlloc pool owner s
  .next { s with readBack := [wordOf (t.getD 0)] }

/-- LARDER_FREE (R341). -/
def execLarderFree (token owner : Nat) (s : State) : Result := .next (larderFree token owner s)

/-- LARDER_SHARE (R341). -/
def execLarderShare (token add last : Nat) (s : State) : Result := .next (larderShare token add last s)

/-- The cycles with a held free are counted up to now (R348). -/
def countHeld (i : Nat) (s : State) : State :=
  let p := poolOf i s
  if p.heldSince.isNone then s
  else modPool i (fun p => { p with heldCounted := s.clock.now }) (countPool i 6 (s.clock.now - p.heldCounted) s)

/-- HELD_FREE_RESUME: the oldest held free goes on when it can; with none left the stall is over (R338, R347). -/
def execHeldFreeResume (pool : Nat) (s : State) : Result :=
  match (poolOf pool s).held with
  | [] => .next s
  | (t, o) :: rest =>
    match tryFree t o s with
    | none => .next s
    | some s =>
      let s := countHeld pool s
      let s := modPool pool (fun p => { p with held := rest, heldSince := if rest.isEmpty then none else p.heldSince, stalled := false }) s
      .next (clear 0x0902 1926 (wordOf pool) 0 s)

/-- POOL_STALL: a free has been held for 1 µs (R347). -/
def execPoolStall (pool : Nat) (s : State) : Result :=
  match (poolOf pool s).heldSince with
  | none => .next s
  | some t =>
    let s := advanceTo (t + usCc) s
    .next (hold 0x0902 1926 .major (wordOf pool) 0 (modPool pool (fun p => { p with stalled := true }) s))

end Sys2Proof.Machine
end

