-- ==== Sys2Proof/Machine/QueueOps.lean ====
section
/-! DEFINITION. Virtual output queues: their keys and sums, the meters, and admission (R324 to R331, R344). -/

namespace Sys2Proof.Machine

/-! ### Keys -/

/-- Key of a destination and, for destination 30, a multicast group (R324, R327). -/
def flowKey (d group : Nat) : Nat := 1024 * d + (if d = 30 then group else 0)

/-- Key of plane queue (d, c, p) of a group. -/
def queueKey (d group c p : Nat) : Nat := (flowKey d group * 8 + c) * 16 + p

/-- Destination, class and plane of a plane queue's key. -/
def keyDest (k : Nat) : Nat := k / 131072
def keyClass (k : Nat) : Nat := k / 16 % 8
def keyPlane (k : Nat) : Nat := k % 16

/-- A plane queue, and a plane queue rewritten. -/
def planeQueue (k : Nat) (s : State) : List QFrame := tabGet [] s.queues.planeQueues k
def modPlaneQueue (k : Nat) (g : List QFrame → List QFrame) (s : State) : State :=
  modQueues (fun q => { q with planeQueues := tabMod [] q.planeQueues k g }) s

/-- Bytes of a queue. -/
def queueBytes (fs : List QFrame) : Nat := (fs.map (fun f => f.data.length)).sum

/-- The plane queues of VOQ (d, c). -/
def voqQueues (d c : Nat) (s : State) : Tab (List QFrame) :=
  s.queues.planeQueues.filter (fun e => keyDest e.1 == d && keyClass e.1 == c)

/-- Bytes in VOQ (d, c) over planes (R326). -/
def voqBytes (d c : Nat) (s : State) : Nat := ((voqQueues d c s).map (fun e => queueBytes e.2)).sum

/-- Occupancy of (d, c) on plane p, over every group (R325). -/
def occupancy (d c p : Nat) (s : State) : Nat :=
  (((voqQueues d c s).filter (fun e => keyPlane e.1 == p)).map (fun e => queueBytes e.2)).sum

/-- Frames that the descriptor store holds (R326). -/
def storedFrames (s : State) : Nat := (s.queues.planeQueues.map (fun e => e.2.length)).sum

/-- A VOQ, a VOQ rewritten, and a count on it (R348). -/
def voqOf (d c : Nat) (s : State) : Voq := tabGet voqReset s.queues.voqs (8 * d + c)
def modVoq (d c : Nat) (g : Voq → Voq) (s : State) : State :=
  modQueues (fun q => { q with voqs := tabMod voqReset q.voqs (8 * d + c) g }) s
def countVoq (d c i n : Nat) (s : State) : State := modVoq d c (fun v => { v with counters := bump64 i n v.counters }) s

/-- The settings of VOQ (d, c). -/
def voqConfig (d c : Nat) (s : State) : VoqConfig := tabGet voqConfigReset s.queues.voqCfg (8 * d + c)

/-! ### Meters (R330, R331) -/

/-- Units of a bucket in one byte: a rate of 1 Mbit/s adds one unit in a core cycle. Assumption 52. -/
def byteUnits : Nat := 14000

/-- A meter with its buckets filled up to now. Assumption 52. -/
def meterNow (now : Nat) (m : Meter) : Meter :=
  let dt := now - m.at_
  { m with
    tc := min (m.cbs * byteUnits : Int) (m.tc + m.cir * dt)
    tp := min (m.pbs * byteUnits : Int) (m.tp + m.pir * dt)
    at_ := now }

/-- Meter `i` now, and a meter replaced. Assumption 51. -/
def meterOf (i : Nat) (s : State) : Meter := meterNow s.clock.now (tabGet meterReset s.queues.meters i)
def setMeter (i : Nat) (m : Meter) (s : State) : State :=
  modQueues (fun q => { q with meters := tabSet meterReset q.meters i m }) s

/-- The colour that a policer gives a frame of `bytes` bytes whose pre-colour is `pre` (R330): 0 green, 1 yellow, 2 red.
Assumptions 51 and 52. -/
def colourOf (m : Meter) (pre bytes : Nat) : Nat :=
  let b : Int := bytes * byteUnits
  if pre = 2 ∨ m.tp < b then 2 else if pre = 1 ∨ m.tc < b then 1 else 0

/-- A policer after it has coloured a frame (R330, R348). -/
def afterColour (m : Meter) (colour bytes : Nat) : Meter :=
  let b : Int := bytes * byteUnits
  { m with
    tc := if colour = 0 then m.tc - b else m.tc
    tp := if colour = 2 then m.tp else m.tp - b
    counters := bump64 (3 + colour) bytes (bump64 colour 1 m.counters) }

/-- The pre-colour that a colour-aware policer reads in the 576-bit match vector (R330). -/
def preColour (m : Meter) (mv : Nat) : Nat :=
  if m.aware then m.colourMap / 4 ^ (fieldAt3 mv m.colourOff) % 4 else 0
where
  /-- Three match-vector bits from an offset (R298). -/
  fieldAt3 (mv off : Nat) : Nat := mv / 2 ^ (573 - off) % 8

/-- A policer meters a frame: its colour (R330). -/
def police (i mv bytes : Nat) (s : State) : Nat × State :=
  let m := meterOf i s
  let c := colourOf m (preColour m mv) bytes
  (c, setMeter i (afterColour m c bytes) s)

/-- States of a shaper (R331), numbered as VOQ_STATUS numbers them. -/
def shaperState (m : Meter) : Nat := if m.tp < 0 then 3 else if m.tc < 0 then 2 else 1

/-- The state of the shaper of a target: 0 without one. -/
def shaperCode (sh : Option Nat) (s : State) : Nat :=
  match sh with
  | none => 0
  | some i => shaperState (meterOf i s)

/-- A frame passes a shaper: both buckets are charged, and it is counted under the shaper's state (R331, R348). Assumption 52. -/
def chargeShaper (sh : Option Nat) (bytes : Nat) (s : State) : State :=
  match sh with
  | none => s
  | some i =>
    let m := meterOf i s
    let b : Int := bytes * byteUnits
    setMeter i { m with tc := m.tc - b, tp := m.tp - b, counters := bump64 (if shaperState m = 1 then 0 else 1) 1 m.counters } s

/-- A frame that returns under R173 takes its charge back; the count stands (R173). -/
def unchargeShaper (sh : Option Nat) (bytes : Nat) (s : State) : State :=
  match sh with
  | none => s
  | some i =>
    let m := meterOf i s
    let b : Int := bytes * byteUnits
    setMeter i { m with tc := min (m.cbs * byteUnits : Int) (m.tc + b), tp := min (m.pbs * byteUnits : Int) (m.tp + b) } s

/-! ### HBM cells and admission (R326, R344) -/

/-- The HBM stacks that are trained and not retired. -/
def activeStacks (s : State) : List Nat :=
  (List.range 4).filter (fun i => let h := s.start.hbm.getD i hbmStackReset; h.trained && !h.retired)

/-- The pools of the cells of a frame of `len` bytes in order (R344). -/
def framePools (len : Nat) (s : State) : List Nat :=
  let act := activeStacks s
  (List.range ((len + 511) / 512)).map (fun i => 1 + act.getD ((s.queues.stripe + i) % act.length) 0)

/-- The ingress writer stores a frame: its cells, shared with the burst assembler (R342, R344). -/
def storeFrame (len : Nat) (s : State) : Option (List Nat) × State :=
  if (activeStacks s).isEmpty then (none, s)
  else
    match allocAll 0x001 (framePools len s) [] s with
    | (none, s) => (none, s)
    | (some ts, s) =>
      (some ts, shareAll 0 0x002 ts (modQueues (fun q => { q with stripe := q.stripe + 1 }) s))

/-- Appends a frame to a plane queue; the first one is at the head from now (R175, R326). -/
def appendFrame (k : Nat) (f : QFrame) (s : State) : State :=
  modPlaneQueue k (fun fs => if fs.isEmpty then [{ f with headAt := some s.clock.now }] else fs ++ [f]) s

/-- Admission of a frame to (d, c) on plane p: the first limit that fails drops it (R326). -/
def admitFrame (d group c p port colour : Nat) (data : List Byte) (s : State) : Option (List Nat) × State :=
  let n := data.length
  let sum := voqBytes d c s + n
  let cfg := voqConfig d c s
  if colour = 2 then (none, countVoq d c 3 1 s)
  else if cfg.limit * 65536 < sum then (none, countVoq d c 4 1 s)
  else if colour = 1 ∧ cfg.yellow * 65536 < sum then (none, countVoq d c 5 1 s)
  else if 16777216 ≤ storedFrames s then (none, countVoq d c 6 1 s)
  else
    match storeFrame n s with
    | (none, s) => (none, countVoq d c 7 1 s)
    | (some ts, s) =>
      (some ts, countVoq d c 1 n (countVoq d c 0 1 (appendFrame (queueKey d group c p) ⟨data, port, ts, none, none⟩ s)))

/-- The next frame of a queue is at its head from now (R175). -/
def markHead (now : Nat) : List QFrame → List QFrame
  | [] => []
  | f :: fs => { f with headAt := some (f.headAt.getD now) } :: fs

/-- Takes the head frame off a plane queue. -/
def popFrame (k : Nat) (s : State) : State := modPlaneQueue k (fun fs => markHead s.clock.now fs.tail) s

/-- A frame has a cell in a stack (R344, R345). -/
def inStack (stack : Nat) (f : QFrame) : Bool := f.tokens.any (fun t => tokenPool t == stack + 1)

/-- The frames of one plane queue with a cell in a retired stack are removed and counted as lost (R345). Assumption 53. -/
def purgeQueue (stack k : Nat) (s : State) : State :=
  let lost := (planeQueue k s).filter (inStack stack)
  let s := countVoq (keyDest k) (keyClass k) 8 lost.length s
  let s := forEach (ownerDone 0x002) (lost.flatMap (fun f => f.tokens)) s
  modPlaneQueue k (fun fs => markHead s.clock.now (fs.filter (fun f => !inStack stack f))) s

/-- The frames at the head of a plane queue with a cell in a retired stack are removed before a selection looks at it (R345). -/
def dropRetiredHeads (k : Nat) : Nat → State → State
  | 0, s => s
  | n + 1, s =>
    match planeQueue k s with
    | [] => s
    | f :: _ =>
      if f.tokens.any (fun t => (s.start.hbm.getD (tokenPool t - 1) hbmStackReset).retired) then
        dropRetiredHeads k n (forEach (ownerDone 0x002) f.tokens (countVoq (keyDest k) (keyClass k) 8 1 (popFrame k s)))
      else s

end Sys2Proof.Machine
end

