-- ==== Sys2Proof/Machine/JoinOps.lean ====
section
/-! DEFINITION. Joining: plane and terminal operations shared by the commands, the stage messages and the timers (R106 to R131,
R581). -/

namespace Sys2Proof.Machine

/-! ### Planes -/

/-- Plane machine `p`. -/
def planeOf (p : Nat) (s : State) : PlaneMachine := s.join.planes.getD p planeReset

/-- The next superframe boundary, as a slot index: the present slot's start when that is one and the slot begins now. -/
def nextBoundary (s : State) : Nat :=
  if s.clock.slot % 128 = 0 ∧ s.clock.now = s.clock.slotAt then s.clock.slot else 128 * (s.clock.slot / 128 + 1)

/-- Rewrites a plane machine. -/
def modPlane (p : Nat) (g : PlaneMachine → PlaneMachine) (s : State) : State :=
  { s with join := { s.join with planes := s.join.planes.modify p g } }

/-- Counts on a plane's join counters (R581). -/
def countPlane (p i : Nat) (s : State) : State := modPlane p (fun m => { m with counters := bump i 1 m.counters }) s

/-- Counts on the terminal-wide join counters (R581). -/
def countJoin (i : Nat) (s : State) : State := { s with join := { s.join with counters := bump i 1 s.join.counters } }

/-- The cue lane of a hub on a plane. -/
def laneOf (h : Hub) (p : Nat) (s : State) : CueLane := tabGet cueLaneReset s.cue.lanes (16 * hubCode h + p)

/-- Rewrites a cue lane. -/
def modLane (h : Hub) (p : Nat) (g : CueLane → CueLane) (s : State) : State :=
  { s with cue := { s.cue with lanes := tabMod cueLaneReset s.cue.lanes (16 * hubCode h + p) g } }

/-- Counts on a cue lane (R103). -/
def countLane (h : Hub) (p i n : Nat) (s : State) : State := modLane h p (fun l => { l with counters := bump i n l.counters }) s

/-- A plane may be joined: enabled by JOIN_CONFIG, and its demultiplexer has settled once (R521). -/
def planeEnabled (p : Nat) (s : State) : Bool :=
  maskBit s.join.cfg.planeEnable p && (s.power.demux.getD p ⟨false, false⟩).settledOnce

/-- The plane's cue lanes include one in SYNC (R130). -/
def anyLaneSync (p : Nat) (s : State) : Bool := (laneOf .a p s).framer == .sync || (laneOf .b p s).framer == .sync

/-- A hub owns a plane (R132). -/
def ownsPlane (h : Hub) (p : Nat) (s : State) : Bool :=
  match (planeOf p s).own with
  | .ownedA => h == .a
  | .ownedB => h == .b
  | .unowned => false
  | .contested => false

/-- RT_p and EqD_p in force: those of a RANGE_RESULT from the slot on at whose start they are loaded (R106, R125). Assumption 30. -/
def planeRt (p : Nat) (s : State) : Nat :=
  match (planeOf p s).load with
  | some (n, rt, _) => if n ≤ s.clock.slot then rt else (planeOf p s).rt
  | none => (planeOf p s).rt
def planeEqd (p : Nat) (s : State) : Int :=
  match (planeOf p s).load with
  | some (n, _, e) => if n ≤ s.clock.slot then e else (planeOf p s).eqd
  | none => (planeOf p s).eqd

/-- RT_p - EqD_p in sixteenths is in range: not negative and below 2^22 line bits (R107). -/
def leadOk (rt : Nat) (eqd : Int) : Bool := decide (0 ≤ (rt : Int) - eqd ∧ (rt : Int) - eqd < 2 ^ 26)

/-- Every timer of a plane stops. -/
def stopTimers (m : PlaneMachine) : PlaneMachine :=
  { m with tRwin := none, tAct := none, tSkew := none, tSusp := none, resultBy := none }

/-- A plane enters WAIT_WINDOW and starts T_RWIN, 50 ms (R130; assumption 9). -/
def waitWindow (now : Nat) (m : PlaneMachine) : PlaneMachine :=
  { stopTimers m with phase := .waitWindow, actSfn := none, tRwin := some (now + 50 * msCc) }

/-- A plane goes DOWN with RT_p and EqD_p at 0 (R130). -/
def planeDown (m : PlaneMachine) : PlaneMachine :=
  { stopTimers m with phase := .down, rt := 0, eqd := 0, load := none, actSfn := none, fine := [] }

/-- The ranging event of a plane (R130). -/
def rangingEvent (p : Nat) (sev : Severity) (s : State) : State := raise 0x020A (srcPlane p 3) sev 0 0 s

/-- The equalisation event of a plane, MINOR (R107, R127). -/
def equalisationEvent (p : Nat) (s : State) : State := raise 0x020B (srcPlane p 5) .minor 0 0 s

/-- A ranging failure: MINOR for the first two in a row, MAJOR from the third; back to WAIT_WINDOW (R130). -/
def rangingFailure (p : Nat) (s : State) : State :=
  let n := min 255 ((planeOf p s).fails + 1)
  rangingEvent p (if 3 ≤ n then .major else .minor) (modPlane p (fun m => waitWindow s.clock.now { m with fails := n }) s)

/-- A DOWN plane that may be ranged and has a cue lane in SYNC waits for a window (R130). -/
def tryWaitWindow (p : Nat) (s : State) : State :=
  if (planeOf p s).phase == .down && s.join.tn.isSome && maskBit s.join.planeMask p && planeEnabled p s && anyLaneSync p s then
    modPlane p (fun m => waitWindow s.clock.now { m with rwinRun := 0 }) s
  else s

/-- Some plane is ACTIVE, or ACTIVE or SUSPENDED. -/
def anyActive (s : State) : Bool := s.join.planes.any (fun m => m.phase == .active)
def anyServing (s : State) : Bool := s.join.planes.any (fun m => m.phase == .active || m.phase == .suspended)

/-- The 10 s without a plane ACTIVE or SUSPENDED run while REGISTERED (R129). Assumption 46. -/
def watchPlanes (s : State) : State :=
  if s.join.phase == .registered && !anyServing s then
    { s with join := { s.join with tNoPlane := some (s.join.tNoPlane.getD (s.clock.now + 10 * secCc)) } }
  else { s with join := { s.join with tNoPlane := none } }

/-! ### The terminal -/

/-- A pending JOIN_START ends with a status (R129). -/
def endJoinStart (st : Status) (s : State) : State := endLongs (fun k => k == .joinStart) st [] s

/-- Stops the terminal's timers. -/
def stopTermTimers (j : Join) : Join :=
  { j with tCue := none, tNoWindow := none, tId := none, tReject := none, tLeave := none, tNoPlane := none }

/-- Leaves REJECTED: JOIN_REJECT clears (R129). -/
def leaveRejected (s : State) : State := if s.join.phase == .rejected then clear 0x0211 1920 0 0 s else s

/-- Enters CUE_ACQ and starts T_CUE, 1 s (R129). -/
def enterCueAcq (s : State) : State :=
  let s := leaveRejected s
  { s with join := { stopTermTimers s.join with
      phase := .cueAcq, tCue := some (s.clock.now + secCc), discovery := none, answers := [], drawWaits := none } }

/-- Enters DISC_WAIT; 1 s without a window is watched (R129). -/
def enterDiscWait (s : State) : State :=
  let s := leaveRejected s
  { s with join := { stopTermTimers s.join with
      phase := .discWait, tNoWindow := some (s.clock.now + secCc), discovery := none, answers := [], drawWaits := none } }

/-- Enters OFFLINE. -/
def enterOffline (s : State) : State :=
  let s := leaveRejected s
  { s with join := { stopTermTimers s.join with phase := .offline, discovery := none, answers := [], drawWaits := none } }

/-- The TN is forgotten: every plane goes DOWN, the clash stop ends, and no answer stays scheduled (R124, R129, R130). What
line security does is in `forgetKeys`. Assumption 111. -/
def forgetTnJoin (s : State) : State :=
  let s := if s.join.clash then clear 0x0214 1920 0 0 s else s
  { s with join := { s.join with
      tn := none, clash := false, answers := [], drawWaits := none, planes := s.join.planes.map planeDown, alignRef := none } }

/-- The seconds, superframes and slots of a deadline: now plus a number of slots. -/
def slotsFromNow (n : Nat) (s : State) : Nat := s.clock.now + n * slotCc

/-- The length of the identity blob: certificate, the hub-key offer without it, and the hybrid signature (R122, R373;
assumption 10). -/
def identityLen (s : State) : Nat := s.certLen + 1727 + 4723

/-- Identity segments of 6,336 bytes (R121). Assumption 10. -/
def identitySegments (s : State) : Nat := (identityLen s + 6335) / 6336

/-! ### Stage messages -/

/-- A field of a message body by its bit offset and width (R139). -/
def bodyField (m : StageMsg) (off width : Nat) : Nat :=
  fieldBE m.body off width

/-- The message has been handled and leaves the inbox, and its task has run. Assumption 31. -/
def takeMsg (m : StageMsg) (s : State) : State :=
  finishTask (messageTask m) { s with cue := { s.cue with inbox := s.cue.inbox.erase m } }

/-- A message body that fails a check is counted as discarded on the lane that carried it (R139, R103). -/
def discardMsg (m : StageMsg) (s : State) : State := countLane m.hub m.plane 3 1 s

/-- The body's first 128 bits are the terminal's own serial (R94, R139). -/
def ownSerial (m : StageMsg) (s : State) : Bool := bodyField m 0 128 == s.serial

end Sys2Proof.Machine
end

