-- ==== Sys2Proof/Machine/TimeOps.lean ====
section
/-! DEFINITION. Time: the timestamping channels, the transmit timestamp queue, and the measurements of the servo (R397 to R410). -/

namespace Sys2Proof.Machine

/-- Rewrites the time part. -/
def modTime (g : Time → Time) (s : State) : State := { s with time := g s.time }

/-- Picoseconds in units of 2^-48 ns. -/
def psUnits (ps : Int) : Int := roundDiv (ps * 2 ^ 48) 1000

/-- Units of 2^-48 ns in whole ns and in ps. -/
def unitsNs (e : Int) : Int := roundDiv e (2 ^ 48)
def unitsPs (e : Int) : Int := roundDiv (e * 1000) (2 ^ 48)

/-- Words of an output time as TIME_READ gives them (R416). -/
def timeWords (t : Nat) : List Word :=
  [wordOf (outFrac t), wordOf (outNanos t), wordOf (outSeconds t), wordOf (outSeconds t / 2 ^ 32 % 65536)]

/-! ### Timestamping (R406 to R410) -/

/-- The timestamping channel of a port. -/
def tsChanOf (port : Nat) (s : State) : Option Nat :=
  (List.range 256).find? (fun i => (chanSlot 0x0A i s).live && (tabGet tsChannelReset s.time.tsPorts i).port == port)

/-- A request of the transmit timestamp queue is discarded: the count, and on the first one the flag and its event (R410). Assumption 18. -/
def dropTimestamp (s : State) : State :=
  let first := !s.time.tsqOvf
  let s := modTime (fun t => { t with
      tsqOvf := true, tsqDrops := satAdd 24 t.tsqDrops 1, tsqLost := pushMark 1 s.clock.now t.tsqLost }) s
  if first then raise 0x0B06 1928 .minor 0 0 s else s

/-- A frame that asked for a timestamp has been sent: its entry waits in the port's holding register (R408, R409;
assumption 18). -/
def holdTimestamp (e : TsEntry) (s : State) : State :=
  match tabGet none s.time.holding e.port with
  | some _ => dropTimestamp s
  | none => modTime (fun t => { t with holding := tabSet none t.holding e.port (some e) }) s

/-! ### Measurements of the servo (R397 to R400) -/

/-- d_down,p in units of 2^-48 ns (R112). -/
def downDelay (p : Nat) (s : State) : Int :=
  let rt := roundDiv (planeRt p s * 1000 * 2 ^ 48) (896 * 1000)
  roundDiv (rt - psUnits ((Config.tint p).toNat : Int) - psUnits (tabGet 0 s.time.asym p)) 2

/-- A plane serves the time of a hub now (R399). -/
def timeUsable (h : Hub) (p : Nat) (s : State) : Bool :=
  let l := laneOf h p s
  let m := planeOf p s
  (m.phase == .equalised || m.phase == .active) && l.framer == .sync && !l.los && !l.lof && !l.ais.held && !l.sfnMis.held &&
    !l.planeMis.held && !l.stageMis.held

/-- The measurement of a hub on a plane. -/
def planeTime (h : Hub) (p : Nat) (t : Time) : PlaneTime := tabGet planeTimeReset t.planes (16 * hubCode h + p)

/-- Rewrites the measurement of a hub on a plane. -/
def modPlaneTime (h : Hub) (p : Nat) (g : PlaneTime → PlaneTime) (t : Time) : Time :=
  { t with planes := tabMod planeTimeReset t.planes (16 * hubCode h + p) g }

/-- The offset of a good cue frame (R398): the output time at the receive slot reference less the hub's time there. `tod` is in
units of 2^-48 ns, and the reference lies `cycles` cycles and `bits` line bits after the start of the slot. -/
def frameOffset (p : Nat) (tod cycles bits : Int) (s : State) : Int :=
  let back := (s.clock.now : Int) - s.clock.slotAt - cycles
  let atRef := (s.clock.outTime : Int) - roundDiv ((timeIncrement s.clock.rate : Int) * (32 * back - bits)) 32
  atRef - (tod + downDelay p s + psUnits ((Config.rxLat p).toNat : Int))

/-- Adds the offset of a good cue frame (R400). -/
def addOffset (h : Hub) (p : Nat) (e : Int) (s : State) : State :=
  modTime (modPlaneTime h p (fun t => { t with sum := t.sum + e, count := t.count + 1 })) s

/-- Notes the planes that are not usable now, so that they do not count for this superframe (R399). -/
def noteUnusable (s : State) : State :=
  modTime (fun t => { t with planes := (List.range 32).foldl (fun ps i =>
    tabMod planeTimeReset ps i (fun e => { e with broken := e.broken || !timeUsable (hubOf (i / 16 == 1)) (i % 16) s })) t.planes }) s

end Sys2Proof.Machine
end

