-- ==== Sys2Proof/Machine/PortOps.lean ====
section
/-! DEFINITION. Client ports: lanes and types, the port machine, and the egress queues (R283 to R294, R335, R408). -/

namespace Sys2Proof.Machine

/-- A port, and a port rewritten. -/
def portOf (p : Nat) (s : State) : Port := tabGet portReset s.ports.ports p
def modPort (p : Nat) (g : Port → Port) (s : State) : State :=
  { s with ports := { s.ports with ports := tabMod portReset s.ports.ports p g } }

/-- Counts on a port, and on the classification counters (R319). -/
def countPort (p i n : Nat) (s : State) : State := modPort p (fun x => { x with counters := bump64 i n x.counters }) s
def countClassify (i n : Nat) (s : State) : State :=
  { s with ports := { s.ports with counters := bump64 i n s.ports.counters } }

/-- A frame joins the FIFO of an ingress pipeline (R19, R290). -/
def pushPipeline (i : Nat) (f : InFrame) (s : State) : State :=
  { s with ports := { s.ports with
    fifos := tabSet [] s.ports.fifos i (tabGet [] s.ports.fifos i ++ [f])
    fifoNew := tabSet none s.ports.fifoNew i (pushMark 1 s.clock.now (tabGet none s.ports.fifoNew i)) } }

/-- Lanes of a port type (R283). -/
def typeLanes (t : Nat) : Nat :=
  match t with
  | 2 => 2
  | 3 => 4
  | 4 => 8
  | _ => 1

/-- Lane rate of a port type: 0 for 106.25, 1 for 25.78125, 2 for 10.3125 Gbit/s (R283). -/
def typeRate (t : Nat) : Nat := if t = 5 then 1 else if t = 6 then 2 else 0

/-- A port is enabled: its type is not 0. -/
def portEnabled (p : Nat) (s : State) : Bool := (portOf p s).cfg.ptype != 0

/-- The enabled ports. -/
def enabledPorts (s : State) : List Nat := (s.ports.ports.filter (fun e => e.2.cfg.ptype != 0)).map (fun e => e.1)

/-- The lanes of a port (R283). -/
def portLanes (p : Nat) (s : State) : List Nat := (List.range (typeLanes (portOf p s).cfg.ptype)).map (p + ·)

/-- The enabled port that a client lane belongs to. -/
def portOfLane (l : Nat) (s : State) : Option Nat :=
  (enabledPorts s).find? (fun p => p ≤ l && l < p + typeLanes (portOf p s).cfg.ptype)

/-- A packet-mode port of this terminal. -/
def packetPort (p : Nat) (s : State) : Bool := portEnabled p s && !(portOf p s).cfg.circuit

/-! ### Egress (R291 to R294, R335) -/

/-- The owner code of the egress MAC of a port (R340). -/
def macOwner (p : Nat) : Nat := 0x100 + p

/-- The MAC's use of a frame ends: as last owner it frees or waits, as another holder it frees (R342). Assumption 50. -/
def macDone (p : Nat) (f : EgressFrame) (s : State) : State :=
  forEach (fun t s => if (bufferOf t s).last = macOwner p then ownerDone (macOwner p) t s else larderFree t (macOwner p) s)
    f.tokens s

/-- The MAC's use of each frame ends. -/
def dropAllFrames (p : Nat) : List EgressFrame → State → State
  | [], s => s
  | f :: fs, s => dropAllFrames p fs (macDone p f s)

/-- Every egress frame of a port that is not UP is dropped and counted (R287, R292). Assumption 50. -/
def flushPort (p : Nat) (s : State) : State :=
  let fs := (portOf p s).queues.flatten
  let s := modPort p (fun x => { x with queues := List.replicate 8 [] }) s
  dropAllFrames p fs (countPort p 11 fs.length s)

/-- The counter under which a frame handed to a packet-mode port is dropped (R292). -/
def egressDrop (p len : Nat) (s : State) : Option Nat :=
  let x := portOf p s
  if x.phase ≠ .up || x.lf || x.rf then some 11 else if x.cfg.maxFrame < len then some 12 else none

/-- Appends a frame to the transmit queue of its class (R291, R293). -/
def enqueueEgress (p : Nat) (f : EgressFrame) (s : State) : State :=
  modPort p (fun x => { x with queues := x.queues.modify f.cls (fun q => q ++ [f]) }) s

/-- Hands a frame to the egress of one port; false when R292 drops it. Its cells are not touched. -/
def handPort (p : Nat) (f : EgressFrame) (s : State) : Bool × State :=
  if !packetPort p s then (false, countClassify 14 1 s)
  else
    match egressDrop p f.data.length s with
    | some i => (false, countPort p i 1 s)
    | none => (true, enqueueEgress p f s)

/-- A unicast frame that the receive back end holds is handed to its port: shared with the egress MAC, or freed when it is dropped
(R292, R342). -/
def handUnicast (p : Nat) (f : EgressFrame) (s : State) : State :=
  match handPort p f s with
  | (true, s) => shareAll 0 (macOwner p) f.tokens s
  | (false, s) => freeAll 0x003 f.tokens s

/-- Hands copies of a frame to ports in ascending order; the number that were enqueued. -/
def handCopies (f : EgressFrame) : List Nat → Nat → State → Nat × State
  | [], n, s => (n, s)
  | p :: ps, n, s =>
    let (ok, s) := handPort p f s
    handCopies f ps (n + bitNat ok) s

/-- The replicator enqueues a frame of a multicast group on each listed port; the last copy's end frees it (R335, R342). -/
def replicate (ports : Nat) (f : EgressFrame) (s : State) : State :=
  let (n, s) := handCopies f ((List.range 256).filter (maskBit ports)) 0 s
  if n = 0 then freeAll 0x003 f.tokens s
  else forEach (fun t s => modBuffer t (fun b => { b with ended := true }) s) f.tokens (shareAll n 0x004 f.tokens s)

/-- Drops a frame of a group without channel or ports (R335). -/
def dropMcast (f : EgressFrame) (s : State) : State :=
  freeAll 0x003 f.tokens (modQueues (fun q => { q with mcastDrops := q.mcastDrops + 1 }) s)

/-! ### The port machine (R287, R288) -/

/-- CREF_MISSING of every lane of a port is held without CREF, and clears with it (R37). -/
def tellCref (p : Nat) (s : State) : State :=
  forEach (fun l s => holdIf (!s.pins.cref) 0x0806 (srcLane l) .major 0 0 s) (portLanes p s) s

/-- The lanes power up: KR and CR interfaces train, C2M interfaces align; outside RUN the port is POWER_DOWN. Without CREF every
lane raises CREF_MISSING, where its receiver works (R287, R37, R55). -/
def startPort (p : Nat) (s : State) : State :=
  let x := portOf p s
  let trains := x.cfg.iface = 1 ∨ x.cfg.iface = 2
  let run := s.power.state = .run
  let s := modPort p (fun x => { x with
    phase := if !run then .powerDown else if trains then .training else .aligning
    trainFails := 0
    tTrain := if run ∧ trains then some (s.clock.now + 3 * secCc) else none }) s
  if crefSeen s then tellCref p s else s

/-- A port leaves UP: faults end and its waiting frames are dropped and counted (R287, R292). -/
def leaveUp (p : Nat) (s : State) : State :=
  let s := clear 0x0804 (srcLane p) 0 0 (modPort p (fun x => { x with lf := false, rf := false }) s)
  flushPort p s

/-- A port that is UP loses its link (R287, R288). Assumption 50. -/
def linkLost (p : Nat) (s : State) : State :=
  let s := leaveUp p (raise 0x0802 (srcLane p) .major 0 0 s)
  startPort p s

/-- A port goes to POWER_DOWN, unless it is disabled (R287). -/
def powerDownPort (p : Nat) (s : State) : State :=
  if !portEnabled p s then s
  else
    let s := if (portOf p s).phase = .up then leaveUp p s else s
    modPort p (fun x => { x with phase := .powerDown, tTrain := none }) s

/-- A port is disabled: its lanes go off and its egress frames are dropped (R287). -/
def disablePort (p : Nat) (s : State) : State :=
  let lanes := portLanes p s
  let s := flushPort p s
  let s := clear 0x0804 (srcLane p) 0 0 s
  let s := forEach (fun l s => clear 0x0806 (srcLane l) 0 0 (clear 0x0805 (srcLane l) 0 0 s)) lanes s
  modPort p (fun x => { x with
    cfg := portConfigReset, phase := .disabled, lf := false, rf := false, los := 0, trainFails := 0, tTrain := none }) s

end Sys2Proof.Machine
end

