-- ==== Sys2Proof/Machine/Classify.lean ====
section
/-! DEFINITION. Classification: rules, the destination table, load spreading, the slow path, and the way of a frame from its parser to
its queue (R300 to R318, R326). -/

namespace Sys2Proof.Machine

/-! ### The active configuration (R316, R318) -/

/-- A rule set by channel index. -/
def ruleSetOf (i : Nat) (s : State) : RuleSet := tabGet ruleSetReset s.ports.ruleSets i

/-- The nodes of a graph image; none is the built-in graph. -/
def graphNodes (g : Option Nat) (s : State) (n : Nat) : Option Node :=
  match g with
  | none => builtInNode n
  | some i =>
    match tabGet [] (tabGet graphImageReset s.ports.graphs i).nodes n with
    | [] => none
    | ws => some (nodeOfRecord ws)

/-- Profile 0 of the built-in rule set: the protocol, the IP addresses and the L4 ports, bits 112 to 407 (R308). -/
def builtInProfile : Nat := (2 ^ 296 - 1) * 2 ^ 168

/-- The built-in rule set (R318). -/
def builtInRules : RuleSet := { ruleSetReset with profiles := [(0, builtInProfile)] }

/-- The rules of the active configuration. -/
def activeRules (s : State) : RuleSet :=
  match s.ports.ruleSet with
  | none => builtInRules
  | some i => ruleSetOf i s

/-! ### Rules (R300 to R303) -/

/-- A vector of 18 words, the first the most significant (R300). -/
def vectorOfWords (ws : List Word) : Nat := ws.foldl (fun a w => 2 ^ 32 * a + w.toNat) 0

/-- A comparator over a match vector (R301). -/
def comparatorTrue (c : Comparator) (mv : Nat) : Bool :=
  let v := vectorField mv c.off 16
  decide (c.low ≤ v ∧ v ≤ c.high)

/-- One use of a comparator in rule word 36: its number, used, negated. -/
def comparatorOk (rs : RuleSet) (mv ix : Nat) (use neg : Bool) : Bool :=
  !use || comparatorTrue (tabGet comparatorReset rs.comparators ix) mv != neg

/-- A rule is in use and matches (R301). -/
def ruleMatches (rs : RuleSet) (mv : Nat) (r : List Word) : Bool :=
  let mask := vectorOfWords ((r.drop 18).take 18)
  let w := wordAt r 36
  bitOf (wordAt r 37) 2 && (mv &&& mask) == (vectorOfWords (r.take 18) &&& mask) &&
    comparatorOk rs mv (fieldOf w 0 6) (bitOf w 6) (bitOf w 7) && comparatorOk rs mv (fieldOf w 8 6) (bitOf w 14) (bitOf w 15)

/-- The deciding action: words 37 and 38 (R301). -/
def decide37 (rs : RuleSet) (mv : Nat) : Word × Word :=
  match rs.rules.find? (fun e => ruleMatches rs mv e.2) with
  | some e => (wordAt e.2 37, wordAt e.2 38)
  | none => (rs.action, rs.policer)

/-- A comparator's 16 bits overlap the L4 region, key bits 376 to 511 (R298, R302). -/
def overlapsL4 (c : Comparator) : Bool := 376 ≤ c.off + 15 && c.off ≤ 511

/-- A valid rule looks into the L4 region (R302). -/
def ruleUsesL4 (rs : RuleSet) (r : List Word) : Bool :=
  let w := wordAt r 36
  let cmp := fun (ix : Nat) => overlapsL4 (tabGet comparatorReset rs.comparators ix)
  bitOf (wordAt r 37) 2 &&
    (vectorField (vectorOfWords ((r.drop 18).take 18)) 376 136 != 0 || (bitOf w 6 && cmp (fieldOf w 0 6)) ||
      (bitOf w 14 && cmp (fieldOf w 8 6)))

/-- The rule set uses L4 (R302). -/
def usesL4 (rs : RuleSet) : Bool := rs.rules.any (fun e => ruleUsesL4 rs e.2)

/-! ### Remark (R294, R300) -/

/-- Writes a byte of a frame. -/
def setByte (data : List Byte) (i : Nat) (v : Nat) : List Byte := data.set i (BitVec.ofNat 8 v)

/-- A 16-bit field of a frame, most significant byte first. -/
def halfAt (data : List Byte) (i : Nat) : Nat := (data.getD i 0).toNat * 256 + (data.getD (i + 1) 0).toNat

/-- Writes a 16-bit field of a frame. -/
def setHalfAt (data : List Byte) (i v : Nat) : List Byte := setByte (setByte data i (v / 256 % 256)) (i + 1) (v % 256)

/-- A one's-complement sum folded to 16 bits. -/
def foldSum (n : Nat) : Nat :=
  let n := n % 65536 + n / 65536
  n % 65536 + n / 65536

/-- A checksum after a 16-bit field changed from `old` to `new` (RFC 1624). -/
def updateSum (sum old new : Nat) : Nat := 65535 - foldSum ((65535 - sum) + (65535 - old) + new)

/-- Replaces the FCS (R294). -/
def refreshFcs (data : List Byte) : List Byte :=
  let body := data.take (data.length - 4)
  body ++ bytesOfWord (crc32 body)

/-- Writes a DSCP into the first IP header; an IPv4 header checksum is updated incrementally (R294). -/
def remark (w : Walk) (dscp : Nat) (data : List Byte) : List Byte :=
  match w.ipAt with
  | none => data
  | some h =>
    let old := halfAt data h
    if w.ipv6 then
      refreshFcs (setHalfAt data h (old / 4096 * 4096 + dscp * 64 + old % 64))
    else
      let new := old / 256 * 256 + dscp * 4 + old % 4
      refreshFcs (setHalfAt (setHalfAt data h new) (h + 10) (updateSum (halfAt data (h + 10)) old new))

/-! ### Destination lookup (R304 to R306) -/

/-- Lookup keys as one number: Ethernet by address and VLAN identifier, MPLS by label. -/
def etherKey (addr vlan : Nat) : Nat := vlan * 2 ^ 48 + addr
def mplsKey (label : Nat) : Nat := 2 ^ 60 + label

/-- The lookup key of a frame (R304). -/
def lookupKey (keySel : Nat) (marks mv : Nat) : Nat :=
  if keySel = 2 ∨ (keySel = 0 ∧ marks.testBit 2) then mplsKey (vectorField mv 76 20)
  else etherKey (vectorField mv 0 48) (vectorField mv 48 12)

/-- The result held for a key. -/
def fibGet (k : Nat) (s : State) : Option Nat := (tabGet none s.ports.fib k).map (fun e => e.1)

/-! ### Load spreading (R308 to R312) -/

/-- The low `n` bytes of a number, most significant first. -/
def bytesOfNat (n v : Nat) : List Byte := (List.range n).map (fun i => BitVec.ofNat 8 (v / 256 ^ (n - 1 - i)))

/-- The flow hash (R308). -/
def flowHash (mask mv : Nat) : Nat := (crc32 (bytesOfNat 72 (mv &&& mask))).toNat

/-- The symmetric hash (R311). -/
def symmetricHash (mv : Nat) : Nat :=
  let a := vectorField mv 120 128 * 65536 + vectorField mv 376 16
  let b := vectorField mv 248 128 * 65536 + vectorField mv 392 16
  (crc32 (bytesOfNat 1 (vectorField mv 112 8) ++ bytesOfNat 18 (min a b) ++ bytesOfNat 18 (max a b))).toNat

/-- The plane of entry `i` of an indirection table (R309). -/
def indirection (t i : Nat) (s : State) : Nat := (tabGet none s.ports.indirection (256 * t + i)).getD (i % 16)

/-- The live binding of a table and hash (R312). -/
def bindingOf (t h : Nat) (s : State) : Option Nat :=
  (List.range 4096).find? (fun i => (chanSlot 0x03 i s).live &&
    (let b := tabGet flowBindingReset s.ports.bindings i; b.table == t && b.hash == h))

/-- The first ACTIVE plane from `p` up, cyclically (R310). -/
def activeFrom (p : Nat) (s : State) : Option Nat :=
  ((List.range 16).map (fun i => (p + i) % 16)).find? (fun q => (planeOf q s).phase == .active)

/-- The plane that a forwarded frame is queued for: its binding or its indirection entry, and the next ACTIVE plane (R309 to R312). -/
def choosePlane (t h : Nat) (s : State) : Option Nat × State :=
  let (p, s) := (match bindingOf t h s with
    | some i =>
      let b := tabGet flowBindingReset s.ports.bindings i
      (b.plane, { s with ports := { s.ports with
        bindings := tabSet flowBindingReset s.ports.bindings i { b with frames := satAdd 64 b.frames 1 } } })
    | none => (indirection t (h % 256) s, s))
  match activeFrom p s with
  | none => (none, countClassify 16 1 s)
  | some q => (some q, if q = p then s else countClassify 15 1 s)

/-! ### The slow path (R314, R315) -/

/-- The bucket filled up to now; a unit is 1/140 byte, which 100 Mbit/s adds in a core cycle. Assumption 52. -/
def slowNow (now : Nat) (b : SlowBucket) : SlowBucket :=
  { b with fill := min (b.burst * 140) (b.fill + b.rate * (now - b.at_)), at_ := now }

/-- Counts a slow-path frame under its reason; reason 0 has no counter (R319, R369). -/
def countReason (base reason : Nat) (s : State) : State := if reason = 0 then s else countClassify (base + reason - 1) 1 s

/-- A frame goes to the slow path: it passes the policer and waits for delivery, or is dropped and counted under its reason
(R315, R319). -/
def slowPath (f : SlowFrame) (s : State) : Bool × State :=
  let b := slowNow s.clock.now s.ports.slow
  let need := f.data.length * 140
  if b.rate = 0 ∨ b.fill < need then
    (false, countReason 7 f.reason { s with ports := { s.ports with slow := b } })
  else
    (true, countReason 0 f.reason { s with ports := { s.ports with
      slow := { b with fill := b.fill - need }, slowQueue := s.ports.slowQueue ++ [f] } })

/-- A slow-path frame of ingress, counted on its port (R319). -/
def slowIngress (f : SlowFrame) (s : State) : Bool × State := slowPath f (countPort f.port 7 1 s)

/-! ### From the parser to the queue -/

/-- A slow-path frame of an in-frame, with a reason and a class. -/
def slowOf (f : InFrame) (reason cls : Nat) (sym watch : Option Nat) (tokens : List Nat) (s : State) : SlowFrame :=
  { reason := reason, untrusted := false, port := f.port, cls := cls, epoch := s.ports.epoch, ts := f.ts, symHash := sym,
    watch := watch, data := f.data, tokens := tokens }

/-- The policer that an action names, when its handle is live (R303). -/
def policerOf (h : Word) (s : State) : Option Nat :=
  match checkHandle .meter h s with
  | .ok i => some i
  | .error _ => none

/-- The forwarding of a frame: policer, lookup, class, plane and admission (R303 to R312, R326). It answers the cells of a stored
frame, and whether the lookup missed. -/
def forward (f : InFrame) (w : Walk) (mv : Nat) (act pol : Word) (s : State) : Option (List Nat) × Bool × State :=
  let data := if bitOf act 13 then remark w (fieldOf act 14 6) f.data else f.data
  let (colour, s) := (match policerOf pol s with
    | some i => police i mv f.data.length s
    | none => (0, s))
  match fibGet (lookupKey (fieldOf act 8 2) w.marks mv) s with
  | none => (none, true, s)
  | some r =>
    let m := r / 1024 % 2 == 1
    let dest := r % 1024
    let d := if m then 30 else dest
    let cls := if r / 2 ^ 22 % 2 = 1 then r / 2 ^ 19 % 8 else fieldOf act 4 3
    let h := flowHash (tabGet 0 (activeRules s).profiles (fieldOf act 10 3)) mv
    match choosePlane d h s with
    | (none, s) => (none, false, s)
    | (some p, s) =>
      let (ts, s) := admitFrame d dest cls p (r / 2 ^ 11 % 256) colour data s
      (ts, false, s)

/-- A frame whose lookup missed takes the miss action (R306). -/
def missAction (f : InFrame) (cls : Nat) (sym watch : Option Nat) (s : State) : State :=
  if (activeRules s).missSlow then (slowIngress (slowOf f 7 cls sym watch [] s) s).2 else countPort f.port 8 1 s

/-- A classified frame takes its verdict (R300, R303, R314). -/
def applyVerdict (f : InFrame) (w : Walk) (mv : Nat) (act pol : Word) (s : State) : State :=
  let watch := if bitOf act 24 then some (fieldOf act 20 4) else none
  let sym := if bitOf act 24 then some (symmetricHash mv) else none
  let cls := fieldOf act 4 3
  match fieldOf act 0 2 with
  | 0 =>
    let (_, miss, s) := forward f w mv act pol s
    if miss then missAction f cls sym watch s else s
  | 1 => countPort f.port 8 1 s
  | 2 => (slowIngress (slowOf f 5 cls sym watch [] s) s).2
  | _ =>
    let (ts, miss, s) := forward f w mv act pol s
    let tokens := ts.getD []
    let s := if miss then missAction f cls sym watch s else s
    let (kept, s) := slowIngress (slowOf f 6 cls sym watch tokens s) s
    if kept then forEach (fun t s => modBuffer t (fun b => { b with count := (b.count + 1) % 256 }) s) tokens s else s

/-- A frame in its parser: the walk, the fragment rule, and the rules (R295, R302, R314). Assumptions 51 and 97. -/
def classify (f : InFrame) (s : State) : State :=
  match walk (graphNodes s.ports.graph s) f.data with
  | .error r => (slowIngress (slowOf f r 0 none none [] s) s).2
  | .ok w =>
    let rs := activeRules s
    let mv := matchVector f.port w
    if w.frag && rs.usesL4 then (slowIngress (slowOf f 4 0 none none [] s) s).2
    else
      let (act, pol) := decide37 rs mv
      applyVerdict f w mv act pol s

/-- PARSE: the pipeline's parser, which takes one frame a cycle, takes the frame at the head of its FIFO; in a cycle that the throttle
level takes away it refuses the frame, which counts as a pipeline overflow (R19, R290, R295, R523). Assumption 50. -/
def execParse (pipeline : Nat) (s : State) : Result :=
  match tabGet [] s.ports.fifos pipeline with
  | [] => .next s
  | f :: fs =>
    let s := popCycle 1 (fs.length + 1) (tabGet none s.ports.fifoNew pipeline) (advanceTo (tabGet 0 s.ports.parserFree pipeline) s)
    let s := { s with ports := { s.ports with
      fifos := tabSet [] s.ports.fifos pipeline fs, parserFree := tabSet 0 s.ports.parserFree pipeline (s.clock.now + 1) } }
    if throttled s then .next (countPort f.port 6 1 s) else .next (classify f s)

/-- The older epoch while it is in flight, which lasts at most 2 µs (R317). -/
def olderEpoch (s : State) : Option (Option Nat × Option Nat) := if s.clock.now < s.ports.drainBy then s.ports.older else none

/-- EPOCH_DRAIN: no frame of the older epoch remains (R317). -/
def execEpochDrain (s : State) : Result := .next { s with ports := { s.ports with older := none } }

end Sys2Proof.Machine
end

