-- ==== Sys2Proof/Machine/Gcm.lean ====
section
/-! DEFINITION. AES-256 in Galois/Counter Mode with 96-bit IVs and 128-bit tags, as R353 to R355 use it. The block cipher itself is
that of FIPS 197, which the spec names and does not restate: Config.aesEncrypt (assumption 73). -/

namespace Sys2Proof.Machine

/-- The 128-bit blocks of a number of `len` bits, its first bits first; the last one filled with zeros. -/
def blocksOf (len v : Nat) : List Nat :=
  let n := (len + 127) / 128
  let v := v <<< (128 * n - len)
  (List.range n).map (fun i => (v >>> (128 * (n - 1 - i))) % 2 ^ 128)

/-- The product of two blocks in the field of NIST SP 800-38D: the first bit of a block is the coefficient of x^0. -/
def ghashMul (x y : Nat) : Nat :=
  ((List.range 128).foldl (fun (zv : Nat × Nat) i =>
    (if x.testBit (127 - i) then zv.1 ^^^ zv.2 else zv.1,
      if zv.2.testBit 0 then (zv.2 >>> 1) ^^^ (0xE1 <<< 120) else zv.2 >>> 1)) (0, y)).1

/-- The hash of blocks under a hash key. -/
def ghash (h : Nat) (blocks : List Nat) : Nat := blocks.foldl (fun y b => ghashMul (y ^^^ b) h) 0

/-- The counter block `i` after J0: the last 32 bits count modulo 2^32 (R354). -/
def counterBlock (j0 i : Nat) : Nat := j0 / 2 ^ 32 * 2 ^ 32 + (j0 + i) % 2 ^ 32

/-- J0 of an IV (R354). -/
def gcmJ0 (iv : Nat) : Nat := iv * 2 ^ 32 + 1

/-- The first `len` bits of the keystream, which starts at inc32(J0), as one number (R354). -/
def gcmKeystream (key : BitVec 256) (iv len : Nat) : Nat :=
  let n := (len + 127) / 128
  (beFold 128 ((List.range n).map (fun i => (Config.aesEncrypt key (BitVec.ofNat 128 (counterBlock (gcmJ0 iv) (i + 1)))).toNat))) >>> (128 * n - len)

/-- The tag over additional data and ciphertext, each given by its length in bits and as a number (R353). -/
def gcmTag (key : BitVec 256) (iv aadLen aad cLen c : Nat) : Nat :=
  let h := (Config.aesEncrypt key 0).toNat
  ghash h (blocksOf aadLen aad ++ blocksOf cLen c ++ [aadLen * 2 ^ 64 + cLen]) ^^^
    (Config.aesEncrypt key (BitVec.ofNat 128 (gcmJ0 iv))).toNat

end Sys2Proof.Machine
end

