-- ==== Sys2Proof/Machine/Galois.lean ====
section
/-! DEFINITION. Arithmetic of the fields GF(2^m) and the decoding of cyclic codes over them: the header code of R69 and the payload
code of R78 share it. -/

namespace Sys2Proof.Machine

/-- A field GF(2^m): its degree, and its primitive polynomial with the leading term. -/
structure Galois where
  m : Nat
  poly : Nat
deriving DecidableEq, Repr

/-- Doubles an element: the product with α. -/
def gfDouble (f : Galois) (a : Nat) : Nat := if (2 * a).testBit f.m then (2 * a) ^^^ f.poly else 2 * a

/-- The product of two elements. -/
def gfMul (f : Galois) (a b : Nat) : Nat :=
  (List.range f.m).foldl (fun r i => let r := gfDouble f r; if b.testBit (f.m - 1 - i) then r ^^^ a else r) 0

/-- The power of an element, with an exponent below 2^m. -/
def gfPow (f : Galois) (a n : Nat) : Nat :=
  (List.range f.m).foldl (fun r i => let r := gfMul f r r; if n.testBit (f.m - 1 - i) then gfMul f r a else r) 1

/-- The inverse of an element that is not 0. -/
def gfInv (f : Galois) (a : Nat) : Nat := gfPow f a (2 ^ f.m - 2)

/-- α to a power. -/
def gfAlpha (f : Galois) (n : Nat) : Nat := gfPow f 2 (n % (2 ^ f.m - 1))

/-- A polynomial at a point; its coefficients stand lowest first. -/
def polyAt (f : Galois) (x : Nat) (p : List Nat) : Nat := p.foldr (fun c r => gfMul f r x ^^^ c) 0

/-- A polynomial and a multiple of another one, added. -/
def polyAdd (f : Galois) (k : Nat) : List Nat → List Nat → List Nat
  | p, [] => p
  | [], q => q.map (gfMul f k)
  | a :: p, b :: q => (a ^^^ gfMul f k b) :: polyAdd f k p q

/-- The first `n` coefficients of the product of two polynomials. -/
def polyMulTo (f : Galois) (n : Nat) (p q : List Nat) : List Nat :=
  (List.range n).map (fun k => (List.range (k + 1)).foldl (fun r i => r ^^^ gfMul f (p.getD i 0) (q.getD (k - i) 0)) 0)

/-- The formal derivative of a polynomial: the odd coefficients, one place down. -/
def polyDeriv (p : List Nat) : List Nat := (List.range (p.length - 1)).map (fun i => if i % 2 = 0 then p.getD (i + 1) 0 else 0)

/-- The search for the shortest recurrence of a sequence of syndromes: the locator so far, the last one before its length changed,
the length, the steps since then, and the discrepancy at that time. -/
structure Locator where
  lam : List Nat
  prev : List Nat
  len : Nat
  gap : Nat
  disc : Nat
deriving DecidableEq, Repr

/-- The discrepancy of a locator at syndrome `n`. -/
def discrepancy (f : Galois) (syn : List Nat) (n : Nat) (l : Locator) : Nat :=
  (List.range (l.len + 1)).foldl (fun r i => r ^^^ gfMul f (l.lam.getD i 0) (syn.getD (n - i) 0)) 0

/-- One step of the search. -/
def locatorStep (f : Galois) (syn : List Nat) (l : Locator) (n : Nat) : Locator :=
  let d := discrepancy f syn n l
  if d = 0 then { l with gap := l.gap + 1 }
  else
    let lam := polyAdd f (gfMul f d (gfInv f l.disc)) l.lam (List.replicate l.gap 0 ++ l.prev)
    if 2 * l.len ≤ n then ⟨lam, l.lam, n + 1 - l.len, 1, d⟩ else { l with lam := lam, gap := l.gap + 1 }

/-- The error locator of a list of syndromes, its constant term 1, and its length. -/
def locator (f : Galois) (syn : List Nat) : Locator :=
  (List.range syn.length).foldl (locatorStep f syn) ⟨[1], [1], 0, 1, 1⟩

/-- The coefficient places below `n` at which a locator finds an error. -/
def errorPlaces (f : Galois) (n : Nat) (lam : List Nat) : List Nat :=
  (List.range n).filter (fun e => polyAt f (gfAlpha f (2 ^ f.m - 1 - e)) lam = 0)

/-- The places of the errors of a word of `n` symbols, at most `t` of them; none when the code cannot correct the word or an error
would lie in a shortened position. -/
def locateErrors (f : Galois) (t n : Nat) (l : Locator) : Option (List Nat) :=
  let es := errorPlaces f n l.lam
  if l.len ≤ t ∧ es.length = l.len then some es else none

end Sys2Proof.Machine
end

