-- ==== Sys2Proof/Machine/HeaderCode.lean ====
section
/-! DEFINITION. The header code of R69: the shortened binary BCH code of burst headers and cue headers. -/

namespace Sys2Proof.Machine

/-- GF(2^12) with x^12 + x^6 + x^4 + x + 1 (R69). -/
def headerField : Galois := ⟨12, 0x1053⟩

/-- The minimal polynomials of α, α^3, α^5 and α^7, by their bits (R69). -/
def headerMinimals : List Nat := [0x1053, 0x145B, 0x104D, 0x146B]

/-- The product of two polynomials over GF(2), by their bits. -/
def carryless (a b : Nat) : Nat := (List.range 64).foldl (fun r i => if b.testBit i then r ^^^ (a <<< i) else r) 0

/-- The generator polynomial g(x), of degree 48 (R69). -/
def headerGenerator : Nat := headerMinimals.foldl carryless 1

/-- The remainder register of the division by g(x), after one more bit of the dividend. -/
def headerDivide (g r : Nat) (b : Bool) : Nat :=
  let r := 2 * r + bitNat b
  if r.testBit 48 then r ^^^ g else r

/-- The remainder of a polynomial of `len` bits, its leading coefficient first, divided by g(x). -/
def headerRemainder (len n : Nat) : Nat := (bitsOfNat len n).foldl (headerDivide headerGenerator) 0

/-- The 320 bits of a header: 272 field bits and 48 parity bits (R69). -/
def headerEncode (fields : Nat) : Nat := fields * 2 ^ 48 + headerRemainder 320 (fields * 2 ^ 48)

/-- What the header decoder answers: the 272 field bits, how many bits it corrected, and whether one lies among header bits 0 to
47. -/
structure HeaderWord where
  fields : Nat
  corr : Nat
  early : Bool
deriving DecidableEq, Repr

/-- The decoder of R69: up to 4 errors are corrected; none when it fails, or when it locates an error in a shortened position. Bit
`b` of the header is the coefficient of x^(319 - b). -/
def headerDecode (word : Nat) : Option HeaderWord :=
  let r := headerRemainder 320 word
  if r = 0 then some ⟨word / 2 ^ 48, 0, false⟩
  else
    let bits := (List.range 48).map (fun i => bitNat (r.testBit i))
    let syn := (List.range 8).map (fun j => polyAt headerField (gfAlpha headerField (j + 1)) bits)
    match locateErrors headerField 4 320 (locator headerField syn) with
    | none => none
    | some es => some ⟨es.foldl (fun w e => w ^^^ 2 ^ e) word / 2 ^ 48, es.length, es.any (fun e => 272 ≤ e)⟩

end Sys2Proof.Machine
end

