-- ==== Sys2Proof/Machine/PayloadCode.lean ====
section
/-! DEFINITION. The payload code of R78: ten RS(544,514) codewords over GF(2^10), and the information area that they carry. -/

namespace Sys2Proof.Machine

/-- GF(2^10) with x^10 + x^3 + 1 (R78). Assumption 108. -/
def payloadField : Galois := ⟨10, 0x409⟩

/-- The generator polynomial of IEEE 802.3 Clause 91, below its leading term, highest first: the product of x - α^i for i = 0 to 29
(PRESUMED: R78 names that clause). Assumption 108. -/
def payloadGenerator : List Nat :=
  [575, 552, 187, 230, 552, 1, 108, 565, 282, 249, 593, 132, 94, 720, 495, 385, 942, 503, 883, 361, 788, 610, 193, 392, 127, 185,
   158, 128, 834, 523]

/-- 10-bit symbols as one number, the first the most significant (R78). -/
def symbolsNat (ss : List Nat) : Nat := ss.foldl (fun a s => a * 2 ^ 10 + s) 0

/-- The `n` symbols of a number of 10·n bits, in the order sent. -/
def natSymbols (n w : Nat) : List Nat := (List.range n).map (fun i => (w >>> (10 * (n - 1 - i))) % 2 ^ 10)

/-- α^j times the generator, as one number of 30 symbols, for j = 0 to 9. -/
def payloadRows : List Nat :=
  (List.range 10).map (fun j => symbolsNat (payloadGenerator.map (gfMul payloadField (2 ^ j))))

/-- The remainder register of the division by the generator, after one more symbol of the dividend: the feedback symbol times the
generator is the sum of the rows of its bits. -/
def payloadDivide (rows : List Nat) (r s : Nat) : Nat :=
  let fb := (r >>> 290) ^^^ s
  (List.range 10).foldl (fun a j => if fb.testBit j then a ^^^ rows.getD j 0 else a) ((r % 2 ^ 290) * 2 ^ 10)

/-- The 30 parity symbols of a message of 514 symbols, as one number: the remainder of the message times x^30. -/
def payloadParity (msg : List Nat) : Nat := msg.foldl (payloadDivide payloadRows) 0

/-- One codeword of 5,440 bits from its 5,140 message bits (R78). -/
def codewordEncode (msg : Nat) : Nat := msg * 2 ^ 300 + payloadParity (natSymbols 514 msg)

/-- The remainder of a received codeword divided by the generator. -/
def codewordRemainder (word : Nat) : Nat :=
  payloadParity (natSymbols 514 (word >>> 300)) ^^^ (word % 2 ^ 300)

/-- The value of the error at a coefficient place: the evaluator over the locator's derivative. -/
def errorValue (syn lam : List Nat) (e : Nat) : Nat :=
  let x := gfAlpha payloadField (1023 - e)
  let omega := polyMulTo payloadField 30 syn lam
  gfMul payloadField (gfAlpha payloadField e)
    (gfMul payloadField (polyAt payloadField x omega) (gfInv payloadField (polyAt payloadField x (polyDeriv lam))))

/-- A received codeword of 5,440 bits: its message bits and the number of symbols corrected, at most 15; none when it cannot be
corrected (R78). -/
def codewordDecode (word : Nat) : Option (Nat × Nat) :=
  let r := codewordRemainder word
  if r = 0 then some (word >>> 300, 0)
  else
    let rem := (natSymbols 30 r).reverse
    let syn := (List.range 30).map (fun j => polyAt payloadField (gfAlpha payloadField j) rem)
    let l := locator payloadField syn
    match locateErrors payloadField 15 544 l with
    | none => none
    | some es => some (es.foldl (fun w e => w ^^^ (errorValue syn l.lam e) <<< (10 * e)) word >>> 300, es.length)

/-- The 54,400 payload bits of an information area of 6,425 bytes, given as one number, byte 0 first (R78). -/
def payloadEncode (info : Nat) : Nat :=
  (List.range 10).foldl (fun a i => a * 2 ^ 5440 + codewordEncode ((info >>> (5140 * (9 - i))) % 2 ^ 5140)) 0

/-- The ten codewords of a received payload of 54,400 bits, decoded one by one. -/
def payloadWords (bits : Nat) : List (Option (Nat × Nat)) :=
  (List.range 10).map (fun i => codewordDecode ((bits >>> (5440 * (9 - i))) % 2 ^ 5440))

/-- The information area of decoded codewords, as one number; a codeword that failed leaves its 5,140 bits 0. -/
def payloadInfo (ws : List (Option (Nat × Nat))) : Nat := ws.foldl (fun a w => a * 2 ^ 5140 + (w.elim 0 (fun x => x.1))) 0

end Sys2Proof.Machine
end

