-- ==== Sys2Proof/Machine/Scramble.lean ====
section
/-! DEFINITION. The additive scrambler of R77 and R89. -/

namespace Sys2Proof.Machine

/-- The next 28 bits of the scrambler sequence, the first the most significant, and the state after them: each bit is state bit 30
xor state bit 27, and enters the state from below (R77). -/
def scramble28 (st : Nat) : Nat × Nat :=
  let bits := ((st >>> 3) ^^^ st) % 2 ^ 28
  (bits, (st * 2 ^ 28 + bits) % 2 ^ 31)

/-- The first 28·n bits of the sequence from a state, appended to those before. -/
def scrambleRun : Nat → Nat → Nat → Nat
  | 0, _, acc => acc
  | n + 1, st, acc => scrambleRun n (scramble28 st).2 (acc * 2 ^ 28 + (scramble28 st).1)

/-- The first `len` bits of the scrambler sequence from a seed, as one number, the first bit the most significant (R77). -/
def scrambler (len seed : Nat) : Nat :=
  let n := (len + 27) / 28
  scrambleRun n seed 0 >>> (28 * n - len)

/-- The seed of a burst in slot (SFN, s) on wavelength w (R77). -/
def burstSeed (sfn slot wave : Nat) : Nat := (sfn % 2 ^ 12) * 2 ^ 19 + (slot % 2 ^ 7) * 2 ^ 12 + (wave % 2 ^ 6) * 2 ^ 6 + 0b100101

/-- The seed of a cue frame on wavelength w (R89). -/
def cueSeed (wave : Nat) : Nat := (wave % 2 ^ 6) * 2 ^ 6 + 0b100101

end Sys2Proof.Machine
end

