-- ==== Sys2Proof/Machine/BurstBits.lean ====
section
/-! DEFINITION. The line bits of a burst: how the terminal builds a slot of 57,344 line bits, and how a receive lane reads one (R65 to
R80, R117, R168 to R172, R353 to R355). -/

namespace Sys2Proof.Machine

/-! ### Parts that every burst shares (R65 to R68) -/

/-- The preamble of 1,792 bits: the byte 0xF0 and then 0b10, repeated (R67). -/
def preamble : Nat := beFold 8 (List.replicate 112 0xF0) * 2 ^ 896 + beFold 2 (List.replicate 448 0b10)

/-- The delimiter (R68). -/
def delimiter : Nat := 0x3A5CE19672B40DF8

/-- The scrambler's bits over the header and the payload of a burst (R77). -/
def burstScrambler (slot wave : Nat) : Nat := scrambler 54720 (burstSeed (slot / 128) (slot % 128) wave)

/-- The line bits of a slot, offset 0 the most significant: a guard without light, preamble, delimiter, and the scrambled header and
payload (R65). -/
def slotLine (slot wave fields payload : Nat) : Nat :=
  (preamble * 2 ^ 64 + delimiter) * 2 ^ 54720 + ((headerEncode fields * 2 ^ 54400 + payload) ^^^ burstScrambler slot wave)

/-! ### Headers (R70 to R73) -/

/-- The type-specific fields of a header by offset and width (R72, R73). -/
def typeFields : Payload → List (Nat × Nat × Nat)
  | .idle => []
  | .packet ci co rp fill _ => [(128, 1, bitNat ci), (129, 1, bitNat co), (130, 1, bitNat rp), (131, 13, fill)]
  | .report bytes => [(131, 13, bytes.length)]
  | .express group member ptv prevTag _ _ => [(128, 10, group), (138, 5, member), (143, 1, bitNat ptv), (144, 128, prevTag)]
  | .ranging _ _ _ _ _ _ _ _ _ _ _ _ => []

/-- The 272 field bits of the header of a burst; reserved bits are 0 (R11, R70). -/
def burstHeader (b : Burst) : Nat :=
  packBits 272 ([(0, 4, 1), (4, 4, b.type), (8, 1, bitNat b.noTn), (9, 5, b.tn), (15, 9, b.x), (24, 1, bitNat b.mcast), (30, 10, b.dest),
    (40, 2, b.keyEpoch), (48, 48, b.seq), (96, 16, b.slot / 128), (112, 7, b.slot % 128)] ++ typeFields b.payload)

/-! ### Information areas (R79, R117, R171, R172) -/

/-- Bits of the unit area of 6,409 bytes, of a report unit, and of the area that an EXPRESS burst encrypts. -/
def unitBits : Nat := 51272
def reportBits : Nat := 4864
def clientBits : Nat := 54336

/-- A payload unit: its length in bytes and its bits; a report unit is all data (R171). -/
def unitImage (u : PayloadUnit) : Nat × Nat :=
  if u.ukind = 5 then (608, beNat u.data)
  else
    (8 + u.data.length,
      packBits 64 [(0, 4, u.ukind), (4, 3, u.cls), (8, 14, u.data.length), (22, 14, u.frameLen), (36, 8, u.port)] * 2 ^ (8 * u.data.length) +
        beNat u.data)

/-- The unit area with units placed from a byte on; every unit starts at a multiple of 8 bytes, and what lies between them is 0 (R79,
R172). -/
def placeUnits : Nat → List PayloadUnit → Nat
  | _, [] => 0
  | off, u :: us =>
    let (n, v) := unitImage u
    (v <<< (unitBits - 8 * (off + n))) + placeUnits ((off + n + 7) / 8 * 8) us

/-- The byte of the unit area at which the report unit among units starts (R172). -/
def reportByte : Nat → List PayloadUnit → Option Nat
  | _, [] => none
  | off, u :: us => if u.ukind = 5 then some off else reportByte ((off + (unitImage u).1 + 7) / 8 * 8) us

/-- The information area of a RANGING answer, its CRC-32 over bytes 0 to 6,420 (R117, R577). -/
def rangingInfo (kind round delay segIndex segTotal serial idLen stepping tn sfn slot : Nat) (data : List Byte) : Nat :=
  let body := packBits 51368 [(0, 4, kind), (8, 8, round), (16, 8, delay), (24, 4, segIndex), (28, 4, segTotal), (32, 128, serial),
    (160, 16, idLen), (176, 16, stepping), (192, 5, tn), (208, 48, sfn), (256, 7, slot)] + (beNat data <<< (51368 - 512 - 8 * data.length))
  body * 2 ^ 32 + (crc32 (bytesBE 6421 body)).toNat

/-! ### The cipher of a burst (R353 to R355) -/

/-- The key-holder field of a burst: a group, a hub, or a TN (R351). -/
def keyHolder (mcast : Bool) (dest : Nat) : Nat := if mcast then 2 ^ 14 + dest else if 30 ≤ dest then 2 ^ 15 + dest else dest

/-- The IV of 96 bits: sender, key holder, and the burst sequence (R355). -/
def burstIv (tn x holder seq : Nat) : Nat := (tn % 32 * 512 + x % 512) * 2 ^ 80 + holder % 2 ^ 16 * 2 ^ 64 + seq % 2 ^ 64

/-- Bits of an area with a stretch of `len` bits at bit offset `off` taken out, and put back (R353). -/
def cutBits (total off len n : Nat) : Nat := (n >>> (total - off)) * 2 ^ (total - off - len) + n % 2 ^ (total - off - len)
def insertBits (total off len stretch n : Nat) : Nat :=
  ((n >>> (total - off - len)) * 2 ^ len + stretch) * 2 ^ (total - off - len) + n % 2 ^ (total - off - len)

/-- What GCM does to a unit area under a key: the area with P encrypted or decrypted, the report unit at `report` in clear (R353, R354).
Assumption 112. -/
def cipherArea (key : BitVec 256) (iv : Nat) (report : Option Nat) (area : Nat) : Nat :=
  match report with
  | none => area ^^^ gcmKeystream key iv unitBits
  | some a =>
    let n := unitBits - reportBits
    insertBits unitBits (8 * a) reportBits (fieldAt unitBits area (8 * a) reportBits)
      (cutBits unitBits (8 * a) reportBits area ^^^ gcmKeystream key iv n)

/-- The tag of a unit area in cipher: header bytes 0 to 17 and the report unit are authenticated in clear (R353). Assumption 112. -/
def areaTag (key : BitVec 256) (iv fields : Nat) (report : Option Nat) (area : Nat) : Nat :=
  let aad := fields >>> 128
  match report with
  | none => gcmTag key iv 144 aad unitBits area
  | some a =>
    gcmTag key iv (144 + reportBits) (aad * 2 ^ reportBits + fieldAt unitBits area (8 * a) reportBits) (unitBits - reportBits)
      (cutBits unitBits (8 * a) reportBits area)

/-- The tag of a container: header bytes 0 to 17 and the overhead are authenticated in clear (R353). -/
def containerTag (key : BitVec 256) (iv fields overhead client : Nat) : Nat :=
  gcmTag key iv 208 ((fields >>> 128) * 2 ^ 64 + overhead) clientBits client

/-- The client area of 1,698 words, those not listed 0 (R80). -/
def clientArea (words : Tab Word) : Nat := beFold 32 ((List.range 1698).map (fun i => (tabGet 0 words i).toNat))

/-- The words of a client area. -/
def clientWords (n : Nat) : Tab Word :=
  (List.range 1698).filterMap (fun i => let w := BitVec.ofNat 32 (n >>> (32 * (1697 - i))); if w = 0 then none else some (i, w))

/-! ### Sending (R168) -/

/-- The plaintext unit area of a payload (R79). -/
def plainArea : Payload → Nat
  | .idle => 0
  | .packet _ _ _ _ units => placeUnits 0 units
  | .report bytes => beNat bytes <<< (unitBits - 8 * bytes.length)
  | .express _ _ _ _ _ _ => 0
  | .ranging _ _ _ _ _ _ _ _ _ _ _ _ => 0

/-- Where the report unit of a payload stands that travels in clear. -/
def clearReport : Payload → Option Nat
  | .idle => none
  | .packet _ _ rp _ units => if rp then reportByte 0 units else none
  | .report _ => none
  | .express _ _ _ _ _ _ => none
  | .ranging _ _ _ _ _ _ _ _ _ _ _ _ => none

/-- The 54,400 payload bits of a burst before scrambling, and its GCM tag; `key` and `holder` are those of its key, and an IDLE or a RANGING
burst has none (R80, R168 to R170, R353). -/
def burstPayload (key : BitVec 256) (holder : Nat) (b : Burst) : Nat × Nat :=
  let iv := burstIv b.tn b.x holder b.seq
  match b.payload with
  | .idle => (payloadEncode 0, 0)
  | .express _ _ _ _ overhead words =>
    let c := clientArea words ^^^ gcmKeystream key iv clientBits
    (overhead * 2 ^ clientBits + c, containerTag key iv (burstHeader b) overhead c)
  | .ranging kind round delay si st serial idLen stepping tn sfn slot data =>
    (payloadEncode (rangingInfo kind round delay si st serial idLen stepping tn sfn slot data), 0)
  | p =>
    let report := clearReport p
    let c := cipherArea key iv report (plainArea p)
    let tag := areaTag key iv (burstHeader b) report c
    (payloadEncode (c * 2 ^ 128 + tag), tag)

/-- The 57,344 line bits of a burst, in the order of R168. -/
def burstLine (key : BitVec 256) (holder : Nat) (b : Burst) : Nat :=
  slotLine b.slot b.wave (burstHeader b) (burstPayload key holder b).1

/-- The container tag of an EXPRESS burst, which its member's next one carries (R73, R353). -/
def burstTag (key : BitVec 256) (holder : Nat) (b : Burst) : Nat := (burstPayload key holder b).2

/-! ### Receiving (R68, R69, R197, R199) -/

/-- Number of bits set among the low `n` bits. -/
def countOnes (n v : Nat) : Nat := (List.range n).foldl (fun c i => c + bitNat (v.testBit i)) 0

/-- Bits in which a 64-bit window of `total` line bits at an offset differs from a word. -/
def windowErrors (total word line off : Nat) : Nat := countOnes 64 (fieldAt total line off 64 ^^^ word)

/-- The bits of the delimiter search: from offset 2,512 to where a burst ends that is 48 bits late. -/
def searchBits : Nat := 54880

/-- The window that the delimiter search accepts, as an offset from 2,512: of the 97 windows with at most 6 differing bits the one with the
fewest, and among equals the earliest (R68). -/
def findDelimiter (line : Nat) : Option Nat :=
  ((List.range 97).foldl (fun (best : Option (Nat × Nat)) i =>
    let e := windowErrors searchBits delimiter line i
    if 6 < e then best
    else match best with
      | none => some (i, e)
      | some b => if e < b.2 then some (i, e) else best) none).map (fun b => b.1)

/-- A burst as a lane reads it: no light, no delimiter, or the header and payload from the first bit after the accepted window,
descrambled with the slot's seed, and the header decoded (R68, R69, R77, R197, R199). Assumptions 47 and 69. -/
def readBurst (threshold : Int) (slot : Nat) (l : RxLight) : RxBurst :=
  let dark := decide (l.level < threshold)
  let found := if dark then none else findDelimiter l.line.toNat
  let off := found.getD 48
  let word := fieldAt searchBits l.line.toNat (off + 64) 54720 ^^^ burstScrambler slot (l.lane % 64)
  let head := headerDecode (word >>> 54400)
  let h := head.getD ⟨0, 0, false⟩
  { lane := l.lane, dark := dark, delimiter := found.isSome, decodeOk := head.isSome, header := h.fields, corr := h.corr, early := h.early,
    bits := word % 2 ^ 54400, wlErr := l.wlErr, arrival := 16 * ((off : Int) - 48) + l.phase, depth := l.depth }

/-- Where the report unit of a received unit area stands: with RP = 1 after the tail that CI announces, whose length its decrypted first
bytes give, else at byte 0 (R72, R172, R354). Assumption 112. -/
def receivedReport (key : BitVec 256) (iv fields area : Nat) : Option Nat :=
  if fieldAt 272 fields 130 1 = 0 then none
  else if fieldAt 272 fields 128 1 = 0 then some 0
  else
    let seg := fieldAt 64 (fieldAt unitBits area 0 64 ^^^ gcmKeystream key iv 64) 8 14
    let a := (8 + seg + 7) / 8 * 8
    if a + 608 ≤ 6409 then some a else none

/-- The units of a decrypted area from a byte on: those that end no later than `fill`, read one after another; a unit that would pass fill
or whose kind is reserved ends the list and stands in it as it begins (R171, R213). -/
def readUnits (fill area : Nat) : Nat → Nat → List PayloadUnit
  | 0, _ => []
  | n + 1, off =>
    if fill ≤ off then []
    else
      let f (o w : Nat) : Nat := fieldAt (unitBits + 64) (area * 2 ^ 64) (8 * off + o) w
      let kind := f 0 4
      let seg := if kind = 5 then 608 else f 8 14
      let body := if kind = 5 then off else off + 8
      let data := bytesBE (min seg (6409 - body)) (fieldAt unitBits area (8 * body) (8 * min seg (6409 - body)))
      let u : PayloadUnit := ⟨kind, f 4 3, f 22 14, f 36 8, data⟩
      if (kind = 1 ∨ kind = 2 ∨ kind = 3 ∨ kind = 5) ∧ seg ≠ 0 ∧ body + seg ≤ fill then
        u :: readUnits fill area n ((body + seg + 7) / 8 * 8)
      else [u]

end Sys2Proof.Machine
end

