-- ==== Sys2Proof/Machine/GrantOps.lean ====
section
/-! DEFINITION. Cue sheet entries, standing cue sheets and the effective grant (R142 to R156). -/

namespace Sys2Proof.Machine

/-- The grant engine of a plane. -/
def grantsOf (p : Nat) (s : State) : PlaneGrants := s.grants.planes.getD p planeGrantsReset

/-- Rewrites the grant engine of a plane. -/
def modGrants (p : Nat) (g : PlaneGrants → PlaneGrants) (s : State) : State :=
  { s with grants := { s.grants with planes := s.grants.planes.modify p g } }

/-- Counts on the grant counters of a plane (R165). -/
def countGrant (p i n : Nat) (s : State) : State := modGrants p (fun g => { g with counters := bump i n g.counters }) s

/-- The grant-integrity event of a plane (R145). -/
def integrityEvent (p : Nat) (s : State) : State := raise 0x0301 (srcPlane p 4) .minor 0 0 s

/-- A grant-integrity error of a plane: counted in index 2, and told (R145, R165). -/
def integrityError (p : Nat) (s : State) : State := integrityEvent p (countGrant p 2 1 s)

/-- The fields of a grant entry as they stand (R142). -/
def rawEntry (n : Nat) : Grant :=
  { kind := fieldAt 32 n 0 3, standing := fieldAt 32 n 3 1 == 1, tn := fieldAt 32 n 4 5, k := fieldAt 32 n 9 5,
    mcast := fieldAt 32 n 14 1 == 1, dest := fieldAt 32 n 15 10, member := fieldAt 32 n 25 5, origin := 1, e := 0 }

/-- The sender, the destination, M and the member of a grant of this kind are allowed (R142). -/
def grantFieldsOk (g : Grant) : Bool :=
  !((g.kind == 1 || g.kind == 2 || g.kind == 3) && 29 < g.tn) && !(g.mcast && g.kind != 1) &&
    !((g.kind == 1 || g.kind == 3 || g.kind == 4) && !g.mcast && 31 < g.dest) &&
    !((g.kind == 3 || g.kind == 4) && g.dest < 30) && g.member ≤ 16

/-- A grant entry passes its checks: R142, and R143 for express entries. -/
def entryOk (g : Grant) : Bool :=
  g.kind ≤ 4 && grantFieldsOk g && !(g.kind == 4 && 2 < g.k) && !(g.kind == 2 && !g.standing)

/-- The entry that stands: NONE for one of kind NONE or one that fails a check (R142, R143). -/
def checkedEntry (g : Grant) : Grant := if g.kind = 0 ∨ !entryOk g then grantNone else g

/-- A grant entry as a number (R142, R166); NONE is 0. -/
def entryWord (g : Grant) : Word :=
  if g.kind = 0 then 0
  else
    pack [(29, g.kind), (28, bitNat g.standing), (23, g.tn), (18, g.k), (17, bitNat g.mcast), (7, g.dest), (2, g.member)]

/-! ### Standing cue sheets -/

/-- A superframe number rebuilt from its low 16 bits around C (R147). -/
def rebuildSfn (c low : Nat) : Nat := ((c : Int) + ((low : Int) - c + 32768) % 65536 - 32768).toNat

/-- The sheet of a record of 128 bits carried by a frame of superframe `c` and committed at slot `now` (R146, R147). It is late when the
freeze point of slot 0 of its take-over SFN has passed (R165; assumption 79). -/
def recordSheet (c now n : Nat) : Sheet :=
  let takeover := rebuildSfn c (fieldAt 128 n 64 16)
  { kind := fieldAt 128 n 16 3, wave := fieldAt 128 n 19 6, tn := fieldAt 128 n 25 5, k := fieldAt 128 n 30 5,
    mcast := fieldAt 128 n 35 1 == 1, dest := fieldAt 128 n 36 10, member := fieldAt 128 n 46 5, e := fieldAt 128 n 51 3,
    phase := fieldAt 128 n 54 7, takeover := takeover, expiry := rebuildSfn c (fieldAt 128 n 80 16), committed := now,
    late := decide (128 * takeover < now + 128) }

/-- What a sheet grants. -/
def sheetGrant (h : Sheet) : Grant := ⟨h.kind, true, h.tn, h.k, h.mcast, h.dest, h.member, 2, h.e⟩

/-- A record passes the checks of R146 and the first three cases of R147. -/
def recordOk (c : Nat) (h : Sheet) : Bool :=
  1 ≤ h.kind && h.kind ≤ 3 && 2 ≤ h.wave && h.tn ≤ 29 && grantFieldsOk (sheetGrant h) && h.phase < 2 ^ h.e &&
    h.takeover < h.expiry && c < h.expiry && h.expiry ≤ c + 8

/-- A sheet that is held and has not lapsed in superframe `sfn` (R148, R150). -/
def heldSheet (sfn id : Nat) (g : PlaneGrants) : Option Sheet :=
  match tabGet none g.sheets id with
  | none => none
  | some h => if sfn < h.expiry then some h else none

/-- Equal in every field but expiry (R147). -/
def sameSheet (a b : Sheet) : Bool :=
  a.kind == b.kind && a.wave == b.wave && a.tn == b.tn && a.k == b.k && a.mcast == b.mcast && a.dest == b.dest &&
    a.member == b.member && a.e == b.e && a.phase == b.phase && a.takeover == b.takeover

/-- Two sheets grant a slot in common in some superframe in which both are in force (R149). -/
def sheetsMeet (a b : Sheet) : Bool :=
  a.phase % 2 ^ min a.e b.e == b.phase % 2 ^ min a.e b.e && max a.takeover b.takeover < min a.expiry b.expiry

/-- A new sheet clashes with a held one: on its wavelength, or on the terminal's own transmitter (R149). -/
def sheetClash (own : Option Nat) (a b : Sheet) : Bool :=
  sheetsMeet a b && (a.wave == b.wave || (own == some a.tn && own == some b.tn && a.k == b.k))

/-- A standing record is discarded: index 4, and the event (R145). -/
def discardRecord (p : Nat) (s : State) : State := integrityEvent p (countGrant p 4 1 s)

/-- Takes one standing record of a frame of superframe `c` (R146 to R149). -/
def takeRecord (p c n : Nat) (s : State) : State :=
  let h := recordSheet c s.clock.slot n
  let id := fieldAt 128 n 8 8
  let sfn := sfnOf s.clock.slot
  let g := grantsOf p s
  if fieldAt 128 n 0 2 ≠ 1 ∨ !recordOk c h then discardRecord p s
  else
    match heldSheet sfn id g with
    | some o =>
      if sameSheet o h then
        modGrants p (fun g => { g with sheets := tabSet none g.sheets id (some { o with expiry := max o.expiry h.expiry }) }) s
      else discardRecord p s
    | none =>
      if (List.range 256).any (fun i => match heldSheet sfn i g with | some o => sheetClash s.join.tn h o | none => false) then
        discardRecord p s
      else
        countGrant p 5 (bitNat h.late) (modGrants p (fun g => { g with sheets := tabSet none g.sheets id (some h) }) s)

/-- Takes the standing records of a frame in order, up to the end of the list (R146). -/
def takeRecords (p c : Nat) : List Nat → State → State
  | [], s => s
  | n :: ns, s => if fieldAt 128 n 0 2 = 0 then s else takeRecords p c ns (takeRecord p c n s)

/-- The interval of R162 now (R167). -/
def piggyNow (s : State) : Nat := if s.grants.piggyAt ≤ s.clock.slot then s.grants.piggyNext else s.grants.piggy

/-! ### The effective grant -/

/-- A sheet grants a slot (R151); its commit is no later than the freeze point when it is held at the freeze. -/
def sheetCovers (slot : Nat) (h : Sheet) : Bool :=
  h.takeover ≤ sfnOf slot && sfnOf slot < h.expiry && slotNoOf slot % 2 ^ h.e == h.phase

/-- The sheet that governs a wavelength in a slot. -/
def governingSheet (slot w : Nat) (g : PlaneGrants) : Option Sheet :=
  (g.sheets.filterMap (fun e => e.2)).find? (fun h => h.wave == w && sheetCovers slot h)

/-- The effective grant of a wavelength in a slot (R151). -/
def effectiveGrant (slot w : Nat) (g : PlaneGrants) : Grant :=
  match governingSheet slot w g with
  | some h => sheetGrant h
  | none =>
    let f := tabGet committedReset g.frames slot
    if f.absent then grantAbsent else tabGet grantNone f.entries w

/-- A committed entry that a governing sheet overrides with S = 0 or with a difference (R151). It is counted once, when the slot is frozen
(assumption 79). Assumption 45. -/
def entryAgainstSheet (slot w : Nat) (g : PlaneGrants) : Bool :=
  match governingSheet slot w g with
  | none => false
  | some h =>
    let f := tabGet committedReset g.frames slot
    !f.absent && tabGet grantNone f.entries w != { sheetGrant h with origin := 1, e := 0 }

/-- The 62 effective grants of a slot, λ2 first. -/
def effectiveGrants (slot : Nat) (g : PlaneGrants) : List Grant := (List.range 62).map (fun j => effectiveGrant slot (j + 2) g)

/-- The frozen grants of a plane in a slot, λ2 first (R153). -/
def frozenGrants (p slot : Nat) (s : State) : List Grant := tabGet [] (grantsOf p s).frozen slot

/-- The frozen grant of a wavelength. -/
def frozenGrant (p slot w : Nat) (s : State) : Grant := (frozenGrants p slot s).getD (w - 2) grantAbsent

/-! ### Commit and mirror -/

/-- Fixes what a frame gave for its target slot, and forgets slots that have passed; the frame counts at `i`: 0 for entries committed, 1 for
entries absent (R152, R165). Assumptions 45 and 79. -/
def commitEntries (p target i : Nat) (f : CommittedFrame) (s : State) : State :=
  modGrants p (fun g => { g with
    frames := tabSet committedReset (tabKeep (fun k => s.clock.slot ≤ k) g.frames) target f, lastTarget := some target })
    (countGrant p i 1 s)

/-- The plane has no entries for its target slot (R152). -/
def commitAbsent (p target : Nat) (s : State) : State := commitEntries p target 1 committedReset s

/-- The entries of a cue sheet by wavelength, those that fail a check as NONE; and the number that fail (R142, R143). -/
def sheetEntries (es : List Nat) : Tab Grant × Nat :=
  let gs := es.map rawEntry
  (tabSetList grantNone [] 2 (gs.map checkedEntry), (gs.filter (fun g => !entryOk g)).length)

/-- Applies an operation `n` times. -/
def repeatOn (g : State → State) : Nat → State → State
  | 0, s => s
  | n + 1, s => repeatOn g n (g s)

/-- The number of entries in which two cue sheets differ, their reserved bits 30 and 31 ignored (R142, R156). -/
def mirrorDiff (a b : List Nat) : Nat := ((List.range 62).filter (fun j => a.getD j 0 / 4 != b.getD j 0 / 4)).length

/-- Compares the mirror with the owner's entries: each difference is counted, and the event is raised once a superframe
(R156). -/
def compareMirror (p sfn : Nat) (owner mirror : List Nat) (s : State) : State :=
  let n := mirrorDiff owner mirror
  if n = 0 then s
  else
    let s := countGrant p 3 n s
    if (grantsOf p s).mirrorSfn = some sfn then s
    else integrityEvent p (modGrants p (fun g => { g with mirrorSfn := some sfn }) s)

end Sys2Proof.Machine
end

