-- ==== Sys2Proof/Machine/Reassembly.lean ====
section
/-! DEFINITION. Receive lanes, their counters, and the reassembly contexts (R212, R222). -/

namespace Sys2Proof.Machine

/-- Rewrites the receive part. -/
def modRx (g : Rx → Rx) (s : State) : State := { s with rx := g s.rx }

/-- A lane, a lane rewritten, and a count on it (R222). -/
def rxLane (r : Nat) (s : State) : RxLane := tabGet rxLaneReset s.rx.lanes r
def modRxLane (r : Nat) (g : RxLane → RxLane) (s : State) : State := modRx (fun x => { x with lanes := tabMod rxLaneReset x.lanes r g }) s
def countRx (r i n : Nat) (s : State) : State := modRxLane r (fun l => { l with counters := bump i n l.counters }) s

/-- A context closes without its tail: the head's cells go back, and the discard counts on the head's lane (R212, R222, R333). -/
def closeContext (k : Nat) (s : State) : State :=
  match tabGet none s.rx.contexts k with
  | none => s
  | some c => countRx c.lane 10 1 (freeAll 0x003 c.tokens (modRx (fun x => { x with contexts := tabSet none x.contexts k none }) s))

/-- The contexts of a sender whose TN is forgotten close (R212). Assumption 86. -/
def closeSender (tn : Option Nat) (s : State) : State :=
  match tn with
  | none => s
  | some tn => forEach closeContext ((s.rx.contexts.filter (fun e => e.1 / 512 == tn)).map (fun e => e.1)) s

end Sys2Proof.Machine
end

