-- ==== Sys2Proof/Machine/Strongroom.lean ====
section
/-! DEFINITION. The Strongroom's cryptography: draws from the DRBG, key records with their hybrid signature, the key derivation of R374,
and the unwrapping of group keys by the masked engine (R372 to R374, R376 to R379). -/

namespace Sys2Proof.Machine

/-- The DRBG reseeds: its requests count anew (R379). -/
def reseed (s : State) : State := { s with sec := { s.sec with drbgRequests := 0, reseedAt := s.clock.now } }

/-- A draw of `n` words from the DRBG, which reseeds after 2^16 requests; what it delivers is free (R379). Assumption 12. -/
def drbgDraw (n : Nat) (s : State) : Nat × State :=
  let s := if 65536 ≤ s.sec.drbgRequests then reseed s else s
  let (v, s) := takeFreeBits n s
  (v, { s with sec := { s.sec with drbgRequests := s.sec.drbgRequests + 1 } })

/-- The secrets of an offer: an ECDH key, an ML-KEM seed and a nonce (R372). Assumption 12. -/
def drawSecret (s : State) : OfferSecret × State :=
  let (a, s) := drbgDraw 12 s
  let (b, s) := drbgDraw 16 s
  let (c, s) := drbgDraw 8 s
  (⟨BitVec.ofNat 384 a, BitVec.ofNat 512 b, BitVec.ofNat 256 c⟩, s)

/-! ### Records (R372, R373) -/

/-- Byte `i` of the device certificate, 0 past its end. -/
def certByte (s : State) (i : Nat) : Byte := if i < s.certLen then Config.certificate i else 0

/-- The device certificate. -/
def certificateBytes (s : State) : List Byte := (List.range s.certLen).map (certByte s)

/-- The certificate field of a record: its length, and the certificate (R372). -/
def certificateField (s : State) : List Byte := bytesBE 2 s.certLen ++ certificateBytes s

/-- Bytes of the hybrid signature (R372). -/
def signatureLen : Nat := 4723

/-- A record with the hybrid signature over the bytes before it (R372). -/
def signed (bs : List Byte) (s : State) : List Byte × State :=
  let (v, s) := drbgDraw 8 s
  (bs ++ bytesBE signatureLen (Config.deviceSign bs (BitVec.ofNat 256 v)).toNat, s)

/-- The content of an OFFER before its certificate field (R372). -/
def offerFields (kind epoch act : Nat) (o : OfferSecret) (s : State) : List Byte :=
  bytesBE 16 s.serial ++ bytesBE 4 s.join.cfg.stageId.toNat ++ bytesBE 1 kind ++ bytesBE 1 epoch ++ bytesBE 6 act ++
    bytesBE 32 o.nonce.toNat ++ bytesBE 97 (Config.ecdhPublic o.ecdh).toNat ++ bytesBE 1568 (Config.kemPublic o.kem).toNat

/-- The content of an ANSWER to the OFFER `recId` before its certificate field (R372). -/
def answerFields (recId epoch : Nat) (o : OfferSecret) (cipher : BitVec 12544) (s : State) : List Byte :=
  bytesBE 16 s.serial ++ bytesBE 4 s.join.cfg.stageId.toNat ++ bytesBE 2 recId ++ bytesBE 1 epoch ++
    bytesBE 32 o.nonce.toNat ++ bytesBE 97 (Config.ecdhPublic o.ecdh).toNat ++ bytesBE 1568 cipher.toNat

/-- A field of a record by its byte offset and its length in bytes. -/
def recordField (r : KeyRecord) (off len : Nat) : Nat := beNat ((r.bytes.drop off).take len)

/-- The fields that records of all but the last kind share or place for themselves (R372): an ANSWER and a HUB_ANSWER have no key kind and
no activation SFN, and name the OFFER. -/
def recordSerial (r : KeyRecord) : Nat := recordField r 0 16
def offerEpoch (r : KeyRecord) : Nat := recordField r 21 1 % 4
def offerAct (r : KeyRecord) : Nat := recordField r 22 6
def offerNonce (r : KeyRecord) : Nat := recordField r 28 32
def offerEcdh (r : KeyRecord) : BitVec 776 := BitVec.ofNat 776 (recordField r 60 97)
def offerKem (r : KeyRecord) : BitVec 12544 := BitVec.ofNat 12544 (recordField r 157 1568)
def answerRec (r : KeyRecord) : Nat := recordField r 20 2
def answerEpoch (r : KeyRecord) : Nat := recordField r 22 1 % 4
def answerNonce (r : KeyRecord) : Nat := recordField r 23 32
def answerEcdh (r : KeyRecord) : BitVec 776 := BitVec.ofNat 776 (recordField r 55 97)
def answerKem (r : KeyRecord) : BitVec 12544 := BitVec.ofNat 12544 (recordField r 152 1568)
def groupField (r : KeyRecord) : Nat := recordField r 0 2
def groupEpoch (r : KeyRecord) : Nat := recordField r 2 1 % 4
def groupAct (r : KeyRecord) : Nat := recordField r 3 6
def groupAddressee (r : KeyRecord) : Nat := recordField r 9 1
def groupWrapped (r : KeyRecord) : Nat := recordField r 10 40

/-- Where the certificate field of a record lies (R372). -/
def certificateAt (r : KeyRecord) : Nat := if r.kind = 0x0A01 then 1725 else 1720

/-- The certificate that a record carries; HUB_ANSWER and GROUP_KEY verify against the hub certificate (R372). Assumption 10. -/
def recordCertificate (r : KeyRecord) : List Byte :=
  if r.kind = 0x0A01 ∨ r.kind = 0x0A02 then
    (r.bytes.drop (certificateAt r + 2)).take (recordField r (certificateAt r) 2)
  else Config.hubCertificate

/-- Bytes before the signature that a record of its kind has at least (R372; assumption 10). -/
def recordLeast (r : KeyRecord) : Nat :=
  if r.kind = 0x0A01 then 1727 else if r.kind = 0x0A02 then 1722 else if r.kind = 0x0A03 then 1720 else 50

/-- Both signatures of a record verify, and the chain of its certificate (R372). -/
def recordVerifies (r : KeyRecord) : Bool :=
  let n := r.bytes.length - signatureLen
  recordLeast r + signatureLen ≤ r.bytes.length && Config.chainVerifies (recordCertificate r) &&
    Config.signatureVerifies (recordCertificate r) (r.bytes.take n) (BitVec.ofNat 37784 (beNat (r.bytes.drop n)))

/-! ### Key derivation (R374) -/

/-- HMAC with SHA-384 of a key of at most 128 bytes. -/
def hmac384 (key msg : List Byte) : List Byte :=
  let k := key ++ List.replicate (128 - key.length) 0
  bytesBE 48 (Config.sha384 (k.map (fun b => b ^^^ 0x5C) ++
    bytesBE 48 (Config.sha384 (k.map (fun b => b ^^^ 0x36) ++ msg)).toNat)).toNat

/-- The 64-byte output of HKDF with SHA-384 (RFC 5869). -/
def hkdf64 (salt ikm info : List Byte) : List Byte :=
  let prk := hmac384 salt ikm
  let t1 := hmac384 prk (info ++ [1])
  (t1 ++ hmac384 prk (t1 ++ info ++ [2])).take 64

/-- The ASCII string of R374. -/
def lineLabel : List Byte := [0x50, 0x4C, 0x59, 0x4E, 0x41, 0x49, 0x4E, 0x2D, 0x4C, 0x49, 0x4E, 0x45]

/-- The key material of an exchange: from the two shared secrets, the two nonces, and what the OFFER names (R374). -/
def keyMaterial (z : BitVec 384) (k : BitVec 256) (offNonce ansNonce kind epoch act peer : Nat) (s : State) : List Byte :=
  hkdf64 (bytesBE 32 offNonce ++ bytesBE 32 ansNonce) (bytesBE 48 z.toNat ++ bytesBE 32 k.toNat)
    (lineLabel ++ bytesBE 1 kind ++ bytesBE 4 s.join.cfg.stageId.toNat ++ bytesBE 1 epoch ++ bytesBE 6 act ++
      bytesBE 16 (min s.serial peer) ++ bytesBE 16 (max s.serial peer))

/-- The two keys of key material: for a pair, bytes 0 to 31 send from the lower serial to the higher; for the hub, bytes 0 to 31 are the
hub key and bytes 32 to 63 the KEK (R374). -/
def splitKeys (kind peer : Nat) (m : List Byte) (s : State) : BitVec 256 × BitVec 256 :=
  let a := BitVec.ofNat 256 (beNat (m.take 32))
  let b := BitVec.ofNat 256 (beNat (m.drop 32))
  if kind = 1 ∨ s.serial ≤ peer then (a, b) else (b, a)

/-- The keys of the offering side when the answer arrives (R374). -/
def offerKeys (kind epoch act : Nat) (o : OfferSecret) (r : KeyRecord) (s : State) : BitVec 256 × BitVec 256 :=
  splitKeys kind (recordSerial r)
    (keyMaterial (Config.ecdhShared o.ecdh (answerEcdh r)) (Config.kemDecaps o.kem (answerKem r)) o.nonce.toNat (answerNonce r) kind epoch
      act (recordSerial r) s) s

/-- The answering side of an OFFER: its ANSWER, and the keys of the epoch (R372, R374). -/
def answerRecord (r : KeyRecord) (s : State) : List Byte × (BitVec 256 × BitVec 256) × State :=
  let (o, s) := drawSecret s
  let (m, s) := drbgDraw 8 s
  let m := BitVec.ofNat 256 m
  let (bs, s) := signed (answerFields r.recId (offerEpoch r) o (Config.kemCipher (offerKem r) m) s ++ certificateField s) s
  (bs, splitKeys 0 (recordSerial r)
    (keyMaterial (Config.ecdhShared o.ecdh (offerEcdh r)) (Config.kemShared (offerKem r) m) (offerNonce r) o.nonce.toNat 0 (offerEpoch r)
      (offerAct r) (recordSerial r) s) s, s)

/-! ### The masked engine and group keys (R372, R377, R378) -/

/-- One block decrypted by the masked engine: it takes fresh masks from the DRBG, which leave the result as it is (R378). -/
def maskedDecrypt (key : BitVec 256) (block : BitVec 128) (s : State) : BitVec 128 × State :=
  let (m, s) := drbgDraw 8 s
  (Config.aesDecrypt key block, { s with sec := { s.sec with mask := BitVec.ofNat 256 m } })

/-- One step of RFC 3394's unwrapping: the register A, the four registers R as one number, and the machine after the block. Step `t`
counts down from 24 and works on register `(t - 1) mod 4 + 1`. -/
def unwrapStep (kek : BitVec 256) (x : Nat × Nat × State) (t : Nat) : Nat × Nat × State :=
  let (a, r, s) := x
  let sh := 64 * (3 - (t - 1) % 4)
  let ri := (r >>> sh) % 2 ^ 64
  let (b, s) := maskedDecrypt kek (BitVec.ofNat 128 ((a ^^^ t) * 2 ^ 64 + ri)) s
  (b.toNat / 2 ^ 64, r - ri * 2 ^ sh + b.toNat % 2 ^ 64 * 2 ^ sh, s)

/-- A key of 32 bytes unwrapped from 40; none when the integrity value is wrong (R372). -/
def unwrapKey (kek : BitVec 256) (wrapped : Nat) (s : State) : Option (BitVec 256) × State :=
  let (a, r, s) := ((List.range 24).map (fun i => 24 - i)).foldl (unwrapStep kek) (wrapped / 2 ^ 256, wrapped % 2 ^ 256, s)
  (if a = 0xA6A6A6A6A6A6A6A6 then some (BitVec.ofNat 256 r) else none, s)

/-- The KEKs of a list of hub-key epochs tried in order (assumption 74). -/
def unwrapUnder : List KeyEpoch → Nat → State → Option (BitVec 256) × State
  | [], _, s => (none, s)
  | e :: es, w, s =>
    match unwrapKey e.rx w s with
    | (some k, s) => (some k, s)
    | (none, s) => unwrapUnder es w s

/-! ### The identity (R122, R373) -/

/-- The identity blob for a hub nonce and the SFN of the frame that carried the ACK: the certificate, the hub-key offer without it, and the
signature over the offer (R122, R373). Assumption 10. -/
def identityBlob (o : OfferSecret) (sfn : Nat) (s : State) : List Byte × State :=
  let fields := offerFields 1 0 sfn o s
  let (bs, s) := signed (fields ++ certificateField s) s
  (certificateBytes s ++ fields ++ bytesBE 2 s.certLen ++ bs.drop (bs.length - signatureLen), s)

/-- The Strongroom makes the identity that answers a DISCOVERY_ACK: the hub-key offer takes the hub's nonce; while R379 blocks the DRBG it
waits (R122, R373, R379). Assumption 10. -/
def makeIdentity (nonce sfn : Nat) (s : State) : State :=
  let a := s.sec.hubAssoc
  let e : KeyEpoch := { keyEpochReset with act := sfn }
  if s.sec.entropy ≠ .running then
    { s with sec := { s.sec with
        identity := [], hubAssoc := { a with offer := e, secret := { offerSecretReset with nonce := BitVec.ofNat 256 nonce }, waiting := true } } }
  else
    let (o, s) := drawSecret s
    let o := { o with nonce := BitVec.ofNat 256 nonce }
    let (blob, s) := identityBlob o sfn s
    { s with sec := { s.sec with identity := blob, hubAssoc := { a with offer := e, secret := o, waiting := false } } }

end Sys2Proof.Machine
end

