-- ==== Sys2Proof/Machine/SecOps.lean ====
section
/-! DEFINITION. Line security: keys and epochs, the burst sequence, predictions, key agreement, and forgetting keys (R351 to R376). -/

namespace Sys2Proof.Machine

/-! ### Keys -/

/-- Numbers of the self key, the hub key and group key `g`. -/
def selfKey : Nat := 30
def hubKey : Nat := 31
def groupKeyNo (g : Nat) : Nat := 64 + g

/-- A key by number. -/
def lineKey (k : Nat) (s : State) : LineKey := tabGet lineKeyReset s.sec.keys k

/-- Rewrites a key. -/
def modKey (k : Nat) (g : LineKey → LineKey) (s : State) : State :=
  { s with sec := { s.sec with keys := tabMod lineKeyReset s.sec.keys k g } }

/-- Counts on the security counters (R389). -/
def countSec (i n : Nat) (s : State) : State := { s with sec := { s.sec with counters := bump i n s.sec.counters } }

/-- The current SFN. -/
def nowSfn (s : State) : Nat := sfnOf s.clock.slot

/-- An epoch is at its cap in a slot (R365). -/
def atCap (limitLog2 slot : Nat) (e : KeyEpoch) : Bool := decide (128 * e.act + 2 ^ limitLog2 ≤ slot)

/-- The newest epoch whose activation SFN is no later than the slot's (R364). -/
def activeEpoch (slot : Nat) (k : LineKey) : Option KeyEpoch :=
  (k.epochs.filter (fun e => decide (e.act ≤ sfnOf slot))).getLast?

/-- The standby: the newest epoch whose activation SFN is later than the slot's (R352). -/
def standbyEpoch (slot : Nat) (k : LineKey) : Option KeyEpoch :=
  (k.epochs.filter (fun e => decide (sfnOf slot < e.act))).getLast?

/-- The epoch that a sender uses in a slot, of those installed at the slot's freeze point; none when the key is at its cap with no standby,
or holds no epoch in force (R364, R366). -/
def sendEpoch (limitLog2 slot : Nat) (k : LineKey) : Option KeyEpoch :=
  let k := { k with epochs := k.epochs.filter (fun e => e.inst + 128 ≤ slot) }
  match activeEpoch slot k with
  | none => none
  | some e => if atCap limitLog2 slot e then standbyEpoch slot k else some e

/-- The epoch with a number that a receiver holds of a key, and whether there is one (R364, R368). -/
def heldEpoch (k n : Nat) (s : State) : Option KeyEpoch := (lineKey k s).epochs.find? (fun e => e.num == n)
def holdsEpoch (k n : Nat) (s : State) : Bool := (heldEpoch k n s).isSome

/-- Installs an epoch of a key; an older epoch with the same number goes (R352, R389). -/
def installEpoch (k : Nat) (e : KeyEpoch) (s : State) : State :=
  countSec 5 1 (modKey k (fun x => { x with epochs := x.epochs.filter (fun y => y.num != e.num) ++ [{ e with inst := s.clock.slot }] }) s)

/-- The number of the next epoch of a key (R352). -/
def nextEpoch (k : LineKey) : Nat :=
  match k.epochs.getLast? with
  | none => 0
  | some e => (e.num + 1) % 4

/-- An activation SFN at least 64 superframes ahead; how far beyond is Strongroom firmware's own, a free value (R367;
assumption 12). -/
def chooseActivation (s : State) : Nat × State :=
  let (v, s) := takeFree s
  (nowSfn s + 64 + v.toNat, s)

/-- Encrypted sending is disabled by the mark of R361, or by an accepted debug authorisation (R380). -/
def sendingDisabled (s : State) : Bool := s.sec.seq.disabled || s.sec.debugOpen

/-- Erases the keys of the line key store. -/
def eraseKeys (s : State) : State := { s with sec := { s.sec with keys := [] } }

/-- KEY_POLICY as it is for a slot (R391). -/
def policyFor (slot : Nat) (s : State) : KeyPolicy := if s.sec.policyAt ≤ slot then s.sec.policyNext else s.sec.policy

/-! ### The burst sequence -/

/-- The valid record with the higher Q: its value, its writes, and whether copy A holds it (R358). -/
def lastRecord (q : Sequence) : Option (Nat × Nat × Bool) :=
  if q.recA.valid && (!q.recB.valid || q.recB.q ≤ q.recA.q) then some (q.recA.q, q.recA.writes, true)
  else if q.recB.valid then some (q.recB.q, q.recB.writes, false)
  else none

/-- Commits a record into the copy that does not hold the last record (R358, R359). -/
def commitRecord (v : Nat) (q : Sequence) : Sequence :=
  match lastRecord q with
  | some (_, w, true) => { q with recB := ⟨v, w + 1, true⟩ }
  | some (_, w, false) => { q with recA := ⟨v, w + 1, true⟩ }
  | none => { q with recA := ⟨v, 1, true⟩ }

/-- Rewrites the sequence. -/
def modSeq (g : Sequence → Sequence) (s : State) : State := { s with sec := { s.sec with seq := g s.sec.seq } }

/-- SEQ_HALT is raised and held (R357, R359, R361; assumption 13). Assumption 33. -/
def seqHalt (s : State) : State := hold 0x0A05 1927 .critical 0 0 (modSeq (fun q => { q with halted := true }) s)

/-- SEQ_HALT ends. Assumption 13. -/
def seqResume (s : State) : State :=
  if s.sec.seq.halted then clear 0x0A05 1927 0 0 (modSeq (fun q => { q with halted := false }) s) else s

/-- The resume value V of R360; none when neither copy is valid. -/
def resumeValue (q : Sequence) : Option Nat :=
  match q.last with
  | some l => some ((l / 2 ^ 24 + 1) * 2 ^ 24)
  | none => (lastRecord q).map (fun r => r.1 + 2 ^ 24)

/-- SEQUENCE_RESUME: at entry to CUE_ACQ the resume value is committed and D is set at the first aligned slot after the commit;
with no valid copy encrypted sending is disabled for good (R360). Assumption 33. -/
def execSequenceResume (slot : Nat) (s : State) : Result :=
  let s := toSlot slot s
  if (lastRecord s.sec.seq).isNone then .next (seqHalt (modSeq (fun q => { q with disabled := true, offset := none }) s))
  else
    match resumeValue s.sec.seq with
    | none => .next s
    | some v => .next (modSeq (fun q => { q with offset := some ((v : Int) - slot), writing := none }) (modSeq (commitRecord v) s))

/-- SEQ_RECORD_COMMIT: the record write that runs is committed once read back correct; a torn write leaves its copy invalid and
the other in force (R359, R360). -/
def execSeqRecordCommit (readBackOk : Bool) (s : State) : Result :=
  match s.sec.seq.writing with
  | none => .next s
  | some v =>
    if readBackOk then
      .next (modSeq (fun q => { q with writing := none }) (modSeq (commitRecord v) s))
    else
      .next (modSeq (fun q =>
        match lastRecord q with
        | some (_, _, true) => { q with recB := { q.recB with valid := false }, writing := none }
        | _ => { q with recA := { q.recA with valid := false }, writing := none }) s)

/-! ### Predictions (R362, R363) -/

/-- The predicted offset of a sender in force for a slot. -/
def predictedOffset (slot : Nat) (p : Prediction) : Option Int :=
  p.next.foldl (fun d n => if n.1 ≤ slot then some n.2 else d) p.offset

/-- The predicted epoch of a sender's key in a slot (R363). -/
def predictedEpoch (key slot : Nat) (p : Prediction) (s : State) : Option Nat :=
  let base := (activeEpoch slot (lineKey key s)).map (fun e => e.num)
  p.epochs.foldl (fun e g => if g.key == key && g.from_ ≤ slot && g.base == base then some g.epoch else e) base

/-- The full sequence value of a header's low 48 bits (R362). -/
def reconstruct (slot : Nat) (d : Option Int) (seqLow : Nat) : Int :=
  let p : Int := slot + d.getD 0
  let v : Int := p / 2 ^ 48 * 2 ^ 48 + seqLow
  if v < p - 2 ^ 47 then v + 2 ^ 48 else if p + 2 ^ 47 < v then v - 2 ^ 48 else v

/-- The sequence offset after a header of a slot: a change applies to slots that begin two or more slots later (R363). -/
def feedOffset (slot seqLow : Nat) (p : Prediction) : Prediction :=
  let d := predictedOffset slot p
  let v := reconstruct slot d seqLow
  if d = some (v - slot) then p
  else
    { p with
      offset := d
      next := p.next.filter (fun n => slot < n.1 && n.1 < slot + 2) ++ [(slot + 2, v - slot)] }

/-- The predicted epoch after a header of a slot (R363). -/
def feedEpoch (key slot epoch : Nat) (s : State) (p : Prediction) : Prediction :=
  if predictedEpoch key slot p s = some epoch then p
  else
    let base := (activeEpoch slot (lineKey key s)).map (fun e => e.num)
    let old := p.epochs.filter (fun g => g.key == key && g.from_ ≤ slot)
    { p with
      epochs := p.epochs.filter (fun g => g.key != key) ++ old.drop (old.length - 1) ++
        p.epochs.filter (fun g => g.key == key && slot < g.from_ && g.from_ < slot + 2) ++ [⟨key, slot + 2, epoch, base⟩] }

/-- A decoded header feeds the prediction of its sender (R363). -/
def feedPrediction (tn slot seqLow epoch : Nat) (key : Option Nat) (s : State) : State :=
  let p := feedOffset slot seqLow (tabGet predictionReset s.sec.predictions tn)
  let p := (match key with
    | some k => feedEpoch k slot epoch s p
    | none => p)
  { s with sec := { s.sec with predictions := tabSet predictionReset s.sec.predictions tn p } }

/-! ### Key segments and records (R370 to R372) -/

/-- The segments of a record of bytes (R370). -/
def segmentData (bs : List Byte) : List (List Byte) :=
  (List.range ((bs.length + 4063) / 4064)).map (fun i => (bs.drop (4064 * i)).take 4064)

/-- Segments of a record for a hub's queue; the queue holds 64 and firmware holds the rest (R371). -/
def queueSegments (toB : Bool) (recKind toTn recId : Nat) (bs : List Byte) (s : State) : State :=
  let ls := segmentData bs
  let segs := (List.range ls.length).map (fun i => (⟨recKind, toTn, recId, i, ls.length, ls.getD i []⟩ : KeySegment))
  if toB then
    let all := s.sec.hubQueueB ++ s.sec.backlogB ++ segs
    { s with sec := { s.sec with hubQueueB := all.take 64, backlogB := all.drop 64 } }
  else
    let all := s.sec.hubQueueA ++ s.sec.backlogA ++ segs
    { s with sec := { s.sec with hubQueueA := all.take 64, backlogA := all.drop 64 } }

/-- Queues a record toward a peer through one of the hubs; which hub relays it is firmware's own, a free value (assumption 12). -/
def sendRecord (recKind toTn recId : Nat) (bs : List Byte) (s : State) : State :=
  let (v, s) := takeFree s
  queueSegments (v.getLsbD 0) recKind toTn recId bs s

/-! ### Associations (R375). Index 64 stands for the exchange of the hub key. -/

/-- An association by index. -/
def assocOf (i : Nat) (s : State) : Association := if i = 64 then s.sec.hubAssoc else tabGet associationReset s.sec.assocs i

/-- Replaces an association. -/
def setAssoc (i : Nat) (a : Association) (s : State) : State :=
  if i = 64 then { s with sec := { s.sec with hubAssoc := a } }
  else { s with sec := { s.sec with assocs := tabSet associationReset s.sec.assocs i a } }

/-- The key kind of an association's records: 1 for the hub key (R372). -/
def offerKind (i : Nat) : Nat := bitNat (i == 64)

/-- The key that an association agrees. -/
def assocKey (i : Nat) (s : State) : Nat := if i = 64 then hubKey else (assocOf i s).peer

/-- The handle that an association's events and responses carry. -/
def assocHandle (i : Nat) (s : State) : Word := if i = 64 then 0 else handleOf 9 i s

/-- The index of the live association with a peer (R375). -/
def assocWith (peer : Nat) (s : State) : Option Nat :=
  (List.range 29).find? (fun i => (chanSlot 9 i s).live && (assocOf i s).peer == peer)

/-- A pending PEER_KEY_CREATE or KEY_ROLL of an association ends (R375); OK on a create carries the handle (R390). -/
def endKeyCommand (i : Nat) (st : Status) (s : State) : State :=
  let words := if st = .ok then [assocHandle i s] else []
  endLongs (fun k => k == .keyRoll 0 i) st [] (endLongs (fun k => k == .peerKeyCreate i) st words s)

/-- The association offers the next epoch with an activation SFN, and starts T_ANS of 256 superframes; while R379 blocks the DRBG
the offer waits (R375, R379). -/
def sendOffer (i : Nat) (expiries : Nat) (s : State) : State :=
  if s.sec.entropy ≠ .running then setAssoc i { assocOf i s with waiting := true } s
  else
    let (act, s) := chooseActivation s
    let (secret, s) := drawSecret s
    let a := assocOf i s
    let r := s.sec.nextRecId
    let e : KeyEpoch := { keyEpochReset with num := nextEpoch (lineKey (assocKey i s) s), act := act }
    let s := setAssoc i { a with
      phase := .offered, offer := e, secret := secret, recId := r, expiries := expiries,
      tAns := some (s.clock.slot + 256 * 128), reofferAt := none, waiting := false } s
    let s := { s with sec := { s.sec with nextRecId := (r + 1) % 65536 } }
    let (record, s) := signed (offerFields (offerKind i) e.num e.act secret s ++ certificateField s) s
    sendRecord 0x0A01 a.peer r record s

/-- The agreed epoch of an association is installed with its keys and it is IDLE (R374, R375). -/
def concludeOffer (i : Nat) (keys : BitVec 256 × BitVec 256) (s : State) : State :=
  let a := assocOf i s
  let s := installEpoch (assocKey i s) { a.offer with tx := keys.1, rx := keys.2 } s
  endKeyCommand i .ok (setAssoc i { a with phase := .idle, expiries := 0, tAns := none } s)

/-- The association ends: its epochs are erased, a pending command ends with ABORTED, and its handle becomes stale (R375, R376). -/
def endAssoc (i : Nat) (s : State) : State :=
  let s := endKeyCommand i .aborted s
  let s := modKey (assocOf i s).peer (fun _ => lineKeyReset) s
  closeChan .peerKey i (setAssoc i associationReset s)

/-- The TN is forgotten: every association ends and every line key is erased (R376). Assumption 111. -/
def forgetKeys (s : State) : State :=
  let s := forEach (fun i s => if (chanSlot 9 i s).live then endAssoc i s else s) (List.range 29) s
  let s := endKeyCommand 64 .aborted s
  eraseKeys { s with sec := { s.sec with
    hubAssoc := { associationReset with peer := 30 }, identity := [], partials := [], complete := [], waitingRecords := [] } }

/-- The terminal forgets its TN: its keys go, and the contexts of the bursts that it sent to itself close (R129, R130, R212, R376;
assumption 86). Assumption 111. -/
def forgetTn (s : State) : State := forgetKeys (forgetTnJoin (closeSender s.join.tn s))

/-- An epoch of the self key is drawn from the DRBG (R582). -/
def drawSelfEpoch (num act : Nat) (s : State) : State :=
  let (v, s) := drbgDraw 8 s
  installEpoch selfKey { keyEpochReset with num := num, act := act, tx := BitVec.ofNat 256 v, rx := BitVec.ofNat 256 v } s

/-- Epoch 0 of the self key is drawn when a TN is stored, its activation SFN at least 2 superframes ahead (R582). Assumption 12. -/
def drawSelfKey (s : State) : State :=
  if s.sec.entropy ≠ .running then s else drawSelfEpoch 0 ((s.clock.slot + 127) / 128 + 2) s

end Sys2Proof.Machine
end

