-- ==== Sys2Proof/Machine/PowerOps.lean ====
section
/-! DEFINITION. Gates and transitions between power states (R513 to R519), and the loss of frames when memories lose power. -/

namespace Sys2Proof.Machine

/-- Power states as POWER_STATE and POWER_STATUS code them (R537). -/
def powerCode : PowerState → Nat
  | .run => 0
  | .quiet => 1
  | .dormant => 2
  | .standby => 3
  | .curtain => 4

/-- The state of a target code. -/
def powerOf : Nat → PowerState
  | 0 => .run
  | 1 => .quiet
  | 2 => .dormant
  | _ => .standby

/-- A power state is entered (R535). -/
def enterPower (p : PowerState) (s : State) : State :=
  raise 0x0F01 1984 .info 0 (wordOf (powerCode p)) (modPower (fun x => { x with state := p }) s)

/-! ### Gates (R381, R382, R518, R519) -/

/-- A gate is closed. Gate 72 is closed unless R380 has opened it (R518). Assumption 34. -/
def gateClosed (g : Nat) (s : State) : Bool :=
  if g = 72 then !s.sec.debugOpen else s.power.closedHost.contains g || s.power.closedIsland.contains g

/-- Tile `t` has power for its receive lanes: neither its gate nor its laser supply is closed, and it runs (R484, R519). -/
def tileDark (t : Nat) (s : State) : Bool :=
  gateClosed t s || gateClosed (8 + t) s || (tabGet tileReset s.ev.tiles t).phase != .running

/-- Every plane of a tile is HELD or absent from plane_enable (R518). -/
def tileIdle (t : Nat) (s : State) : Bool :=
  [2 * t, 2 * t + 1].all (fun p => (planeOf p s).phase == .held || !maskBit s.join.cfg.planeEnable p)

/-- No enabled port uses a lane from `a` to `b - 1`; packet-mode ports only when asked (R518). -/
def lanesFree (packetOnly : Bool) (a b : Nat) (s : State) : Bool :=
  (enabledPorts s).all (fun p => (packetOnly && (portOf p s).cfg.circuit) || (portLanes p s).all (fun l => l < a || b ≤ l))

/-- R518 allows a normal-world request to close the gate. -/
def closeAllowed (g : Nat) (s : State) : Bool :=
  if g < 16 then tileIdle (g % 8) s
  else if g < 20 then lanesFree false (64 * (g - 16)) (64 * (g - 16) + 64) s
  else if 24 ≤ g && g < 40 then lanesFree true (16 * (g - 24)) (16 * (g - 24) + 16) s
  else if 47 ≤ g && g < 71 then tileIdle ((g - 47) % 8) s
  else false

/-- The demultiplexer loops of a tile lose power (R521). -/
def demuxOff (t : Nat) (s : State) : State :=
  modPower (fun p => { p with demux := (p.demux.set (2 * t) ⟨false, false⟩).set (2 * t + 1) ⟨false, false⟩ }) s

/-- What a block loses as its gate closes: the transmitters of a tile go OFF, and a pipeline's waiting frames are gone (R189, R519). -/
def shutEffect (g : Nat) (s : State) : State :=
  if g < 8 then demuxOff g (forEach powerOffTx (tileTxs g) s)
  else if g < 16 then forEach powerOffTx (tileTxs (g - 8)) s
  else if 24 ≤ g && g < 40 then { s with ports := { s.ports with fifos := tabSet [] s.ports.fifos (g - 24) [] } }
  else s

/-- The cue lanes of a tile whose gate opens count their evaluation points from here (R97). -/
def restartGrids (g : Nat) (s : State) : State :=
  { s with cue := { s.cue with lanes := tabMap cueLaneReset (fun k l => if k % 16 / 2 = g then { l with grid := s.clock.now % slotCc } else l) s.cue.lanes } }

/-- Closes and opens a gate for the host or for the Stagehand. -/
def closeGate (island : Bool) (g : Nat) (s : State) : State :=
  let open_ := !gateClosed g s
  let s := modPower (fun p =>
    if island then { p with closedIsland := p.closedIsland ++ [g] } else { p with closedHost := p.closedHost ++ [g] }) s
  if open_ then shutEffect g s else s
def openGate (g : Nat) (s : State) : State :=
  restartGrids g <| modPower (fun p => { p with
    closedHost := p.closedHost.filter (fun x => x != g), closedIsland := p.closedIsland.filter (fun x => x != g) }) s

/-- Carries out a request. -/
def carryGate (island close : Bool) (g : Nat) (s : State) : State :=
  if close then (if gateClosed g s then s else closeGate island g s) else openGate g s

/-- Sets or removes the recorded request of a gate (R382). -/
def recordGate (g : Nat) (r : Option Bool) (island : Bool) (s : State) : State :=
  let s := { s with sec := { s.sec with deferred := tabSet none s.sec.deferred g r } }
  modPower (fun p => { p with gateReq := p.gateReq.filter (fun x => x != g) ++ (if island then [g] else []) }) s

/-- A request on a gate that the secure world owns: recorded, or the record is removed when the gate has the state already. The flag
tells a deferred request (R382, R389). -/
def deferGate (island close : Bool) (g : Nat) (s : State) : Bool × State :=
  if gateClosed g s == close then (false, recordGate g none false s)
  else (true, raise 0x0A08 1927 .info 0 0 (countSec 11 1 (recordGate g (some close) island s)))

/-- GATE_RELEASE: the Strongroom gives a gate up; its recorded request is carried out, and a transition waits for it no longer (R382,
R515). Assumption 60. -/
def execGateRelease (gate : Nat) (s : State) : Result :=
  let rec_ := tabGet none s.sec.deferred gate
  let island := s.power.gateReq.contains gate
  let s := { s with sec := { s.sec with owned := s.sec.owned.filter (fun g => g != gate) } }
  match rec_ with
  | none => .next s
  | some close =>
    let s := carryGate island close gate (recordGate gate none false s)
    let s := modPower (fun p => { p with transition := p.transition.map (fun t =>
      { t with waiting := t.waiting.filter (fun g => g != gate) }) }) s
    .next (raise 0x0A09 1927 .info 0 0 s)

/-- The Stagehand closes a list of gates; those that the secure world owns are requested and waited for (R515). -/
def closeForIsland : List Nat → State → State
  | [], s => s
  | g :: gs, s =>
    if gateClosed g s || s.power.gateReq.contains g then closeForIsland gs s
    else if s.sec.owned.contains g then
      let (_, s) := deferGate true true g s
      closeForIsland gs (modPower (fun p => { p with transition := p.transition.map (fun t =>
        { t with waiting := t.waiting ++ [g] }) }) s)
    else closeForIsland gs (closeGate true g s)

/-- Closes gates whatever their owner, as a Curtain does (R515). -/
def closeAtOnce : List Nat → State → State
  | [], s => s
  | g :: gs, s => closeAtOnce gs (if gateClosed g s then s else closeGate true g s)

/-- The lowest plane of plane_enable (R513). -/
def lowestEnabled (s : State) : Option Nat := (List.range 16).find? (fun p => maskBit s.join.cfg.planeEnable p)

/-- The gates that are closed in DORMANT: all that R518 lists but those of the receive path of the lowest enabled plane (R513). -/
def dormantGates (s : State) : List Nat :=
  let keep := (lowestEnabled s).map (· / 2)
  (List.range 40 ++ [45] ++ (List.range 24).map (· + 47)).filter (fun g =>
    some g != keep && some g != keep.map (· + 63))

/-- The gates that the Stagehand closes on the way to a target (R518). -/
def targetGates (target : Nat) (s : State) : List Nat :=
  match target with
  | 0 => []
  | 1 => (List.range 16).map (· + 24)
  | 2 => dormantGates s
  | _ => List.range 72

/-- The Stagehand opens the gates it closed itself that the target does not close; recorded requests of its own are withdrawn
(R519). -/
def openForIsland (target : Nat) (s : State) : State :=
  let stay := targetGates target s
  let s := forEach (fun g s => recordGate g none false s) (s.power.gateReq.filter (fun g => !stay.contains g)) s
  modPower (fun p => { p with closedIsland := p.closedIsland.filter (fun g => stay.contains g) }) s

/-! ### Frames that are lost -/

/-- The frames in the VOQs, in selections that are not sent yet, and in the egress buffer. -/
def framesHeld (s : State) : Nat :=
  (s.queues.planeQueues.foldl (fun n e => n + e.2.length) 0) +
    (s.ports.ports.foldl (fun n e => n + (e.2.queues.foldl (fun m q => m + q.length) 0)) 0) +
    (s.tx.txs.foldl (fun n e => n + (e.2.sel.map (fun l => l.taken.length)).getD 0) 0)

/-- A pool with every buffer in its ring again, its counters kept. -/
def refillPool (p : Pool) : Pool := { freshPool p.total p.stack p.size with counters := p.counters }

/-- The memories of frames lose power: queues, reassembly, slow path and Larder start empty; configuration and counters stand. -/
def emptyQueues (s : State) : State :=
  let s := modQueues (fun q =>
    { q with
      planeQueues := [], drrs := [], egress := q.egress.map (fun e => { e with used := 0 })
      pools := tabMap poolReset (fun _ p => if p.total = 0 then p else refillPool p) q.pools
      buffers := [], releases := [], pf0Tokens := [], qpTokens := [], stripe := 0 }) s
  let s := { s with rx := { s.rx with contexts := [] } }
  let s := { s with ports := { s.ports with
    ports := tabMap portReset (fun _ p => { p with queues := List.replicate 8 [] }) s.ports.ports, fifos := [], slowQueue := [] } }
  { s with tx := { s.tx with txs := tabMap txReset (fun _ t =>
    { t with tail := none, sel := none, burst := if t.gateOpen then t.burst else none }) s.tx.txs } }

/-! ### Transitions (R514 to R516) -/

/-- A transition starts. Leaving RUN, the planes are to be held from the next superframe boundary, every laser parks, and the ports
go to POWER_DOWN (R514). Assumption 60. -/
def beginTransition (target : Nat) (s : State) : State :=
  let s := modPower (fun p => { p with transition := some ⟨target, s.clock.now, [], false⟩ }) s
  if s.power.state = .run && target != 0 then
    let held := (List.range 16).filter (fun p => (planeOf p s).phase != .held)
    let s := forEach (fun p s => modPlane p (fun m => { m with holdPending := true }) s) held s
    let s := { s with tx := { s.tx with txs := tabMap txReset (fun _ t => { t with channel := 64 }) s.tx.txs } }
    let s := forEach powerDownPort (enabledPorts s) s
    closeForIsland (targetGates 1 s) (modPower (fun p => { p with planesHeld := held }) s)
  else s

/-- The planes that a change to QUIET holds become HELD at the superframe boundary (R130, R514). -/
def holdPlanes (s : State) : State :=
  if s.power.planesHeld.any (fun p => (planeOf p s).holdPending) then
    let s := toSlot (nextBoundary s) s
    let s := forEach (fun p s =>
      modPlane p (fun m =>
        if m.holdPending then { stopTimers m with phase := .held, holdPending := false, actSfn := none } else m) s) s.power.planesHeld s
    watchPlanes { s with join := { s.join with answers := s.join.answers.filter (fun a => !s.power.planesHeld.contains a.plane) } }
  else s

/-- Back in RUN: the holds are released and the ports restart (R287, R514). -/
def resumeRun (s : State) : State :=
  let s := forEach (fun p s => tryWaitWindow p (modPlane p (applyHold false) s)) s.power.planesHeld s
  let s := modPower (fun p => { p with planesHeld := [] }) s
  forEach (fun p s => if (portOf p s).phase = .powerDown then startPort p s else s) (enabledPorts s) s
where
  /-- The release of PLANE_HOLD (R130). -/
  applyHold (hold : Bool) (m : PlaneMachine) : PlaneMachine :=
    if hold then m else if m.phase = .held then planeDown { m with holdPending := false } else { m with holdPending := false }

/-- The cue receivers keep power as the state says: all of them, or in DORMANT those of the lowest enabled plane (R513). A receiver
without power starts again from HUNT (R96). Assumption 114. -/
def powerCueLanes (s : State) : State :=
  let on : Nat → Bool := fun p => s.start.railsUp && (s.power.state != .dormant || lowestEnabled s == some p)
  let one : Nat → CueLane → CueLane := fun k l => if l.powered == on (k % 16) then l else { cueLaneReset with counters := l.counters, powered := on (k % 16), grid := s.clock.now % slotCc }
  { s with cue := { s.cue with lanes := (List.range 32).foldl (fun t k => tabMod cueLaneReset t k (one k)) s.cue.lanes } }

end Sys2Proof.Machine
end

