-- ==== Sys2Proof/Machine/CueLanes.lean ====
section
/-! DEFINITION. One cue lane at an evaluation point: the checks of a frame, the framer, the defects, qualification, counters and events
(R87 to R103). -/

namespace Sys2Proof.Machine

/-! ### The light of a lane (R98, R562) -/

/-- The LOS declare threshold, in hundredths of a dBm (R562). Assumption 109. -/
def losThreshold : Int := -2800 + (Config.losDeclare.val : Int)

/-- 57,344 line bits contain a run of 1,024 bits without a transition (R98): the set bits of `same` tell where a bit equals the one before
it, and after each fold where runs of twice that length begin. -/
def longRun (line : Nat) : Bool :=
  let same := (line ^^^ (line >>> 1) ^^^ (2 ^ 57343 - 1)) % 2 ^ 57343
  let runs := [1, 2, 4, 8, 16, 32, 64, 128, 256].foldl (fun z k => z &&& (z >>> k)) same
  (runs &&& (runs >>> 511)) != 0

/-- A slot is dark, and a slot lies above the clear threshold, which is 3 dB above the declare threshold (R98). -/
def slotDark (c : CueSlot) : Bool := decide (c.power < losThreshold) || longRun c.line.toNat
def slotClear (c : CueSlot) : Bool := decide (losThreshold + 300 < c.power)

/-- The light of a lane that receives none. -/
def noCueSlot (h : Hub) (p : Nat) : CueSlot :=
  { hub := h, plane := p, power := -100000, line := 0, modulated := false, wlErr := 0, refCycle := 0, refBits := 0 }

/-- The light of a lane among that of an evaluation point; the lanes of a tile that is down receive nothing (R484). -/
def lightOf (cs : List CueSlot) (h : Hub) (p : Nat) (s : State) : CueSlot :=
  if tileDark (p / 2) s then noCueSlot h p else (cs.find? (fun c => c.hub == h && c.plane == p)).getD (noCueSlot h p)

/-! ### Fields and checks of a frame (R88 to R93) -/

/-- The frame alignment word (R88). -/
def faw : Nat := 0xB4C32F19E8670D5A

/-- The frame that starts at bit `off` of `total` line bits, descrambled and decoded (R69, R78, R88, R89). -/
def readFrame (c : CueSlot) (total line off : Nat) : CueFrame :=
  let rest := fieldAt total line (off + 64) 57280 ^^^ scrambler 57280 (cueSeed (hubCode c.hub))
  let head := headerDecode (rest >>> 56960)
  let words := payloadWords (rest % 2 ^ 54400)
  { hub := c.hub, plane := c.plane, fawErrors := windowErrors total faw line off, headerOk := head.isSome,
    header := (head.getD ⟨0, 0, false⟩).fields, decoded := (List.range 10).filter (fun i => (words.getD i none).isSome),
    info := payloadInfo words, wlErr := c.wlErr, refCycle := c.refCycle, refBits := c.refBits }

/-- What stands for the frame of a slot in which the framer has none. Assumption 76. -/
def noFrame (c : CueSlot) : CueFrame :=
  { hub := c.hub, plane := c.plane, fawErrors := 64, headerOk := false, header := 0, decoded := [], info := 0, wlErr := c.wlErr,
    refCycle := c.refCycle, refBits := c.refBits }

/-- A field of the cue header (R90). -/
def cueField (f : CueFrame) (off width : Nat) : Nat := fieldAt 272 f.header off width

/-- The slot index that the header names. -/
def cueSlot (f : CueFrame) : Nat := 128 * cueField f 24 48 + cueField f 72 7

/-- Checks 1 to 4 of R91. -/
def cueChecks (f : CueFrame) : Bool :=
  f.fawErrors ≤ 6 && f.headerOk && cueField f 0 4 == 1 && cueField f 4 1 == hubCode f.hub && cueField f 128 30 < 10 ^ 9

/-- The frame is good: checks 1 to 4, and in SYNC the fifth (R91). -/
def cueGood (f : CueFrame) (l : CueLane) : Bool :=
  cueChecks f && (l.framer != .sync || (match l.last with | some n => cueSlot f == n + 1 | none => true))

/-- The information area's bytes `a .. a + n - 1`, and the number that they hold, most significant byte first (R6, R92). -/
def infoNat (f : CueFrame) (a n : Nat) : Nat := fieldAt 51400 f.info (8 * a) (8 * n)
def infoBytes (f : CueFrame) (a n : Nat) : List Byte := bytesBE n (infoNat f a n)

/-- Every codeword that the bytes `a .. a + n - 1` touch has decoded; a codeword carries 5,140 bits of the area (R78, R93). -/
def areaOk (f : CueFrame) (a n : Nat) : Bool :=
  let first := 8 * a / 5140
  (List.range ((8 * (a + n) - 1) / 5140 - first + 1)).all (fun i => f.decoded.contains (first + i))

/-! ### Framer and defects (R96 to R100) -/

/-- Line bits of a slot, and of the two slots among which a framer outside SYNC looks for its frames: those before its last evaluation
point, and those since. -/
def frameBits : Nat := 57344
def windowBits : Nat := 114688

/-- The first of `n` places from `off` on at which a 64-bit window differs from the FAW in no more than 2 bits (R96). -/
def findFaw (line : Nat) : Nat → Nat → Option Nat
  | 0, _ => none
  | n + 1, off => if windowErrors windowBits faw line off ≤ 2 then some off else findFaw line n (off + 1)

/-- The candidate's frame is read: its (sfn, slot) is what the next one must follow, when it passes checks 1 to 4 (R96; assumption 76). -/
def readCandidate (c : CueSlot) (line : Nat) (l : CueLane) : Option CueFrame × CueLane :=
  let f := readFrame c windowBits line l.start
  (some f, { l with unread := false, last := if cueChecks f then some (cueSlot f) else none })

/-- The search from a place on: the first window that qualifies is the candidate, whose frame is read now when it has all arrived (R96).
Assumption 76. -/
def hunt (c : CueSlot) (line off : Nat) (l : CueLane) : Option CueFrame × CueLane :=
  let l := { l with framer := .hunt, confirm := 0 }
  match findFaw line (windowBits - 63 - off) off with
  | none => (none, l)
  | some a =>
    let l := { l with framer := .presync, unread := true, start := a }
    if a ≤ frameBits then readCandidate c line l else (none, { l with start := a - frameBits })

/-- The framer at an evaluation point, given what the lane has received since the last one: the frame that it judges, if any, and the lane
after it (R96). In SYNC the evaluation points are the ends of the lane's frames. A failed confirmation resumes the search one bit after
the place where the frame was expected (assumption 76). -/
def stepFramer (c : CueSlot) (l : CueLane) : Option CueFrame × CueLane :=
  let line := l.past * 2 ^ frameBits + c.line.toNat
  match l.framer with
  | .hunt => hunt c line (frameBits - 63) l
  | .presync =>
    if l.unread then readCandidate c line l
    else
      let f := readFrame c windowBits line l.start
      let n := cueSlot f
      if cueChecks f && (match l.last with | some k => n == k + 1 | none => false) then
        (some f, { l with framer := (if l.confirm = 0 then .presync else .sync), confirm := l.confirm + 1, errored := 0, last := some n })
      else (some f, (hunt c line (l.start + 1) l).2)
  | .sync =>
    let f := readFrame c frameBits c.line.toNat 0
    if cueGood f l then (some f, { l with errored := 0, last := some (cueSlot f) })
    else (some f, { l with framer := (if l.errored < 3 then .sync else .hunt), errored := l.errored + 1 })

/-- LOS after a slot; its declaration sends the framer to HUNT (R96, R98). Assumptions 43 and 114. -/
def stepLos (c : CueSlot) (l : CueLane) : CueLane :=
  let darkRun := if slotDark c then min 2 (l.darkRun + 1) else 0
  let lightRun := if slotClear c && !slotDark c then min 16 (l.lightRun + 1) else 0
  let los := if l.los then lightRun != 16 else darkRun == 2
  { l with darkRun := darkRun, lightRun := lightRun, los := los, framer := if los && !l.los then .hunt else l.framer }

/-- LOF after a slot, given whether the frame found the framer in SYNC (R98). Assumption 43. -/
def stepLof (wasSync : Bool) (l : CueLane) : CueLane :=
  let inSync := l.framer == .sync
  let lost := if inSync || wasSync then 0 else min 8 (l.lostEvals + 1)
  let run := if inSync && wasSync then min 16 (l.syncRun + 1) else 0
  { l with lostEvals := lost, syncRun := run, lof := l.los || (if l.lof then run != 16 else !inSync && lost == 8) }

/-- A defect that one more frame shows or does not show: declared after `up` in a row, cleared after `down` in a row. -/
def stepDefect (up down : Nat) (on : Bool) (d : Defect) : Defect :=
  if on == d.held then { d with run := 0 }
  else if d.run + 1 < (if d.held then down else up) then { d with run := d.run + 1 }
  else ⟨on, 0⟩

/-- A condition that one frame declares and 16 consecutive frames without it clear (R87, R100). -/
def stepShown (on : Bool) (d : Defect) : Defect := stepDefect 1 16 on d

/-- A mismatch is held (R100). -/
def mismatched (l : CueLane) : Bool := l.sfnMis.held || l.planeMis.held || l.stageMis.held

/-- The mismatches after a good frame; `ref` is the slot index of the root's reference lane, and a frame with nothing to compare with
leaves SFN_MISMATCH as it is (R100). -/
def stepMismatch (p : Nat) (stageId : Nat) (ref : Option Nat) (f : CueFrame) (l : CueLane) : CueLane :=
  { l with
    planeMis := stepShown (cueField f 176 4 != p) l.planeMis
    stageMis := stepShown (stageId != 0 && cueField f 192 32 != stageId) l.stageMis
    sfnMis := (match ref with | none => l.sfnMis | some n => stepShown (cueSlot f != n) l.sfnMis) }

/-- The terminal's bit of a bitmap of the information area (R92). -/
def bitmapBit (f : CueFrame) (a tn : Nat) : Bool := (infoNat f a 4).testBit tn

/-- AIS after a good frame on a lane without a mismatch (R98, R100). A frame that is not good leaves this run, and those of RDI and of
the mismatches, as they stand (assumption 78). -/
def stepAis (f : CueFrame) (l : CueLane) : CueLane :=
  if mismatched l then l else { l with ais := stepDefect 2 2 (cueField f 6 1 == 1) l.ais }

/-- The bitmaps of a good frame are used: the lane's content is, and codeword 8 has decoded (R93, R101). -/
def bitmapsOk (f : CueFrame) (l : CueLane) : Bool := !l.los && !l.lof && !mismatched l && !l.ais.held && f.decoded.contains 8

/-- RDI and the REI counter after a good frame (R98, R102). -/
def stepRdi (tn : Option Nat) (f : CueFrame) (l : CueLane) : CueLane :=
  match tn with
  | none => l
  | some t =>
    if !bitmapsOk f l then l
    else
      { l with
        rdi := stepDefect 2 8 (bitmapBit f 5376 t) l.rdi
        counters := bump 5 (bitNat (bitmapBit f 5380 t)) l.counters }

/-- What a good frame says (R62, R90, R132). -/
def takeHeader (f : CueFrame) (l : CueLane) : CueLane :=
  { l with claim := cueField f 5 1 == 1, epoch := cueField f 8 16, refCycle := f.refCycle, refBits := f.refBits }

/-- LOS and LOF clear AIS and RDI and restart their counts, for as long as they stand (assumption 78); without a TN there is no RDI
(R98). -/
def restartDefects (tn : Option Nat) (l : CueLane) : CueLane :=
  let l := if l.los || l.lof then { l with ais := defectReset, rdi := defectReset } else l
  if tn.isNone then { l with rdi := defectReset } else l

/-- Qualification: 16 consecutive frames in SYNC without LOS or LOF; LOS, LOF, a mismatch or modulation end it (R82, R87, R100). -/
def stepQualified (now : Nat) (ran : Bool) (l : CueLane) : CueLane :=
  let run := if ran then min 16 (l.goodRun + 1) else 0
  let q := (l.qualified || run == 16) && !l.los && !l.lof && !mismatched l && !l.modulation.held
  { l with goodRun := run, qualified := q, qualSince := if q && !l.qualified then now else l.qualSince }

/-- What a good frame changes. Assumption 78. -/
def stepGood (p stageId : Nat) (tn ref : Option Nat) (f : CueFrame) (l : CueLane) : CueLane :=
  stepRdi tn f (stepAis f (stepMismatch p stageId ref f (takeHeader f l)))

/-- The frame counters: a frame that the framer has found is good or errored, and in SYNC its codewords that failed are counted; a slot in
which the framer has no frame counts nothing (R91, R103; assumption 76). -/
def countFrame (wasSync : Bool) (good : Bool) (f : CueFrame) (l : CueLane) : CueLane :=
  let l := { l with counters := bump (if good then 0 else 1) 1 l.counters }
  if wasSync then { l with counters := bump 2 (10 - f.decoded.length) l.counters } else l

/-- A lane with power at an evaluation point: the frame that it judged, whether that is good, and the lane after it (R87 to R103).
Assumption 78. -/
def stepLane (now p stageId : Nat) (tn ref : Option Nat) (c : CueSlot) (l : CueLane) : Option CueFrame × Bool × CueLane :=
  let wasSync := l.framer == .sync
  let ran := wasSync && !l.los && !l.lof
  let (of, l1) := stepFramer c l
  let good := (match of with | some f => cueGood f l | none => false)
  let l1 := (match of with | some f => countFrame wasSync good f l1 | none => l1)
  let l1 := stepLof wasSync (stepLos c l1)
  let l1 := if slotDark c then l1 else { l1 with modulation := stepShown c.modulated l1.modulation }
  let l1 := (match of with | some f => if good then stepGood p stageId tn ref f l1 else l1 | none => l1)
  let grid := if wasSync && l1.framer != .sync then now % slotCc else l1.grid
  (of, good, stepQualified now ran (restartDefects tn { l1 with past := c.line.toNat, grid := grid }))

/-- The content of the lane's frames is used: none of LOS, LOF, AIS or a mismatch (R101). -/
def contentOk (l : CueLane) : Bool := !l.los && !l.lof && !l.ais.held && !mismatched l

/-- A hub claims a plane (R132). -/
def claims (h : Hub) (p : Nat) (s : State) : Bool := contentOk (laneOf h p s) && (laneOf h p s).claim

/-- The lane may serve as receive slot reference (R62, R100, R101). -/
def laneServes (h : Hub) (p : Nat) (s : State) : Bool :=
  let l := laneOf h p s
  !l.los && !l.lof && !mismatched l

/-! ### Events (R87, R101) -/

/-- Holds a condition that is not held, or clears it. -/
def showCondition (on : Bool) (code src : Nat) (sev : Severity) (s : State) : State :=
  if !on then clear code src 0 0 s
  else if (alarmEntry src s).conds.any (fun c => c.code == code) then s
  else hold code src sev 0 0 s

/-- The severity of a lane's defects: MAJOR when its hub owns the plane, which an owner in LOS or LOF still does (R101). -/
def laneSeverity (h : Hub) (p : Nat) (failed : Bool) (s : State) : Severity :=
  let m := planeOf p s
  if ownsPlane h p s || (failed && m.own == .unowned && m.lastOwner == some h) then .major else .minor

/-- LOF of a lane is raised or cleared, `wasLos` telling whether LOS was declared before: it is masked while LOS is declared, and raised
when LOS clears with LOF still declared, held already or not (R101). -/
def lofEvent (wasLos : Bool) (l : CueLane) (src : Nat) (sev : Severity) (s : State) : State :=
  if l.los && l.lof then s
  else if wasLos && l.lof then
    hold 0x0202 src sev 0 0 (modAlarm src (fun e => { e with conds := e.conds.filter (fun c => c.code != 0x0202) }) s)
  else showCondition l.lof 0x0202 src sev s

/-- The conditions of a lane are raised or cleared (R101). -/
def laneEvents (wasLos : Bool) (h : Hub) (p : Nat) (sev : Severity) (s : State) : State :=
  let l := laneOf h p s
  let src := srcPlane p (hubCode h)
  let s := showCondition l.los 0x0201 src sev s
  let s := lofEvent wasLos l src sev s
  let s := showCondition l.sfnMis.held 0x0205 src .major s
  let s := showCondition l.planeMis.held 0x0206 src .major s
  let s := showCondition l.stageMis.held 0x0207 src .major s
  let s := showCondition l.ais.held 0x0203 src sev s
  let s := showCondition l.rdi.held 0x0204 src .minor s
  showCondition l.modulation.held 0x0208 src sev s

/-! ### One lane at an evaluation point -/

/-- What an evaluation point leaves of a lane's frame: it is good, and its content is used. -/
structure LaneEval where
  frame : CueFrame
  good : Bool
  used : Bool
deriving DecidableEq, Repr

/-- The lane has power: its receiver is supplied and its tile's supply is on (R96, R518). -/
def lanePowered (h : Hub) (p : Nat) (s : State) : Bool := (laneOf h p s).powered && !gateClosed (p / 2) s

/-- The frame that a lane judges at an evaluation point. Assumption 76. -/
def judgedFrame (cs : List CueSlot) (h : Hub) (p : Nat) (s : State) : Option CueFrame :=
  if lanePowered h p s then (stepFramer (lightOf cs h p s) (laneOf h p s)).1 else none

/-- Some cue lane is in SYNC. -/
def anySync (s : State) : Bool := s.cue.lanes.any (fun e => e.2.framer == .sync)

/-- The first lane to reach SYNC gives the slots their number and their phase: the slot after the frame began at the frame's end (R61,
R96; assumption 76). -/
def takeSlots (f : CueFrame) (start : Nat) (s : State) : State :=
  { s with clock := { s.clock with slot := cueSlot f + 1, slotAt := s.clock.now - (frameBits - start) / 32 } }

/-- A lane without power starts again from HUNT, its evaluation points counted from here (R96 to R98). Assumption 114. -/
def unpowered (now : Nat) (l : CueLane) : CueLane :=
  { cueLaneReset with powered := l.powered, counters := l.counters, grid := now % slotCc }

/-- One lane at an evaluation point of its own (R96 to R103). -/
def evalLane (cs : List CueSlot) (ref : Option Nat) (h : Hub) (p : Nat) (s : State) : LaneEval × State :=
  let c := lightOf cs h p s
  let l := laneOf h p s
  if !lanePowered h p s then (⟨noFrame c, false, false⟩, modLane h p (unpowered s.clock.now) s)
  else
    let (of, good, l1) := stepLane s.clock.now p s.join.cfg.stageId.toNat s.join.tn ref c l
    let f := of.getD (noFrame c)
    let sev := laneSeverity h p (l.los || l.lof) s
    let first := l.framer != .sync && l1.framer == .sync && !anySync s
    let s := modLane h p (fun _ => l1) s
    let s := if first then takeSlots f l.start s else s
    (⟨f, good, good && contentOk l1⟩, laneEvents l.los h p sev s)

/-- This instant is an evaluation point of a lane: in SYNC, and without power, an aligned slot start, and otherwise a point of the lane's
own grid (R96, R97). -/
def evaluates (aligned : Bool) (h : Hub) (p : Nat) (s : State) : Bool :=
  let l := laneOf h p s
  if !lanePowered h p s || l.framer == .sync then aligned else s.clock.now % slotCc == l.grid

/-- The lanes of a list at an instant: those whose evaluation point it is. Assumption 43. -/
def evalLanes (cs : List CueSlot) (aligned : Bool) (ref : Option Nat) : List (Hub × Nat) → State → List LaneEval × State
  | [], s => ([], s)
  | (h, p) :: ls, s =>
    if evaluates aligned h p s then
      let (e, s) := evalLane cs ref h p s
      let (es, s) := evalLanes cs aligned ref ls s
      (e :: es, s)
    else evalLanes cs aligned ref ls s

/-- The 32 cue lanes, plane by plane. -/
def cueLanes : List (Hub × Nat) := (List.range 16).flatMap (fun p => [(.a, p), (.b, p)])

/-- The 4 bits of the cue status of a hub on a plane (R104); bit 3 marks the root's reference lane. -/
def cueNibble (h : Hub) (p : Nat) (s : State) : Nat :=
  let l := laneOf h p s
  let worst := if l.los then 3 else if l.lof then 2 else if l.ais.held || mismatched l then 1 else 0
  worst + 4 * bitNat l.rdi.held + 8 * bitNat (s.cue.root.phase == .locked && s.cue.root.lane == some (h, p))

end Sys2Proof.Machine
end

