-- ==== Sys2Proof/Machine/Root.lean ====
section
/-! DEFINITION. The clock root: the order of its references, its state machine, and the end of cue acquisition (R82 to R84, R129). -/

namespace Sys2Proof.Machine

/-- Rewrites the root. -/
def modRoot (g : RootClock → RootClock) (s : State) : State := { s with cue := { s.cue with root := g s.cue.root } }

/-- The root's reference lane (R82, R100). -/
def rootLane (s : State) : Option (Hub × Nat) := if s.cue.root.phase = .locked then s.cue.root.lane else none

/-- Place of a lane in the order of R82. -/
def laneRank (s : State) (l : Hub × Nat) : Nat :=
  (if l.1 = s.time.cfg.primary then 0 else 32) + (if ownsPlane l.1 l.2 s then 0 else 16) + l.2

/-- The first lane of a list in the order of R82. -/
def bestLane (s : State) : List (Hub × Nat) → Option (Hub × Nat)
  | [] => none
  | l :: ls =>
    match bestLane s ls with
    | none => some l
    | some m => if laneRank s l ≤ laneRank s m then some l else some m

/-- The qualified lanes. -/
def qualifiedLanes (s : State) : List (Hub × Nat) := cueLanes.filter (fun l => (laneOf l.1 l.2 s).qualified)

/-- A lane is qualified. Assumption 43. -/
def laneQualified (l : Option (Hub × Nat)) (s : State) : Bool :=
  match l with
  | none => false
  | some l => (laneOf l.1 l.2 s).qualified

/-- No lane is qualified: the root holds its frequency (R83). -/
def rootHold (s : State) : State := modRoot (fun _ => ⟨.holdover, none, s.clock.now, false⟩) s

/-- The root after the lanes have been judged (R83, R84). Assumption 43. -/
def rootUpdate (s : State) : State :=
  let r := s.cue.root
  let best := bestLane s (qualifiedLanes s)
  match r.phase with
  | .syncAcq => s
  | .syncHeld => if best.isNone then s else modRoot (fun r => { r with phase := .transfer, lane := best }) s
  | .transfer =>
    if laneQualified r.lane s then s else if best.isNone then rootHold s else modRoot (fun r => { r with lane := best }) s
  | .locked =>
    if laneQualified r.lane s then s else if best.isNone then rootHold s else modRoot (fun r => { r with lane := best }) s
  | .holdover =>
    if best.isNone then s
    else
      let phase := if s.clock.now ≤ r.holdSince + 10 * secCc then RootPhase.locked else .transfer
      clear 0x0102 1921 0 0 (modRoot (fun _ => ⟨phase, best, 0, false⟩) s)

/-- With the root LOCKED and a cue lane of an enabled plane qualified, CUE_ACQ ends with W at 16 and round 1 (R129). -/
def cueAcqDone (s : State) : State :=
  if s.join.phase == .cueAcq && s.cue.root.phase == .locked && (qualifiedLanes s).any (fun l => planeEnabled l.2 s) then
    enterDiscWait { s with join := { s.join with delayRange := 16, round := 1 } }
  else s

/-- ROOT_TRANSFER_DONE: the root's frequency has come within 0.05 ppm of the lane (R83). -/
def execRootTransferDone (s : State) : Result :=
  if s.cue.root.phase == .transfer && laneQualified s.cue.root.lane s then
    .next (cueAcqDone (modRoot (fun r => { r with phase := .locked }) s))
  else .next s

/-- ROOT_HOLDOVER: 10 s in HOLDOVER, and whether SYNC_REF is present; the root steers toward it where it is (R83, R84). -/
def execRootHoldover (syncRef : Bool) (s : State) : Result :=
  if s.cue.root.phase ≠ .holdover then .next s
  else
    let s := advanceTo (s.cue.root.holdSince + 10 * secCc) s
    .next (hold 0x0102 1921 .major 0 0 
      (modRoot (fun r => { r with steering := syncRef }) { s with pins := { s.pins with syncRef := syncRef } }))

/-- The lanes of the time-primary hub that have stayed qualified for 10 s. Assumption 77. -/
def ripeLanes (s : State) : List (Hub × Nat) :=
  (qualifiedLanes s).filter (fun l => l.1 == s.time.cfg.primary && (laneOf l.1 l.2 s).qualSince + 10 * secCc ≤ s.clock.now)

/-- The earliest instant at which a qualified lane of the time-primary hub has stayed qualified for 10 s. Assumption 77. -/
def ripeAt (s : State) : Option Nat :=
  ((qualifiedLanes s).filter (fun l => l.1 == s.time.cfg.primary)).foldl
    (fun a l =>
      let t := (laneOf l.1 l.2 s).qualSince + 10 * secCc
      some (match a with | none => t | some u => min t u)) none

/-- ROOT_DISPLACE: a lane of the time-primary hub, qualified for 10 s, displaces a lane of the other hub (R82 to R84). The root takes the
first in order of the lanes that have been qualified for 10 s (assumption 77). -/
def execRootDisplace (s : State) : Result :=
  match rootLane s, ripeAt s with
  | some l, some t =>
    if l.1 = s.time.cfg.primary then .next s
    else
      let s := advanceTo t s
      .next (modRoot (fun r => { r with lane := bestLane s (ripeLanes s) }) s)
  | _, _ => .next s

end Sys2Proof.Machine
end

