-- ==== Sys2Proof/Machine/ExpressOps.lean ====
section
/-! DEFINITION. Express groups: which members a terminal sends and receives, the container overhead, and dealing (R227 to R241). -/

namespace Sys2Proof.Machine

/-- Rewrites the express part. -/
def modExpress (g : Express → Express) (s : State) : State := { s with express := g s.express }

/-- A group by its handle's index, and a group rewritten. -/
def groupOf (i : Nat) (s : State) : ExpGroup := tabGet expGroupReset s.express.groups i
def modGroup (i : Nat) (g : ExpGroup → ExpGroup) (s : State) : State :=
  modExpress (fun e => { e with groups := tabMod expGroupReset e.groups i g }) s

/-- Counts on a group (R261). -/
def countGroup (i k n : Nat) (s : State) : State := modGroup i (fun g => { g with counters := bump k n g.counters }) s

/-- The live group with a number (R227). -/
def groupNumbered (n : Nat) (s : State) : Option Nat :=
  (List.range 256).find? (fun i => (chanSlot 0x01 i s).live && (groupOf i s).cfg.number == n)

/-- The live groups. -/
def liveGroups (s : State) : List Nat := (List.range 256).filter (fun i => (chanSlot 0x01 i s).live)

/-- The members of a map in increasing order. -/
def mapMembers (m : Nat) : List Nat := (List.range 17).filter (maskBit m)

/-- The number of members of a map. -/
def mapCount (m : Nat) : Nat := (mapMembers m).length

/-- A member is in the map, or is being added; and a member that is being removed goes on with containers that carry no client bits from the
switch-over until it sends its end container (R228, R255; assumption 93). -/
def memberActive (m : Nat) (g : ExpGroup) : Bool :=
  let r := g.resize
  maskBit g.map m || (r.member == m && ((r.phase != .idle && !r.remove) || r.phase == .switched))

/-- The map that a resize leads to (R253). -/
def newMap (g : ExpGroup) : Nat := withBit g.map g.resize.member (!g.resize.remove)

/-- The map to which the own direction deals in a slot: the new one from slot 0 of the COMMIT's SFN (R253, R254). -/
def mapAt (slot : Nat) (g : ExpGroup) : Nat :=
  match g.resize.phase, g.resize.commitSfn, g.resize.oldMap with
  | .switched, some n, none => if 128 * n ≤ slot then newMap g else g.map
  | .switched, some n, some o => if slot < 128 * n then o else g.map
  | _, _, _ => g.map

/-- A member is received: it is active, in the map before a switch-over, or its end container has not come (R228, R236, R254). -/
def memberUsed (m : Nat) (g : ExpGroup) : Bool :=
  memberActive m g || (match g.resize.oldMap with | some o => maskBit o m | none => false) || maskBit g.leaving m

/-- The group whose member a grant names, when the terminal receives it (R228, R230). -/
def receivedGroup (gr : Grant) (s : State) : Option Nat :=
  if gr.kind ≠ 2 ∨ gr.e ≠ 0 then none
  else
    match groupNumbered gr.dest s with
    | none => none
    | some i => if (groupOf i s).cfg.farTn == gr.tn && memberUsed gr.member (groupOf i s) then some i else none

/-! ### Container overhead (R236 to R238) -/

/-- The overhead fields of a container. -/
structure Overhead where
  mfi : Nat
  count : Nat
  g : Nat
  ais : Bool
  rdi : Bool
  ends : Bool
  rsz : Nat
  remove : Bool
  member : Nat
  crcOk : Bool
deriving DecidableEq, Repr

/-- Reads the 64 bits of a container overhead (R236). -/
def readOverhead (n : Nat) : Overhead :=
  let rmem := fieldAt 64 n 39 5
  let rsz := fieldAt 64 n 36 2
  { mfi := fieldAt 64 n 0 8, count := fieldAt 64 n 8 20, g := fieldAt 64 n 28 5, ais := fieldAt 64 n 33 1 == 1,
    rdi := fieldAt 64 n 34 1 == 1, ends := fieldAt 64 n 35 1 == 1, rsz := if rsz = 3 ∨ 16 < rmem then 0 else rsz,
    remove := fieldAt 64 n 38 1 == 1, member := rmem,
    crcOk := crc16 (bitsOfNat 48 (n / 2 ^ 16)) == n % 2 ^ 16 }

/-- The 64 bits of a container overhead, with its CRC (R236). -/
def writeOverhead (o : Overhead) : Nat :=
  let v := o.mfi % 256 * 2 ^ 40 + o.count % 2 ^ 20 * 2 ^ 20 + o.g % 32 * 2 ^ 15 + bitNat o.ais * 2 ^ 14 + bitNat o.rdi * 2 ^ 13 +
    bitNat o.ends * 2 ^ 12 + o.rsz % 4 * 2 ^ 10 + bitNat o.remove * 2 ^ 9 + o.member % 32 * 2 ^ 4
  v * 2 ^ 16 + crc16 (bitsOfNat 48 v)

/-- T_nom of a client type in bits per slot (R229). -/
def clientTnom (c : Nat) : Nat := if c = 1 then 108800 else if c = 2 then 217600 else if c = 3 then 435200 else if c = 4 then 870400 else 0

/-- Lanes and least members of a client type (R229). -/
def clientLanes (c : Nat) : Nat := if c = 1 then 1 else if c = 2 then 2 else if c = 3 then 4 else if c = 4 then 8 else 0
def clientMembers (c : Nat) : Nat := if c = 1 then 3 else if c = 2 then 5 else if c = 3 then 9 else if c = 4 then 17 else 0

/-- T_nom of a group with `n` members: of its client type, or 54,016 bits a member (R229, R265). -/
def tnomFor (g : ExpGroup) (n : Nat) : Nat := if g.cfg.trib then 54016 * n else clientTnom g.cfg.ctype

/-- A count lies within T_nom ±200 ppm and below g * 54,336 (R237). -/
def countOk (tnom t g : Nat) : Bool := decide (tnom * 4999 ≤ 5000 * t ∧ 5000 * t ≤ tnom * 5001) && t < g * 54336

/-! ### Dealing (R239) -/

/-- Takes the first `n` bits of a run. -/
def takeBits (n : Nat) (b : BitRun) : BitRun × BitRun :=
  if b.len ≤ n then (b, bitRunReset) else (⟨n, b.bits / 2 ^ (b.len - n)⟩, ⟨b.len - n, b.bits % 2 ^ (b.len - n)⟩)

/-- Puts bits behind a run. -/
def appendBits (a b : BitRun) : BitRun := ⟨a.len + b.len, a.bits * 2 ^ b.len + b.bits % 2 ^ b.len⟩

/-- Word `k` of a run of bits, the last word left-aligned and filled with 0 (R239). -/
def runWord (b : BitRun) (k : Nat) : Word :=
  let e := 32 * (k + 1)
  wordOf (if e ≤ b.len then b.bits / 2 ^ (b.len - e) else b.bits * 2 ^ (e - b.len))

/-- Words of a run, rounded up. -/
def runWords (b : BitRun) : Nat := (b.len + 31) / 32

/-- The number of words that member index `j` of `g` carries of `w` words. -/
def dealtWords (w g j : Nat) : Nat := (w + g - 1 - j) / g

/-- The client-area words of member index `j` of `g` (R239): word q at place floor(q * 1,698 / Q). -/
def dealMember (b : BitRun) (g j : Nat) : Tab Word :=
  let w := runWords b
  let q := (w + g - 1) / g
  (List.range (dealtWords w g j)).foldl (fun t i => tabSet 0 t (i * 1698 / q) (runWord b (i * g + j))) []

/-- The first `t` bits of words in order. -/
def joinWords (t : Nat) (ws : List Word) : BitRun :=
  let n := ws.foldl (fun a w => a * 2 ^ 32 + w.toNat) 0
  ⟨t, n / 2 ^ (32 * ws.length - t)⟩

/-- The group stream of `t` bits restored from the client areas of the members in order (R239). -/
def collect (t : Nat) (areas : List (Tab Word)) : BitRun :=
  let g := areas.length
  let w := (t + 31) / 32
  let q := (w + g - 1) / g
  joinWords t ((List.range w).map (fun k => tabGet 0 (areas.getD (k % g) []) (k / g * 1698 / q)))

/-- What RATE_CONTROL has chosen for a slot (R240). -/
def chosenAt (slot : Nat) (cs : List (Nat × Bool × BitRun)) : Option (Bool × BitRun) := (cs.find? (fun c => c.1 == slot)).map (fun c => c.2)

/-- The target fill of a landing store, rounded to the nearest bit (R240). Assumption 91. -/
def fillTarget (tnom : Nat) : Nat := (2 * tnom * 96 + 1792) / (2 * 1792)

/-- The sender's choice of T for a count of new bits and a fill of the landing store (R240). -/
def chooseT (tnom lim count fill : Nat) : Nat :=
  let target : Int := fillTarget tnom
  let t := (count : Int) + clampInt (-lim) lim (fill - target)
  (clampInt (tnom - tnom / 5000 : Nat) (tnom + tnom / 5000 : Nat) t).toNat

/-! ### The landing store (R233, R234, R240) -/

/-- The last `n` bits of a run. Assumption 91. -/
def lastBits (n : Nat) (b : BitRun) : BitRun := if b.len ≤ n then b else ⟨n, b.bits % 2 ^ n⟩

/-- The 32-bit words that all lanes hold whole, taken in turn from logical lane 0 on; and what the lanes keep (R233). -/
def weave (ls : List BitRun) : BitRun × List BitRun :=
  match ls with
  | [] => (bitRunReset, [])
  | l :: _ =>
    let m := ls.foldl (fun a b => min a (b.len / 32)) (l.len / 32)
    let ws := (List.range m).flatMap (fun k => ls.map (fun b => runWord b k))
    (⟨32 * ws.length, beFold 32 (ws.map (fun w => w.toNat))⟩, ls.map (fun b => (takeBits (32 * m) b).2))

/-- The feeds in the order of their logical lanes; none unless every lane 0 to `nl - 1` is locked (R233, R234). -/
def orderFeeds (nl : Nat) (fs : List ClientFeed) : Option (List BitRun) :=
  let os := (List.range nl).filterMap (fun i => (fs.find? (fun f => f.marker == some i)).map (fun f => (⟨f.len, f.bits % 2 ^ f.len⟩ : BitRun)))
  if fs.length = nl ∧ os.length = nl then some os else none

/-- The bits that a landing store holds, those that wait in the lanes with them. Assumption 91. -/
def landingFill (l : Landing) : Nat := l.store.len + (l.lanes.map (fun b => b.len)).sum

/-- The count window that begins: its bits join the landing store (R233). Assumption 90. -/
def landFeeds (nl : Nat) (fs : List ClientFeed) (l : Landing) : Landing :=
  match orderFeeds nl fs with
  | none => { l with lanes := [], count := 0, aligned := false }
  | some os =>
    let (words, rest) := weave ((List.range nl).map (fun i => appendBits (l.lanes.getD i bitRunReset) (os.getD i bitRunReset)))
    { lanes := rest, store := appendBits l.store words, count := (os.map (fun b => b.len)).sum, aligned := true }

/-- The sender's choice for a slot: T bits of the landing store while the count window that has ended held aligned data on all lanes; else
AIS with T_nom zeros, and the store keeps no more than its target fill (R234, R240; assumption 91). Assumptions 41 and 90. -/
def chooseBits (slot tnom lim nl : Nat) (up : Bool) (fs : List ClientFeed) (l : Landing) : Landing × (Nat × Bool × BitRun) :=
  let n := landFeeds nl fs l
  if l.aligned && up then
    let t := chooseT tnom lim l.count (landingFill l)
    let (out, rest) := takeBits t n.store
    ({ n with store := rest }, (slot, false, ⟨t, out.bits * 2 ^ (t - out.len)⟩))
  else
    let keep := if n.aligned then fillTarget tnom - (n.lanes.map (fun b => b.len)).sum else 0
    ({ n with store := lastBits keep n.store }, (slot, true, ⟨tnom, 0⟩))

/-! ### The scullery store (R233, R240, R270) -/

/-- Bits laid onto `nl` lanes, 32-bit words in turn, from a place in the round of the lanes on (R233). -/
def layLanes (nl : Nat) : Nat → Nat → BitRun → List BitRun → List BitRun
  | 0, _, _, ls => ls
  | n + 1, p, b, ls =>
    if b.len = 0 then ls
    else
      let (w, rest) := takeBits (32 - p % 32) b
      layLanes nl n ((p + w.len) % (32 * nl)) rest (ls.modify (p / 32 % nl) (fun l => appendBits l w))

/-- One slot of play-out: the stream joins the store, and the lanes take bits at the mean of T over the last 64 slots, trimmed (R240;
assumption 92). -/
def playScullery (tnom nl : Nat) (b : BitRun) (y : Scullery) : Scullery :=
  let ts := (b.len :: y.ts).take 64
  let store := appendBits y.store b
  let due := y.owed + (64 * ts.sum / ts.length : Nat) + Config.sculleryTrim tnom store.len
  let (out, rest) := takeBits (due / 64).toNat store
  { store := rest, ts := ts, owed := due % 64, place := (y.place + out.len) % (32 * nl)
    lanes := layLanes nl (out.len / 32 + 2) y.place out (List.replicate nl bitRunReset) }

end Sys2Proof.Machine
end

