-- ==== Sys2Proof/Machine/RxOps.lean ====
section
/-! DEFINITION. The receive side's shared operations: lanes, header checks, the header filter, the grant comparison and the ledger
entry (R196 to R216). -/

namespace Sys2Proof.Machine

/-- The loss threshold of a burst lane, in hundredths of a dBm (R197, R562). Assumption 109. -/
def burstThreshold : Int := -2800 + (Config.darkDeclare.val : Int)

/-- Counts on the statistics of a sender on a plane (R220). -/
def countSender (p tn i n : Nat) (s : State) : State :=
  modRx (fun x => { x with senders := tabMod (List.replicate 9 0) x.senders (32 * p + tn) (bump i n) }) s

/-- The record of a lane in the slot in hand, and a record rewritten. -/
def recordOf (r : Nat) (s : State) : RxRecord := tabGet rxRecordReset s.rx.records r
def modRecord (r : Nat) (g : RxRecord → RxRecord) (s : State) : State :=
  modRx (fun x => { x with records := tabMod rxRecordReset x.records r g }) s

/-- The instant of a cycle of a slot. -/
def cycleInstant (slot cycle : Nat) (s : State) : Nat := s.clock.slotAt + slot * slotCc + cycle - s.clock.slot * slotCc

/-- Lets time pass up to a cycle of a slot. -/
def toCycle (slot cycle : Nat) (s : State) : State := advanceTo (cycleInstant slot cycle s) s

/-- Takes a slot in hand: what an earlier slot has left is forgotten. -/
def openRxSlot (slot : Nat) (s : State) : State :=
  if s.rx.slot = some slot then s else modRx (fun x => { x with slot := some slot, records := [] }) s

/-- The membership bits in force in a slot (R214). -/
def memberBits (slot : Nat) (x : Rx) : Nat := if x.memberAt ≤ slot then x.memberNext else x.member

/-! ### Header checks (R70 to R75) -/

/-- A field of a burst header. -/
def hdr (h off width : Nat) : Nat := fieldAt 272 h off width

/-- sfn_low and slot name the slot (R75 step 5). -/
def hdrSlotOk (slot h : Nat) : Bool := hdr h 96 16 == sfnOf slot % 65536 && hdr h 112 7 == slotNoOf slot

/-- Version and type are defined (R75 steps 3 and 4). -/
def hdrTypeOk (h : Nat) : Bool := hdr h 0 4 == 1 && 1 ≤ hdr h 4 4 && hdr h 4 4 ≤ 6

/-- fill is in range for the types that state it (R72). -/
def fillOk (type fill : Nat) : Bool :=
  if type = 1 then fill ≤ 6409 else if type = 3 ∨ type = 5 then 1 ≤ fill && fill ≤ 6409 else true

/-- The remaining field checks of R70 to R73 (R75 step 6). -/
def hdrFieldsOk (p h : Nat) : Bool :=
  let type := hdr h 4 4
  !(hdr h 8 1 == 1 && type != 4) && hdr h 9 5 ≤ 29 && hdr h 15 9 / 32 == p && !(hdr h 24 1 == 0 && hdr h 30 5 != 0) &&
    fillOk type (hdr h 131 13) && !(type == 2 && 16 < hdr h 138 5)

/-- A header fails steps 3 to 6 of R75. -/
def headerBad (p slot h : Nat) : Bool := !hdrTypeOk h || !hdrSlotOk slot h || !hdrFieldsOk p h

/-- The failure counts as a grant-integrity error (R70). -/
def headerIntegrity (slot h : Nat) : Bool := hdrTypeOk h && !hdrSlotOk slot h

/-! ### The header filter (R201 to R208) -/

/-- One lane on its way through the filter. -/
structure Judged where
  lane : Nat
  grant : Grant
  burst : Option RxBurst
  /-- The verdict, once it is given. -/
  verdict : Option Nat
  keep : Bool
  /-- The express group that the lane is reserved for (R205). -/
  reserved : Option Nat
  /-- Place in filter order, the cycle of the final verdict, and whether the lane is judged again (R201, R204). -/
  place : Nat
  cycle : Nat
  again : Bool
  noChannel : Bool
deriving DecidableEq, Repr

/-- Place in filter order of a lane in a slot, whose number 0 to 127 turns the order (R60, R201). -/
def filterPlace (slot r : Nat) : Nat :=
  let i := if r / 64 % 2 = 0 then r % 64 - 2 else 60 + r % 64
  4 * ((i / 4 + 31 - slotNoOf slot % 31) % 31) + i % 4

/-- The verdict that a lane gets without the filter (R203), none where the filter decides. -/
def plainVerdict (slot r : Nat) (gr : Grant) : Option RxBurst → Option Nat
  | none => some (if gr.kind = 4 then 8 else 0)
  | some b =>
    if gr.kind = 4 then some 8
    else if b.dark then some 0
    else if !b.delimiter then some 1
    else if !b.decodeOk then some 2
    else if headerBad (r / 64) slot b.header then some 3
    else none

/-- A header is a keep candidate (R205). -/
def keepCandidate (slot h : Nat) (s : State) : Bool :=
  hdr h 4 4 == 1 &&
    (if hdr h 24 1 = 0 then s.join.tn == some (hdr h 30 10) else maskBit (memberBits slot s.rx) (hdr h 30 10))

/-- A lane as it enters the filter; the lanes of a tile that is down are dark (R484). -/
def judge (slot r : Nat) (bursts : List RxBurst) (s : State) : Judged :=
  let gr := frozenGrant (r / 64) slot (r % 64) s
  let b := if tileDark (r / 128) s then none else bursts.find? (fun b => b.lane == r)
  let v := plainVerdict slot r gr b
  let again := (match b with | some b => v.isNone && b.early | none => false)
  let keep := (match b with | some b => v.isNone && keepCandidate slot b.header s | none => false)
  { lane := r, grant := gr, burst := b, verdict := v, keep := keep, reserved := receivedGroup gr s, place := filterPlace slot r,
    cycle := max 94 (85 + filterPlace slot r / 4), again := again, noChannel := false }

/-- The number of lanes of a list that come before one by a key. -/
def rankOf (key : Judged → Nat) (js : List Judged) (j : Judged) : Nat := (js.filter (fun o => key o < key j)).length

/-- Re-judgement in filter order: the first 36 lanes in cycles 115 to 123, the others LATE (R204). -/
def rejudge (js : List Judged) (j : Judged) : Judged :=
  if !j.again then j
  else
    let n := rankOf (fun o => o.place) (js.filter (fun o => o.again)) j
    if n < 36 then { j with cycle := 115 + n / 4 } else { j with verdict := some 9, cycle := 124 }

/-- Order in which final verdicts are given (R208). -/
def verdictKey (j : Judged) : Nat := 1024 * j.cycle + 512 * bitNat j.again + j.place

/-- The reserved express lanes of a slot, as its freeze point finds them (R205, R207). Assumption 88. -/
def reservedLanes (slot : Nat) (s : State) : List Nat :=
  (List.range 1024).filter (fun r => 2 ≤ r % 64 && (receivedGroup (frozenGrant (r / 64) slot (r % 64) s) s).isSome)

/-- The lanes of a tile for which a channel is reserved in a slot: the first 64 (R207). Assumption 88. -/
def channelLanes (slot t : Nat) (s : State) : List Nat := ((tabGet [] s.rx.reserved slot).filter (fun r => r / 128 == t)).take 64

/-- A reserved express lane for which no channel was reserved at the freeze point has none (R207; assumption 88). -/
def reserveChannel (channels : List Nat) (j : Judged) : Judged := { j with noChannel := j.reserved.isSome && !channels.contains j.lane }

/-- The final verdict of a lane in its tile, which has so many channels left unreserved (R203, R205, R208). -/
def finalVerdict (free : Nat) (js : List Judged) (j : Judged) : Judged :=
  match j.verdict with
  | some _ => j
  | none =>
    let n := rankOf verdictKey (js.filter (fun o => o.keep && o.verdict.isNone)) j
    { j with verdict := some (if j.keep then (if n < free then 5 else 7) else if j.reserved.isSome then 6 else 4) }

/-- The filter of one tile, with the lanes that have a reserved channel. -/
def filterTile (channels : List Nat) (js : List Judged) : List Judged :=
  let js := (js.map (rejudge js)).map (reserveChannel channels)
  js.map (finalVerdict (64 - channels.length) js)

/-- Burst lanes with a burst or a grant, in ascending order. -/
def lanesInPlay (slot : Nat) (bursts : List RxBurst) (s : State) : List Nat :=
  (List.range 1024).filter (fun r =>
    2 ≤ r % 64 && (bursts.any (fun b => b.lane == r) || (frozenGrant (r / 64) slot (r % 64) s).kind != 0))

/-- The filters of all tiles; the lanes in ascending order. Assumption 47. -/
def filterAll (slot : Nat) (bursts : List RxBurst) (s : State) : List Judged :=
  let js := (lanesInPlay slot bursts s).map (fun r => judge slot r bursts s)
  (List.range 8).flatMap (fun t => filterTile (channelLanes slot t s) (js.filter (fun j => j.lane / 128 == t)))

/-! ### Grant comparison and ledger entry (R215, R216) -/

/-- A type is compatible with the kind of a grant (R215). -/
def compatible (kind type : Nat) : Bool :=
  if kind = 1 then type == 1 || type == 6
  else if kind = 2 then type == 2 || type == 6
  else if kind = 3 then type == 3 || type == 5 || type == 6
  else false

/-- A header was decoded on the lane. -/
def decodedLane (j : Judged) : Bool :=
  match j.burst with
  | some b => !b.dark && b.delimiter && b.decodeOk
  | none => false

/-- The transmitter whose launched burst a lane's frozen grant expects (R186). -/
def ownLaunched (slot : Nat) (j : Judged) (s : State) : Option Nat :=
  let x := 32 * (j.lane / 64) + j.grant.k
  if 1 ≤ j.grant.kind ∧ j.grant.kind ≤ 3 ∧ s.join.tn = some j.grant.tn ∧ s.rx.launched.contains (slot, x) then some x else none

/-- cmp of a lane (R215). -/
def compareGrant (j : Judged) : Nat :=
  let v := j.verdict.getD 0
  let expects := j.grant.kind == 1 || j.grant.kind == 2 || j.grant.kind == 3
  if v = 8 ∨ v = 2 then 0
  else if v = 0 ∨ v = 1 then (if expects then 3 else 0)
  else if j.grant.kind = 0 then 2
  else
    match j.burst with
    | none => 0
    | some b =>
      let h := b.header
      if hdr h 9 5 == j.grant.tn && hdr h 15 9 == 32 * (j.lane / 64) + j.grant.k && compatible j.grant.kind (hdr h 4 4) then 0
      else 1

/-- The record of a lane: wavelength error with light, arrival with a delimiter, header fields where one was decoded (R199, R216). -/
def laneRecord (slot : Nat) (j : Judged) (s : State) : RxRecord :=
  let v := j.verdict.getD 0
  let base := { rxRecordReset with
    verdict := v, cmp := compareGrant j, kind := j.grant.kind, grantTn := j.grant.tn, noChannel := j.noChannel,
    own := ownLaunched slot j s }
  match j.burst with
  | none => base
  | some b =>
    let base := if b.dark then base else { base with wlErr := clampInt (-2047) 2047 b.wlErr }
    let base := if b.dark || !b.delimiter then base else { base with arrival := clampInt (-768) 768 b.arrival }
    if !decodedLane j then base
    else
      { base with
        decoded := true, type := hdr b.header 4 4, tn := hdr b.header 9 5, noTn := hdr b.header 8 1 == 1, x := hdr b.header 15 9,
        corr := min 4 b.corr, header := b.header, bits := if v = 5 then b.bits else 0 }

/-- The 64 bits of a ledger entry (R216). -/
def entryBits (r : RxRecord) : BitVec 64 :=
  BitVec.ofNat 64 (r.verdict % 16 * 2 ^ 60 + r.type % 16 * 2 ^ 56 + r.tn % 32 * 2 ^ 51 + bitNat r.noTn * 2 ^ 50 + r.x % 512 * 2 ^ 41 +
    r.cmp % 4 * 2 ^ 39 + r.corr % 8 * 2 ^ 36 + min 255 r.rsCorr * 2 ^ 28 + min 10 r.uncorr * 2 ^ 24 + unsignedOf 12 r.wlErr * 2 ^ 12 +
    unsignedOf 11 r.arrival * 2)

end Sys2Proof.Machine
end

