-- ==== Sys2Proof/Machine/CueFrame.lean ====
section
/-! DEFINITION. The evaluation point of the cue lanes: defects, ownership, the root, commits, references, stage messages and the servo's
measurements, in that order (R83, R94 to R104, R128 to R136, R152 to R156, R398). -/

namespace Sys2Proof.Machine

/-! ### Ownership (R132, R136) -/

/-- The ownership state that the claims of both hubs give (R132). Assumption 44. -/
def claimedState (p : Nat) (s : State) : Ownership :=
  if claims .a p s then
    if claims .b p s then
      let d := ((laneOf .a p s).epoch + 65536 - (laneOf .b p s).epoch) % 65536
      if d = 0 ∨ d = 32768 then .contested else if d < 32768 then .ownedA else .ownedB
    else .ownedA
  else if claims .b p s then .ownedB
  else .unowned

/-- The hub of an ownership state. -/
def ownerHub : Ownership → Option Hub
  | .ownedA => some .a
  | .ownedB => some .b
  | .unowned => none
  | .contested => none

/-- The event of a change of ownership: with an owner, the held condition clears, or an INFO record; without one, MAJOR is held, and raised
again when it is held already (R136). Assumption 44. -/
def ownershipEvent (p : Nat) (new : Ownership) (s : State) : State :=
  let src := srcPlane p 2
  if (ownerHub new).isNone then
    hold 0x0209 src .major 0 0 (modAlarm src (fun e => { e with conds := e.conds.filter (fun c => c.code != 0x0209) }) s)
  else if conditionHeld 0x0209 src 0 s then clear 0x0209 src 0 0 s
  else raise 0x0209 src .info 0 0 s

/-- The ownership state of a plane is set; until the plane has first had an owner or been contested since a reset, its event is not held
(R132, R136). Assumption 44. -/
def setOwnership (p : Nat) (s : State) : State :=
  let m := planeOf p s
  let new := claimedState p s
  if new = m.own then (if m.ownSeen then s else clear 0x0209 (srcPlane p 2) 0 0 s)
  else
    let last := (match ownerHub new with | some h => some h | none => m.lastOwner)
    ownershipEvent p new
      (modPlane p (fun m => { m with own := new, lastOwner := last, ownSeen := true, changes := min 255 (m.changes + 1) }) s)

/-! ### Receive slot references (R62, R128, R130) -/

/-- The hub whose lane serves as a plane's reference: the owner's, and without an owner the one that served before, or another that
serves (R62, R135). -/
def servingHub (p : Nat) (s : State) : Option Hub :=
  match ownerHub (planeOf p s).own with
  | some h => if laneServes h p s then some h else none
  | none =>
    match (planeOf p s).refHub with
    | some h =>
      if laneServes h p s then some h else if laneServes (otherHub h) p s then some (otherHub h) else none
    | none => if laneServes .a p s then some .a else if laneServes .b p s then some .b else none

/-- The reference lies inside the alignment window and within 32 line bits of where it was (R130). -/
def referenceKept (m : PlaneMachine) (align : Option Int) (cycle : Int) (bits : Nat) : Bool :=
  (match align with | none => true | some r => decide (-16 ≤ cycle - r ∧ cycle - r < 16)) &&
    decide ((32 * cycle + bits - m.suspRef).natAbs ≤ 32)

/-- A plane loses its reference: an ACTIVE plane is SUSPENDED for up to 1 s (R128, R130). -/
def loseReference (now : Nat) (m : PlaneMachine) : PlaneMachine :=
  if m.phase = .active then
    { stopTimers m with
      phase := .suspended, refHub := none, suspRef := 32 * m.refCycle + m.refBits, tSusp := some (now + secCc) }
  else { m with refHub := none }

/-- A SUSPENDED plane whose reference is back resumes, or goes DOWN (R130). -/
def referenceBack (p : Nat) (cycle : Int) (bits : Nat) (s : State) : State :=
  let m := planeOf p s
  if m.phase ≠ .suspended then s
  else if referenceKept m s.join.alignRef cycle bits then modPlane p (fun m => { stopTimers m with phase := .active }) s
  else modPlane p planeDown (rangingEvent p .major s)

/-- The receive slot reference of a plane at an evaluation point. -/
def setReference (p : Nat) (s : State) : State :=
  match servingHub p s with
  | none => modPlane p (loseReference s.clock.now) s
  | some h =>
    let l := laneOf h p s
    referenceBack p l.refCycle l.refBits
      (modPlane p (fun m => { m with refHub := some h, refCycle := l.refCycle, refBits := l.refBits }) s)

/-! ### Commits (R150, R152, R156) -/

/-- Numbers of `n` items of `width` bytes from byte `a` of the information area. -/
def infoItems (f : CueFrame) (a width n : Nat) : List Nat := (List.range n).map (fun i => infoNat f (a + width * i) width)

/-- The cue sheet entries of a frame; none stand with CSV = 0 (R90, R92). -/
def frameEntries (f : CueFrame) : List Nat := if cueField f 7 1 = 1 then infoItems f 0 4 62 else []

/-- The frame of a hub on a plane among those evaluated. -/
def evalOf (es : List LaneEval) (h : Hub) (p : Nat) : Option LaneEval := es.find? (fun e => e.frame.hub == h && e.frame.plane == p)

/-- The entries of a frame are taken: it is good and used, and codeword 0 has decoded (R93, R101, R152). -/
def entriesTaken (e : LaneEval) : Bool := e.used && e.frame.decoded.contains 0

/-- The non-owner's entries are compared with the owner's of the same slot (R156). -/
def mirrorCheck (p : Nat) (owner : CueFrame) (other : Option LaneEval) (s : State) : State :=
  match other with
  | none => s
  | some o =>
    if entriesTaken o && cueField o.frame 7 1 == 1 && cueField owner 7 1 == 1 && cueSlot o.frame == cueSlot owner then
      compareMirror p (sfnOf (cueSlot owner)) (frameEntries owner) (frameEntries o.frame) s
    else s

/-- The commit of the owner's frame (R152): its entries, none standing with CSV = 0 (R90; assumption 79), each that fails a check counted,
its standing records, and the mirror. -/
def commitFrame (p : Nat) (f : CueFrame) (other : Option LaneEval) (s : State) : State :=
  let n := cueSlot f
  let es := frameEntries f
  let (entries, bad) := sheetEntries es
  let s := repeatOn (integrityError p) bad (commitEntries p (n + 256) 0 ⟨es.isEmpty, entries⟩ s)
  let s := if f.decoded.contains 1 then takeRecords p (sfnOf n) (infoItems f 256 16 64) s else s
  mirrorCheck p f other s

/-- Standing sheets that have lapsed are forgotten (R150). -/
def lapseSheets (p : Nat) (s : State) : State :=
  let sfn := sfnOf s.clock.slot
  modGrants p (fun g => { g with sheets := tabMap none (fun _ o => match o with | none => none | some h => if sfn < h.expiry then some h else none) g.sheets }) s

/-- The commit point of a plane: the owner's frame, or entries that are absent (R152). Assumption 45. -/
def commitPlane (slot : Nat) (es : List LaneEval) (p : Nat) (s : State) : State :=
  let s := lapseSheets p s
  match ownerHub (planeOf p s).own with
  | none => commitAbsent p (slot + 256) s
  | some h =>
    match evalOf es h p with
    | none => commitAbsent p (slot + 256) s
    | some e =>
      if entriesTaken e then commitFrame p e.frame (evalOf es (otherHub h) p) s
      else commitAbsent p (slot + 256) s

/-! ### Stage messages (R94, R95, R133, R138) -/

/-- The modes that a message of a type may have; none for an undefined type (R138, R252, R371). -/
def messageModes (type : Nat) : List Nat :=
  if type = 0x0280 then [2]
  else if 0x0281 ≤ type ∧ type ≤ 0x0283 then [3]
  else if 0x0284 ≤ type ∧ type ≤ 0x0287 then [1]
  else if type = 0x0288 then [1, 3]
  else if 0x0680 ≤ type ∧ type ≤ 0x0682 then [1]
  else if type = 0x0A80 then [1, 3]
  else []

/-- The plane that a plane-bound message names (R133, R139). -/
def boundPlane (m : StageMsg) : Option Nat :=
  if m.type = 0x0281 then some (bodyField m 288 4)
  else if m.type = 0x0280 ∨ m.type = 0x0284 ∨ m.type = 0x0285 ∨ m.type = 0x0287 then some (bodyField m 0 4)
  else none

/-- The terminal takes a message that has its mode: its own serial opens a body of mode 0b11, and the sending hub owns the plane that a
plane-bound message names (R94, R133). Assumption 31. -/
def messageTaken (m : StageMsg) (s : State) : Bool :=
  (m.mode != 3 || ownSerial m s) && (match boundPlane m with | none => true | some p => ownsPlane m.hub p s)

/-- A message with the same hub and identity arrived within the last 256 slots (R95). Assumption 31. -/
def duplicateMsg (n : Nat) (m : StageMsg) (s : State) : Bool :=
  s.cue.seen.any (fun e => e.1 == m.hub && e.2.1 == m.msgId && e.2.2 ≤ n && n ≤ e.2.2 + 256)

/-- A message is handed to Zordin: it waits, and a task that handles it is ready (R447). -/
def postMessage (m : StageMsg) (s : State) : State :=
  createTask messageLevel (messageTask m) { s with cue := { s.cue with inbox := s.cue.inbox ++ [m] } }

/-- One message of the list, with the slot index of its frame (R94, R95, R138). A DISCOVERY_OPEN of a hub that does not own its plane is
passed on, to be discarded and counted (R118). -/
def takeMessage (n destTn : Nat) (m : StageMsg) (s : State) : State :=
  if m.mode = 1 ∧ s.join.tn ≠ some destTn then s
  else if !(messageModes m.type).contains m.mode then countLane m.hub m.plane 4 1 s
  else if m.type = 0x0280 && !messageTaken m s then postMessage m s
  else if !messageTaken m s || duplicateMsg n m s then s
  else
    postMessage m { s with cue := { s.cue with
      seen := (s.cue.seen.filter (fun e => n ≤ e.2.2 + 256 && !(e.1 == m.hub && e.2.1 == m.msgId))) ++ [(m.hub, m.msgId, n)] } }

/-- The walk of the message list from byte `off` (R94). Assumption 31. -/
def walkMessages (f : CueFrame) : Nat → Nat → State → State
  | 0, _, s => s
  | fuel + 1, off, s =>
    if 5368 < off ∨ !areaOk f off 8 then s
    else
      let hd := infoNat f off 8
      let mode := fieldAt 64 hd 0 2
      let len := fieldAt 64 hd 24 12
      if mode = 0 then s
      else if 5376 < off + 8 + len then countLane f.hub f.plane 3 1 s
      else
        let m : StageMsg := ⟨f.hub, f.plane, sfnOf (cueSlot f), mode, fieldAt 64 hd 8 16, fieldAt 64 hd 48 16, infoBytes f (off + 8) len⟩
        let s :=
          if len ≠ 0 ∧ !areaOk f (off + 8) len then countLane f.hub f.plane 3 1 s
          else takeMessage (cueSlot f) (fieldAt 64 hd 3 5) m s
        walkMessages f fuel (off + 8 + 8 * ((len + 7) / 8)) s

/-- The message lists of the frames whose content is used, plane by plane. Assumption 31. -/
def walkFrames : List LaneEval → State → State
  | [], s => s
  | e :: es, s => walkFrames es (if e.used then walkMessages e.frame 512 1280 s else s)

/-! ### Measurements and ledger (R200, R216, R398) -/

/-- The offset of a used frame toward its hub's time, measured in state `s0`, before the slot boundary (R398, R399). -/
def sampleFrame (slot : Nat) (s0 : State) (e : LaneEval) (s : State) : State :=
  let f := e.frame
  if e.used && timeUsable f.hub f.plane s then
    let tod : Int := (cueField f 80 48 * 10 ^ 9 + cueField f 128 30) * 2 ^ 48 + cueField f 160 16 * 2 ^ 32
    let cycles : Int := f.refCycle + ((slot : Int) - s0.clock.slot) * slotCc
    addOffset f.hub f.plane (frameOffset f.plane tod cycles f.refBits s0) s
  else s

/-- The offsets of all frames. -/
def sampleFrames (slot : Nat) (s0 : State) : List LaneEval → State → State
  | [], s => s
  | e :: es, s => sampleFrames slot s0 es (sampleFrame slot s0 e s)

/-- The ledger record of a cue lane: good, or errored or with LOS declared; its wavelength error is measured where there is light (R199,
R200, R216). -/
def cueRecord (e : LaneEval) (s : State) : RxRecord :=
  let ok := e.good && !(laneOf e.frame.hub e.frame.plane s).los
  { rxRecordReset with
    verdict := if ok then 10 else 11, tn := 30 + hubCode e.frame.hub, uncorr := min 10 (10 - e.frame.decoded.length)
    wlErr := if (laneOf e.frame.hub e.frame.plane s).darkRun = 0 then clampInt (-2047) 2047 e.frame.wlErr else 0 }

/-- The cue lanes' records join those of the slot. -/
def recordFrames (slot : Nat) : List LaneEval → State → State
  | [], s => s
  | e :: es, s =>
    recordFrames slot es (modRx (fun x =>
      { x with records := tabSet rxRecordReset x.records (64 * e.frame.plane + hubCode e.frame.hub) (cueRecord e s) }) s)

/-! ### The evaluation point -/

/-- The next instant that lies `cycle` cycles after a slot start. -/
def nextCycle (cycle : Nat) (s : State) : Nat :=
  let t := s.clock.slotAt + cycle
  if s.clock.now < t then t else t + slotCc

/-- The evaluation point of slot `slot` with a phase: `cycle` cycles after the aligned start of the next slot. While no lane is in SYNC the
slots run free (R96, R97). -/
def toEvaluation (slot cycle : Nat) (s : State) : State :=
  if anySync s then advanceTo (s.clock.slotAt + cycle + (slot + 1 - s.clock.slot) * slotCc) s else advanceTo (nextCycle cycle s) s

/-- The slot index that a good frame of the root's reference lane names (R100). -/
def rootSlot (cs : List CueSlot) (s : State) : Option Nat :=
  match rootLane s with
  | none => none
  | some (h, p) =>
    match judgedFrame cs h p s with
    | none => none
    | some f => if cueGood f (laneOf h p s) then some (cueSlot f) else none

/-- Commits and messages of an aligned evaluation point, the references after the commits (R94, R152, R154). -/
def takeContents (slot : Nat) (es : List LaneEval) (s : State) : State :=
  let s := forEach (commitPlane slot es) (List.range 16) s
  walkFrames es (forEach setReference (List.range 16) s)

/-- Measurements and ledger records of an aligned evaluation point, given the state before it (R200, R398). -/
def measureFrames (slot : Nat) (s0 : State) (es : List LaneEval) (s : State) : State :=
  let s := noteUnusable (sampleFrames slot s0 es s)
  if (s.rx.slot.getD 0) ≤ slot then recordFrames slot es (openRxSlot slot s) else s

/-- CUE_FRAME: the evaluation points that lie `cycle` cycles after the end of slot `slot` (R96, R97); the order is that of R154. What lies
off the aligned slot start is that of lanes outside SYNC, whose content is not used. A core die without power evaluates nothing. -/
def execCueFrame (slot cycle : Nat) (lanes : List CueSlot) (s : State) : Result :=
  if !s.start.railsUp then .next s
  else
    let s0 := s
    let s := toEvaluation slot cycle s
    let (es, s) := evalLanes lanes (cycle == 0) (rootSlot lanes s) cueLanes s
    let s := rootUpdate (forEach setOwnership (List.range 16) s)
    let s := if cycle = 0 then takeContents slot es s else s
    let s := watchPlanes (cueAcqDone (forEach tryWaitWindow (List.range 16) s))
    .next (if cycle = 0 then measureFrames slot s0 es s else s)

end Sys2Proof.Machine
end

