-- ==== Sys2Proof/Machine/EventRows.lean ====
section
/-! DEFINITION. The event commands 0x0D01 to 0x0D07 (R487 to R489) and the events of the coalescer, the black box, the interrupts
and the alarm window (R475 to R481). -/

namespace Sys2Proof.Machine

/-- The destination index of a source (R489). -/
def destIndex (src : Source) : Nat := sourceCode src

/-- A bucket rate and burst after EVT_CONFIG: 0 keeps the current value (R488). -/
def newRate (w : Word) (old : Nat × Nat) : Nat × Nat :=
  (if fieldOf w 0 20 = 0 then old.1 else fieldOf w 0 20, if fieldOf w 20 12 = 0 then old.2 else fieldOf w 20 12)

/-- The settings of a function after EVT_CONFIG (R488). -/
def newDestConfig (req : List Word) (c : DestConfig) : DestConfig :=
  let m := fieldOf (wordAt req 0) 0 3
  let h := fieldOf (wordAt req 1) 0 10
  { minSev := if m = 7 then c.minSev else m, holdoff := if h = 1023 then c.holdoff else h,
    rates := (List.range 4).map (fun i => newRate (wordAt req (2 + i)) (c.rates.getD i (0, 0))) }

/-- The fields of EVT_CONFIG are in range (R488). -/
def evtConfigOk (req : List Word) : Bool :=
  let m := fieldOf (wordAt req 0) 0 3
  let h := fieldOf (wordAt req 1) 0 10
  m != 5 && m != 6 && (h ≤ 1000 || h == 1023) && (List.range 4).all (fun i => fieldOf (wordAt req (2 + i)) 0 20 ≤ 1000000)

/-- EVT_CONFIG: sets the issuing destination's values; its buckets refill to the new burst; the sideband sets only min_sev, to 0
or 1 (R488, R489). -/
def execEvtConfig (src : Source) (tag : Nat) (req : List Word) (s : State) : Result :=
  let i := destIndex src
  command src tag req ⟨6, true, false⟩ (fun s =>
    if !evtConfigOk req then refuse .badArg s
    else if src = .sideband then
      if 1 < fieldOf (wordAt req 0) 0 3 then refuse .badArg s
      else okay [] (modDest i (fun d => { d with cfg := { d.cfg with minSev := fieldOf (wordAt req 0) 0 3 } }) s)
    else
      okay [] (modDest i (fun d =>
        let c := newDestConfig req d.cfg
        { d with cfg := c, buckets := c.rates.map (bucketFull s.clock.now) }) s)) s

/-- ALARM_READ (R488, R489). -/
def execAlarmRead (src : Source) (tag : Nat) (req : List Word) (s : State) : Result :=
  let first := fieldOf (wordAt req 0) 0 11
  let count := fieldOf (wordAt req 0) 16 6
  command src tag req ⟨1, true, false⟩ (fun s =>
    if count == 0 || 31 < count || 2048 < first + count then refuse .badArg s
    else okay ((List.range count).flatMap (fun i => alarmWords (alarmEntry (first + i) s))) s) s

/-- The words of ALARM_SUMMARY (R488). -/
def summaryWords (s : State) : List Word :=
  let crit := s.ev.alarms.filter (fun e => match shownOf e.2.conds with | some c => c.sev == 0 | none => false)
  [pack [(0, crit.length), (16, countShown (fun c => c.sev == 1) s)],
   pack [(0, countShown (fun c => c.sev == 2) s), (16, countShown (fun c => 3 ≤ c.sev) s)],
   match crit with
   | [] => 0
   | e :: _ => pack [(0, e.1), (31, 1)]]

/-- ALARM_SUMMARY (R488, R489). -/
def execAlarmSummary (src : Source) (tag : Nat) (req : List Word) (s : State) : Result :=
  command src tag req ⟨0, true, false⟩ (fun s => okay (summaryWords s) s) s

/-- The counters of a class in the order of R487. -/
def classWords (k : ClassCounters) : List Word :=
  [wordOf k.delivered, wordOf k.lostBucket, wordOf k.lostQueue, wordOf k.filtered]

/-- EVT_COUNTERS (R487 to R489). -/
def execEvtCounters (src : Source) (tag : Nat) (req : List Word) (s : State) : Result :=
  let set := fieldOf (wordAt req 0) 0 2
  let clear := bitOf (wordAt req 0) 8
  command src tag req ⟨1, readOrPf0 src clear, false⟩ (fun s =>
    if set = 3 then
      okay [wordOf s.ev.cntEmitted, wordOf s.ev.cntUncoalesced, wordOf s.ev.cntBlackLost]
        (cleared clear (fun s => { s with ev := { s.ev with cntEmitted := 0, cntUncoalesced := 0, cntBlackLost := 0 } }) s)
    else
      okay ((destOf set s).counters.flatMap classWords)
        (cleared clear (modDest set (fun d => { d with counters := List.replicate 5 classCountersReset })) s)) s

/-- The CRC-16 of a black-box entry over its bytes 0 to 29 (R480). -/
def blackBoxCrc (ws : List Word) : Nat := crc16 (((bytesOfWords ws).take 30).flatMap bitsOfByte)

/-- A black-box entry of a record: phase 0, and the CRC in bits 31:16 of word 7 (R480). -/
def blackBoxEntry (slotId : Nat) (r : EventRecord) : List Word :=
  let ws := recordWords 0 slotId r
  ws.take 7 ++ [pack [(0, fieldOf (wordAt ws 7) 0 16), (16, blackBoxCrc ws)]]

/-- One entry as BLACKBOX_READ returns it: its valid flag and its words; entries beyond those held read 0 (R488, R489). -/
def blackBoxWords (i : Nat) (s : State) : List Word :=
  match s.ev.blackBox[i]? with
  | none => List.replicate 9 0
  | some ws => wordOf (bitNat (fieldOf (wordAt ws 7) 16 16 == blackBoxCrc ws)) :: ws

/-- BLACKBOX_READ (R488, R489). -/
def execBlackboxRead (src : Source) (tag : Nat) (req : List Word) (s : State) : Result :=
  let first := fieldOf (wordAt req 0) 0 8
  let count := fieldOf (wordAt req 0) 8 4
  command src tag req ⟨1, true, false⟩ (fun s =>
    if count == 0 || 8 < count then refuse .badArg s
    else okay (wordOf s.ev.blackBox.length :: (List.range count).flatMap (fun i => blackBoxWords (first + i) s)) s) s

/-- BLACKBOX_CLEAR: the black box is empty; staged records stay staged (R489). -/
def execBlackboxClear (src : Source) (tag : Nat) (req : List Word) (s : State) : Result :=
  command src tag req ⟨0, pf0Only src, false⟩ (fun s => okay [] { s with ev := { s.ev with blackBox := [] } }) s

/-- EVT_TEST raises the test event at source 1930 (R485, R489). -/
def execEvtTest (src : Source) (tag : Nat) (req : List Word) (s : State) : Result :=
  let sev := fieldOf (wordAt req 0) 0 3
  command src tag req ⟨2, pf0Only src, false⟩ (fun s =>
    if 4 < sev then refuse .badArg s else okay [] (raise 0x0D06 1930 (sevOf sev) 0 (wordAt req 1) s)) s

/-! ### Events -/

/-- EVENT_RAISE: a raise or a clear of a condition or event reaches its alarm entry and the coalescer (R476, R477). -/
def execEventRaise (clear held : Bool) (code source : Nat) (severity : Severity) (detail4 detail5 : Word) (s : State) : Result :=
  if clear then .next (Sys2Proof.Machine.clear code source detail4 detail5 s)
  else if held then .next (hold code source severity detail4 detail5 s)
  else .next (raise code source severity detail4 detail5 s)

/-- COALESCE_WINDOW_CLOSE: the window of a key closes 1 ms after it opened; with folded raises a summary is emitted and a window
with its severity opens (R477). -/
def execCoalesceWindowClose (source code : Nat) (detail : Word) (s : State) : Result :=
  match s.ev.windows.find? (fun w => windowMatches source code detail w && w.code == code) with
  | none => .next s
  | some w =>
    let s := advanceTo (w.opened + msCc) s
    let s := { s with ev := { s.ev with windows := s.ev.windows.filter (fun x => !windowMatches source code detail x) } }
    if w.count = 0 then .next s
    else
      let s := emitSummary w s
      match openWindow source code w.detail4 (some w.maxSev) s with
      | some s => .next s
      | none => .next s

/-- EVT_LOST: a function that has lost records raises EVT_LOST, at most once per 100 ms (R478). -/
def execEvtLost (func : Nat) (s : State) : Result :=
  let d := destOf func s
  if d.lost = 0 then .next s
  else
    let s := (match d.lostAt with
      | none => s
      | some t => advanceTo (t + 100 * msCc) s)
    let s := modDest func (fun d => { d with lost := 0, lostAt := some s.clock.now }) s
    .next (raise 0x0D05 1930 .info (wordOf func) (wordOf (min d.lost (2 ^ 32 - 1))) s)

/-- BLACKBOX_WRITE: the oldest staged record is written over the oldest of 256 entries (R480). -/
def execBlackboxWrite (s : State) : Result :=
  match s.ev.staged with
  | [] => .next s
  | r :: rs =>
    .next { s with ev := { s.ev with
      staged := rs, blackBox := (blackBoxEntry s.pins.slotId r :: s.ev.blackBox).take 256 } }

/-- MSIX_HOLDOFF_END: the holdoff of a vector ends and a waiting message is sent (R481). -/
def execMsixHoldoffEnd (func vector : Nat) (s : State) : Result :=
  let x := tabGet vectorReset (funcBox func s).msix vector
  match x.holdEnd with
  | none => .next s
  | some t =>
    let s := advanceTo t s
    if x.waiting then .next (sendMessage func vector s)
    else .next (modFunc func (fun b => { b with msix := tabSet vectorReset b.msix vector { x with holdEnd := none } }) s)

/-- ALM_STATE_READ: a read of word 0 of an alarm entry loads the function's latch with words 1 to 3 (R475). -/
def execAlmStateRead (func source : Nat) (s : State) : Result :=
  let ws := alarmWords (alarmEntry source s)
  .next { modFunc func (fun b => { b with latch := ws.drop 1 }) s with readBack := ws.take 1 }

end Sys2Proof.Machine
end

