-- ==== Sys2Proof/Machine/LaunchTime.lean ====
section
/-! DEFINITION. When a burst of a slot is launched on a plane (R62, R63, R106). -/

namespace Sys2Proof.Machine

/-- Instant of the aligned start of slot `n`, past or to come. -/
def alignedStart (n : Nat) (s : State) : Int := (s.clock.slotAt : Int) + ((n : Int) - s.clock.slot) * slotCc

/-- Where offset 0 of slot `n` leaves on plane `p` with a lead over the receive slot reference, in sixteenths of a line bit, 512 to a core
cycle (R61, R62, R106). -/
def launchSixteenth (p n : Nat) (lead : Int) (s : State) : Int :=
  let m := planeOf p s
  512 * (alignedStart n s + (m.refCycle - s.join.alignRef.getD m.refCycle)) + 16 * (m.refBits : Int) - lead

/-- RT_p less EqD_p, in sixteenths of a line bit. -/
def planeLead (p : Nat) (s : State) : Int := (planeRt p s : Int) - planeEqd p s

/-- The launch instant of slot `n` on plane `p`: the cycle in which its offset 0 leaves (R106). -/
def launchInstant (p n : Nat) (s : State) : Int := launchSixteenth p n (planeLead p s) s / 512

/-- The end of the light of a burst launched at an instant: offset 57,344 of its slot (R66). -/
def lightEnd (t : Int) : Int := t + slotCc

end Sys2Proof.Machine
end

