-- ==== Sys2Proof/Machine/SenseOps.lean ====
section
/-! DEFINITION. The conversion chain of R495 to R504: its grid, its filters, its samples and the multiplexer. -/

namespace Sys2Proof.Machine

/-- Rewrites the island, its chain, and one input. -/
def modIsland (g : Island → Island) (s : State) : State := { s with island := g s.island }
def modChain (g : Chain → Chain) (s : State) : State := modIsland (fun i => { i with chain := g i.chain }) s
def modInput (i : Nat) (g : SenseInput → SenseInput) (s : State) : State :=
  modIsland (fun x => { x with inputs := tabMod senseInputReset x.inputs i g }) s

/-- Counts on an input: samples, OPEN, faults, UNSETTLED, CLAMP (R510). -/
def countInput (i k n : Nat) (s : State) : State :=
  modInput i (fun x => { x with counters := x.counters.modify k (fun c => satAdd 32 c n) }) s

/-- Range of an input in its unit (R494). -/
def senseRange (i : Nat) : Int × Int :=
  [((0 : Int), (80000 : Int)), (0, 25000), (0, 16000), (-25000, 5000), (-40000, 150000), (-40000, 150000), (-40000, 125000),
    (-40000, 125000), (0, 1500000), (0, 4000000), (0, 1500000), (0, 1500000), (0, 1500000), (0, 4000000), (0, 1500000),
    (0, 1500000)].getD i (0, 0)

/-! ### The grid (R499) -/

/-- The chain emits outputs: the regulator is in NORMAL, some count is not 0, and in STANDBY the configuration allows it (R495). -/
def chainOn (s : State) : Bool :=
  !s.island.low && s.island.inForce.counts.any (fun n => n != 0) && (s.power.state != .standby || s.island.cfg.scan)

/-- The grid is the output time: the core is powered and the servo tracks or holds over (R499). -/
def gridIsOutput (s : State) : Bool := s.start.railsUp && s.time.phase != .unset

/-- Island time in ns (R86, R499). -/
def islandNs (s : State) : Nat := (s.clock.now - s.island.zero) * 4 / 7

/-- The cycles of 0.5 ms. -/
def halfMs : Nat := 875000

/-- The earliest instant of the next output: 0.5 ms after the previous one (R499). -/
def gridFrom (s : State) : Nat :=
  match s.island.chain.lastOut with
  | some t => t + halfMs
  | none => s.clock.now

/-- The next grid instant, and its TIME in ns: the first whole millisecond of the grid in force that lies at least 0.5 ms after the
previous output (R499). Assumption 56. -/
def nextGrid (s : State) : Nat × Nat :=
  let t := gridFrom s
  if gridIsOutput s then
    let ms := 10 ^ 6 * 2 ^ 48
    let inc := timeIncrement s.clock.rate
    let at_ : Int := (s.clock.outTime : Int) + ((t : Int) - s.clock.now) * inc
    let m := (at_.toNat + ms - 1) / ms
    (s.clock.now + (m * ms - s.clock.outTime + inc - 1) / inc, m * 10 ^ 6)
  else
    let m := (t - s.island.zero + msCc - 1) / msCc
    (s.island.zero + m * msCc, m * 10 ^ 6)

/-! ### The filters (R496, R497) -/

/-- One bit of the modulator through the integrators; +1 or -1. -/
def integrate (x : Int) : List Int → List Int
  | [] => []
  | a :: as => (a + x) :: integrate (a + x) as

/-- One decimated value through the combs: the value that leaves them, and their delays. -/
def combStage (x : Int) : List Int → Int × List Int
  | [] => (x, [])
  | d :: ds =>
    let (y, ds) := combStage (x - d) ds
    (y, x :: ds)

/-- Coefficient `n` of a bank, a signed 20-bit code (R501). -/
def coefCode (bank : Bool) (n : Nat) (c : Chain) : Nat :=
  (tabGet none (if bank then c.bankB else c.bankA) n).getD (fieldOf (Config.factoryCoef n) 0 20)
def coefAt (bank : Bool) (n : Nat) (c : Chain) : Int := signedOf 20 (coefCode bank n c)

/-- Tap `k` of the 32 symmetric taps is coefficient k or 31 - k of set 0. -/
def firSum (c : Chain) : Nat → List Int → Int
  | _, [] => 0
  | k, x :: xs => coefAt c.active (if k < 16 then k else 31 - k) c * x + firSum c (k + 1) xs

/-- One value at 16 kHz through the FIR; every second one gives a value at 8 kHz (R496). -/
def firStep (x : Int) (c : Chain) : List Int × Chain :=
  let c := { c with fir := (x :: c.fir).take 32, odd := !c.odd }
  if c.odd then ([], c)
  else
    let y := firSum c 0 c.fir
    ([y], { c with hist := (y :: c.hist).take 24, since := c.since + 1 })

/-- One bit of the modulator through the chain: the values at 8 kHz that it completes, each with the count of values since the
switch (R496). -/
def chainBit (b : Bool) (c : Chain) : List (Int × Nat) × Chain :=
  let c := { c with integrators := integrate (if b then 1 else -1) c.integrators, bits := c.bits + 1 }
  if c.bits < 64 then ([], c)
  else
    let (y, ds) := combStage (c.integrators.getD 3 0) c.combs
    let (ys, c) := firStep y { c with bits := 0, combs := ds }
    (ys.map (fun y => (y, c.since)), c)

/-- The bits of the modulator since the last output. -/
def chainBits : List Bool → Chain → List (Int × Nat) × Chain
  | [], c => ([], c)
  | b :: bs, c =>
    let (ys, c) := chainBit b c
    let (zs, c) := chainBits bs c
    (ys ++ zs, c)

/-- Tap `j` of phase `f` of the active bank; phase 128 is phase 0 advanced by one input sample (R497). -/
def phaseTap (c : Chain) (f j : Nat) : Int :=
  if f < 128 then coefAt c.active (16 + 24 * f + j) c else if j < 23 then coefAt c.active (16 + j + 1) c else 0

/-- The resampler's sum over the last values, with coefficients between phases `f` and `f + 1` at `w` of 2^25 (R497). -/
def resampleSum (c : Chain) (f w : Nat) : Nat → List Int → Int
  | _, [] => 0
  | j, x :: xs => (phaseTap c f j * 2 ^ 25 + (phaseTap c (f + 1) j - phaseTap c f j) * w) * x + resampleSum c f w (j + 1) xs

/-- The resampler's output at the grid instant in units of 2^-24 (R497). -/
def resample (c : Chain) : Int := resampleSum c (c.pos / 2 ^ 25) (c.pos % 2 ^ 25) 0 c.hist / 2 ^ 63

/-- The position's advance per output: 1 ms / P (R498). -/
def posStep (c : Chain) : Nat := 10 ^ 6 * 2 ^ 64 / c.period

/-! ### Settling and samples (R500, R502) -/

/-- Values at 8 kHz that the filters still mix with the previous input after a switch: 36 values at 16 kHz. -/
def mixedValues : Nat := 18

/-- Two consecutive values of the converting input differ by more than step_i / 1,024 of its span (R502). -/
def stepBetween (i step : Nat) (a b : Int) : Bool :=
  let (lo, hi) := senseRange i
  let d := (Config.senseScale i (a / 2 ^ 19) - Config.senseScale i (b / 2 ^ 19)).natAbs
  step != 0 && decide ((step : Int) * (hi - lo) < 1024 * d)

/-- Some value of the list makes a step after the one before it (R502). -/
def anyStep (i step : Nat) (prev : Option Int) : List (Int × Nat) → Bool
  | [] => false
  | (y, n) :: ys =>
    (match prev with
      | some x => decide (mixedValues < n) && stepBetween i step x y
      | none => false) || anyStep i step (some y) ys

/-- The first input from `i` on, in ascending order around the scan, whose count is not 0 (R495). -/
def nextInput (ns : List Nat) (i : Nat) : Nat :=
  (((List.range 16).map (fun k => (i + k) % 16)).find? (fun k => ns.getD k 0 != 0)).getD 0

/-- The chain switches to an input: its dwell is 6 + n_i outputs, and the next six are UNSETTLED (R495, R502). -/
def switchTo (i : Nat) (ns : List Nat) (c : Chain) : Chain :=
  { c with input := i, left := 6 + ns.getD i 0, extended := 0, since := 0, unsettled := 6 }

/-- A sample (R500). -/
def sampleWord (time i : Nat) (unsettled isOpen clamp island : Bool) (v : Int) : BitVec 64 :=
  BitVec.ofNat 64 (2 ^ 32 * (time % 2 ^ 32) + 2 ^ 28 * i + 2 ^ 27 * bitNat unsettled + 2 ^ 26 * bitNat isOpen +
    2 ^ 25 * bitNat clamp + 2 ^ 24 * bitNat island + unsignedOf 24 v)

def sampleTime (w : BitVec 64) : Nat := w.toNat / 2 ^ 32
def sampleIsland (w : BitVec 64) : Bool := w.getLsbD 24

/-- The time in ns between two samples of one input (R500). -/
def sampleGap (a b : BitVec 64) : Nat := if sampleIsland a == sampleIsland b then (sampleTime b + 2 ^ 32 - sampleTime a) % 2 ^ 32 else 0

/-! ### Open wire and fault (R503, R504) -/

/-- The input's runs after a sample, and whether it enters or leaves its fault (R504). -/
def openStep (isOpen : Bool) (x : SenseInput) : SenseInput :=
  let o := if isOpen then x.openRun + 1 else 0
  let k := if isOpen then 0 else x.clearRun + 1
  { x with
    prevOpen := isOpen, openRun := min o 3, clearRun := min k 3,
    fault := if 3 ≤ o then true else if 3 ≤ k then false else x.fault }

/-- SENSE_OPEN at the first OPEN sample, and SENSE_FAULT with the lead pattern (R504, R509). -/
def noteOpen (i leads : Nat) (s : State) : State :=
  let x := inputOf i s
  let isOpen := leads != 0
  let y := openStep isOpen x
  let s := modInput i (fun _ => y) s
  let s := if isOpen && !x.prevOpen then raise 0x0E01 (srcInput i) .minor 0 0 s else s
  if y.fault && !x.fault then hold 0x0E02 (srcInput i) .major 0 (wordOf leads) (countInput i 2 1 s)
  else if x.fault && !y.fault then clear 0x0E02 (srcInput i) 0 (wordOf leads) s
  else s

/-! ### Sensor channels (R506) -/

/-- A sensor channel, and rewriting it. -/
def sensorOf (n : Nat) (s : State) : SensorChannel := tabGet sensorChannelReset s.island.channels n
def modSensor (n : Nat) (g : SensorChannel → SensorChannel) (s : State) : State :=
  modIsland (fun x => { x with channels := tabMod sensorChannelReset x.channels n g }) s

/-- A sample is pushed into a channel's 64-sample FIFO, or discarded and counted (R506, R19). -/
def pushSample (w : BitVec 64) (now : Nat) (c : SensorChannel) : SensorChannel :=
  if 64 ≤ c.fifo.length then { c with drops := satAdd 16 c.drops 1 }
  else { c with fifo := c.fifo ++ [w], new := pushMark 1 now c.new }

/-- One threshold of a channel at a good sample: it raises after `persist` samples beyond it in a row, and clears at the first one
back inside the hysteresis (R506). -/
def threshold (code n i : Nat) (enabled beyond back : Bool) (persist run : Nat) (v : Int) (s : State) : State :=
  let h := handleOf 0x08 n s
  if !enabled then s
  else if beyond && persist ≤ run then hold code (srcInput i) .minor h (wordOfInt v) s
  else if back then clear code (srcInput i) h (wordOfInt v) s
  else s

/-- A channel takes a sample of its input (R506). -/
def feedSensor (w : BitVec 64) (good : Bool) (n : Nat) (s : State) : State :=
  let c := sensorOf n s
  let v := sampleValue w
  let s := if c.all || good then modSensor n (pushSample w s.clock.now) s else s
  if !good then s
  else
    let above := decide (c.high < v)
    let below := decide (v < c.low)
    let h := if above then min 255 (c.highRun + 1) else 0
    let l := if below then min 255 (c.lowRun + 1) else 0
    let s := modSensor n (fun c => { c with highRun := h, lowRun := l }) s
    let s := threshold 0x0E04 n c.input c.highEn above (decide (v ≤ c.high - c.hyst)) c.persist h v s
    threshold 0x0E05 n c.input c.lowEn below (decide (c.low + c.hyst ≤ v)) c.persist l v s

/-- The live channels of an input (R506). -/
def sensorsOf (i : Nat) (s : State) : List Nat :=
  (List.range 64).filter (fun n => (chanSlot 0x08 n s).live && (sensorOf n s).input == i)

/-- A list of channels takes a sample. -/
def feedSensors (w : BitVec 64) (good : Bool) : List Nat → State → State
  | [], s => s
  | n :: ns, s => feedSensors w good ns (feedSensor w good n s)

/-! ### Consumers (R505) -/

/-- What the gauge and the coolant watch take from a good sample (R505, R522, R527). During a Curtain the gauge takes the fast
monitor instead. -/
def consume (i : Nat) (before w : BitVec 64) (first : Bool) (s : State) : State :=
  let v := sampleValue w
  let gauge := s.power.curtain.isNone
  match i with
  | 2 => if gauge then modStore (fun g => { g with volt := v }) s else s
  | 3 => if gauge then modStore (addCharge v (if first then 0 else sampleGap before w)) s else s
  | 4 => watchCoolant (modPower (fun p => { p with inlet := v }) s)
  | 5 => watchCoolant (modPower (fun p => { p with outlet := v }) s)
  | _ => s

/-- A good sample ends the fallback of the input's consumer (R505). -/
def endFallback (i : Nat) (s : State) : State :=
  if i < 2 || 6 < i || !fallenBack (i - 1) s then s
  else
    clear 0x0E03 (srcInput i) 0 (wordOf (i - 1)) (modIsland (fun x => { x with fallback := x.fallback.set (i - 2) false }) s)

/-- A sample reaches the input's record, its counters, its channels and its consumer (R504 to R506, R510). -/
def deliverSample (i : Nat) (w : BitVec 64) (unsettled clamp : Bool) (leads : Nat) (s : State) : State :=
  let before := inputOf i s
  let s := countInput i 0 1 s
  let s := countInput i 1 (bitNat (leads != 0)) s
  let s := countInput i 3 (bitNat unsettled) s
  let s := countInput i 4 (bitNat clamp) s
  let s := noteOpen i leads (modInput i (fun x => { x with last := w }) s)
  let good := !unsettled && leads == 0 && !(inputOf i s).fault
  let s := feedSensors w good (sensorsOf i s) s
  if !good then s
  else
    let s := consume i before.good w before.goodAt.isNone (endFallback i s)
    modInput i (fun x => { x with good := w, goodAt := some s.clock.now }) s

end Sys2Proof.Machine
end

