-- ==== Sys2Proof/Machine/SenseRows.lean ====
section
/-! DEFINITION. The sensing commands 0x0E01 to 0x0E0A (R510 to R512). -/

namespace Sys2Proof.Machine

/-- PF1 may not issue the command with these arguments; PF0 and the sideband may (R445, R512, R538). -/
def notPf1 (src : Source) : Bool := src != .pf1

/-- PF1 may issue the command only with clear = 0 (R512, R538). -/
def notPf1Clear (src : Source) (clear : Bool) : Bool := src != .pf1 || !clear

/-- The sixteen fields of `width` bits, four to a word and 8 bits apart, from word `k` of a request (R511). -/
def fourFields (req : List Word) (k width : Nat) : List Nat :=
  (List.range 16).map (fun i => fieldOf (wordAt req (k + i / 4)) (8 * (i % 4)) width)

/-- SENSE_CONFIG; it applies from the next multiplexer switch (R511, R512). -/
def execSenseConfig (src : Source) (tag : Nat) (req : List Word) (s : State) : Result :=
  let ns := fourFields req 0 6
  let c : SenseConfig := ⟨ns, fourFields req 4 8, bitOf (wordAt req 8) 0⟩
  command src tag req ⟨9, notPf1 src, true⟩ (fun s =>
    if [2, 3, 4, 5].any (fun i => ns.getD i 0 == 0) then refuse .conflict s
    else okay [] (modIsland (fun x => { x with cfg := c }) s)) s

/-- The two words of a sample, low word first (R511). -/
def sampleWords (w : BitVec 64) : List Word := [lowWord w.toNat, highWord w.toNat]

/-- SENSE_LATEST (R511, R512). -/
def execSenseLatest (src : Source) (tag : Nat) (req : List Word) (s : State) : Result :=
  command src tag req ⟨0, true, true⟩ (fun s =>
    okay ((List.range 16).flatMap (fun i => sampleWords (inputOf i s).last) ++
      [pack [(0, maskOf (fun i => (inputOf i s).fault) 16), (16, maskOf (fun c => fallenBack (c + 1) s) 5)]]) s) s

/-- SENSOR_CREATE (R506, R511, R512). -/
def execSensorCreate (src : Source) (tag : Nat) (req : List Word) (s : State) : Result :=
  let w := wordAt req 0
  let value := fun k => signedOf 24 (wordAt req k).toNat
  let c : SensorChannel :=
    { sensorChannelReset with
        input := fieldOf w 0 4, all := bitOf w 8, highEn := bitOf w 9, lowEn := bitOf w 10, persist := fieldOf w 16 8,
        high := value 1, low := value 2, hyst := value 3 }
  command src tag req ⟨4, notPf1 src, true⟩ (fun s =>
    if c.persist == 0 || decide (c.hyst < 0) || (c.highEn && c.lowEn && decide (c.high < c.low)) then refuse .badArg s
    else
      match nextIndex .sensor s with
      | none => refuse .noResource s
      | some n =>
        let s := modSensor n (fun _ => c) (openChan .sensor n s)
        okay [handleOf 0x08 n s] s) s

/-- SENSOR_DESTROY: the FIFO is discarded and held threshold events clear (R512). -/
def execSensorDestroy (src : Source) (tag : Nat) (req : List Word) (s : State) : Result :=
  let h := wordAt req 0
  command src tag req ⟨1, notPf1 src, true⟩ (fun s => withHandle .sensor h s (fun n =>
    let i := srcInput (sensorOf n s).input
    let s := clear 0x0E05 i h 0 (clear 0x0E04 i h 0 s)
    okay [] (closeChan .sensor n (modSensor n (fun _ => sensorChannelReset) s)))) s

/-- SENSE_READ pops up to `count` samples and takes the drops since the last one (R19, R511, R512). Assumption 59. -/
def execSenseRead (src : Source) (tag : Nat) (req : List Word) (s : State) : Result :=
  let count := fieldOf (wordAt req 1) 0 5
  command src tag req ⟨2, notPf1 src, true⟩ (fun s => withHandle .sensor (wordAt req 0) s (fun n =>
    if count == 0 || 16 < count then refuse .badArg s
    else
      let c := sensorOf n s
      let out := c.fifo.take count
      let left := c.fifo.drop count
      okay (pack [(0, out.length), (8, left.length), (16, c.drops)] :: out.flatMap sampleWords)
        (modSensor n (fun c => { c with fifo := left, drops := 0 }) (popCycle out.length c.fifo.length c.new s)))) s

/-- The place of an index of a set in a bank. -/
def coefPlace (set n : Nat) : Nat := if set = 0 then n else 16 + n

/-- The count and the indices of COEF_WRITE and COEF_READ are in range (R512). -/
def coefRangeOk (set first count : Nat) : Bool := count != 0 && count ≤ 120 && first + count ≤ (if set = 0 then 16 else 3072)

/-- Writes coefficients at rising places of a bank. -/
def writeCoefs (bank : Bool) (at_ : Nat) (cs : List Nat) (c : Chain) : Chain :=
  let put := fun t => tabSetList none t at_ (cs.map some)
  if bank then { c with bankB := put c.bankB } else { c with bankA := put c.bankA }

/-- COEF_WRITE writes the inactive bank (R501, R512). Assumption 59. -/
def execCoefWrite (src : Source) (tag : Nat) (req : List Word) (s : State) : Result :=
  let w := wordAt req 0
  let set := fieldOf w 0 1
  let count := fieldOf w 8 7
  let first := fieldOf w 16 12
  let cs := (List.range count).map (fun i => fieldOf (wordAt req (1 + i)) 0 20)
  command src tag req ⟨1, notPf1 src, true⟩ (fun s =>
    if !coefRangeOk set first count || req.length < 1 + count then refuse .badArg s
    else if s.island.chain.swap.isSome then refuse .busy s
    else okay [] (modChain (fun c => writeCoefs (!c.active) (coefPlace set first) cs c) s)) s

/-- COEF_READ (R511, R512). Assumption 59. -/
def execCoefRead (src : Source) (tag : Nat) (req : List Word) (s : State) : Result :=
  let w := wordAt req 0
  let set := fieldOf w 0 1
  let count := fieldOf w 8 7
  let first := fieldOf w 16 12
  command src tag req ⟨1, true, true⟩ (fun s =>
    if !coefRangeOk set first count then refuse .badArg s
    else
      okay ((List.range count).map (fun i =>
        wordOf (coefCode (bitOf w 1) (coefPlace set (first + i)) s.island.chain))) s) s

/-- The sum of `n` coefficients of a bank from a place on. -/
def coefSum (bank : Bool) (at_ n : Nat) (c : Chain) : Int := (List.range n).foldl (fun a i => a + coefAt bank (at_ + i) c) 0

/-- A sum of codes lies within 2^-12 of 1 (R501). -/
def nearOne (x : Int) : Bool := decide ((x - 2 ^ 19).natAbs ≤ 2 ^ 7)

/-- The sums of a bank allow its use (R501). -/
def sumsOk (bank : Bool) (c : Chain) : Bool :=
  nearOne (2 * coefSum bank 0 16 c) && (List.range 128).all (fun f => nearOne (coefSum bank (16 + 24 * f) 24 c))

/-- The swap takes effect: the inactive bank becomes active, the next six outputs are UNSETTLED, and the command that waits is
answered (R501, R502, R511). -/
def applySwap (time : Nat) (s : State) : State :=
  match s.island.chain.swap with
  | none => s
  | some w =>
    let s := modChain (fun c => { c with active := !c.active, swap := none, unsettled := 6 }) s
    match w with
    | none => s
    | some (src, tag) => respond src tag .ok [wordOf (bitNat s.island.chain.active), wordOf time] s

/-- COEF_SWAP: an accepted swap takes effect at the next grid instant, and the response follows it; with the chain stopped it takes
effect at once (R501, R511, R512). Assumption 59. -/
def execCoefSwap (src : Source) (tag : Nat) (req : List Word) (s : State) : Result :=
  command src tag req ⟨0, notPf1 src, true⟩ (fun s =>
    if !sumsOk (!s.island.chain.active) s.island.chain then refuse .conflict s
    else if s.island.chain.swap.isSome then refuse .busy s
    else
      let time := (nextGrid s).2
      let s := modChain (fun c => { c with swap := some (some (src, tag)) }) s
      (.later, if chainOn s then s else applySwap time s)) s

/-- SH_PMODE (R491). -/
def pmodeWord (i : Island) : Word := pack [(0, i.modeReq), (8, bitNat i.low), (9, bitNat i.bor), (16, i.borCount)]

/-- P in ps (R511). -/
def periodPs (c : Chain) : Nat := c.period * 1000 / 2 ^ 32

/-- SH_STATUS (R510 to R512). -/
def execShStatus (src : Source) (tag : Nat) (req : List Word) (s : State) : Result :=
  let clear := bitOf (wordAt req 0) 0
  command src tag req ⟨1, notPf1Clear src clear, true⟩ (fun s =>
    let i := s.island
    okay ([pmodeWord i,
        pack [(0, bitNat i.chain.active), (1, bitNat i.chain.island), (2, bitNat (conditionHeld 0x0E06 1991 0 s))],
        wordOf (periodPs i.chain)] ++ i.console.counters.map wordOf)
      (cleared clear (modIsland (fun x => { x with console := { x.console with counters := [0, 0, 0, 0, 0] } })) s)) s

/-- SENSE_COUNTERS; the input has 4 bits, so that none exceeds 15 (R510 to R512). -/
def execSenseCounters (src : Source) (tag : Nat) (req : List Word) (s : State) : Result :=
  let i := fieldOf (wordAt req 0) 0 4
  let clear := bitOf (wordAt req 0) 8
  command src tag req ⟨1, notPf1Clear src clear, true⟩ (fun s =>
    okay ((inputOf i s).counters.map wordOf)
      (cleared clear (modInput i (fun x => { x with counters := [0, 0, 0, 0, 0] })) s)) s

end Sys2Proof.Machine
end

