-- ==== Sys2Proof/Machine/QueueRows.lean ====
section
/-! DEFINITION. The queue and Larder commands 0x0901 to 0x090F, and the retirement of an HBM stack (R345 to R350). -/

namespace Sys2Proof.Machine

/-- VOQ_CONFIG (R349, R350). -/
def execVoqConfig (src : Source) (tag : Nat) (req : List Word) (s : State) : Result :=
  let w := wordAt req 0
  let d := fieldOf w 0 5
  let q := fieldOf w 16 16
  let or0 := fun (v dflt : Nat) => if v = 0 then dflt else v
  let c : VoqConfig := ⟨or0 q 10240, or0 (fieldOf (wordAt req 1) 0 16) 4096, or0 (fieldOf (wordAt req 1) 16 16) 2048⟩
  command src tag req ⟨2, pf0Only src, false⟩ (fun s =>
    if 30 < d ∨ (1 ≤ q ∧ q ≤ 63) ∨ c.limit < c.yellow then refuse .badArg s
    else
      okay [] (modQueues (fun x => { x with voqCfg := tabSet voqConfigReset x.voqCfg (8 * d + fieldOf w 8 3) c }) s)) s

/-- VOQ_STATUS (R349, R350). -/
def execVoqStatus (src : Source) (tag : Nat) (req : List Word) (s : State) : Result :=
  let d := fieldOf (wordAt req 0) 0 5
  let c := fieldOf (wordAt req 0) 8 3
  command src tag req ⟨1, true, false⟩ (fun s =>
    if 30 < d then refuse .badArg s
    else
      let frames := ((voqQueues d c s).map (fun e => e.2.length)).sum
      okay ((List.range 16).map (fun p => wordOf (min (2 ^ 32 - 1) (occupancy d c p s))) ++
        [wordOf frames, wordOf (shaperCode (voqOf d c s).shaper s)]) s) s

/-- The colour map of a request names 3 for some value (R349). -/
def colourMapBad (map : Nat) : Bool := (List.range 8).any (fun v => map / 4 ^ v % 4 == 3)

/-- METER_CREATE (R330, R349, R350). -/
def execMeterCreate (src : Source) (tag : Nat) (req : List Word) (s : State) : Result :=
  let w := wordAt req 0
  let cir := (wordAt req 1).toNat
  let pir := (wordAt req 2).toNat
  let cbs := fieldOf (wordAt req 3) 0 24
  let pbs := fieldOf (wordAt req 4) 0 24
  command src tag req ⟨5, pf0Only src, false⟩ (fun s =>
    if pir < cir ∨ 26000000 < pir ∨ cbs < 10240 ∨ pbs < 10240 ∨ colourMapBad (fieldOf w 16 16) ∨ 573 < fieldOf w 2 10 then
      refuse .badArg s
    else
      match nextIndex .meter s with
      | none => refuse .noResource s
      | some i =>
        let m : Meter :=
          { meterReset with
            shaper := bitOf w 0, aware := bitOf w 1, colourOff := fieldOf w 2 10, colourMap := fieldOf w 16 16, cir := cir,
            pir := pir, cbs := cbs, pbs := pbs, tc := cbs * byteUnits, tp := pbs * byteUnits, at_ := s.clock.now }
        let s := openChan .meter i (setMeter i m s)
        okay [handleOf 0x04 i s] s) s

/-- A rule of a live rule set names the meter (R350). -/
def meterNamed (h : Word) (s : State) : Bool :=
  s.ports.ruleSets.any (fun e => (chanSlot 0x07 e.1 s).live &&
    (e.2.policer == h || e.2.rules.any (fun r => bitOf (wordAt r.2 37) 2 && wordAt r.2 38 == h)))

/-- METER_DESTROY (R350). -/
def execMeterDestroy (src : Source) (tag : Nat) (req : List Word) (s : State) : Result :=
  command src tag req ⟨1, pf0Only src, false⟩ (fun s =>
    withHandle .meter (wordAt req 0) s (fun i =>
      if (tabGet meterReset s.queues.meters i).target.isSome || meterNamed (wordAt req 0) s then refuse .conflict s
      else okay [] (closeChan .meter i (setMeter i meterReset s)))) s

/-- The shaper of a target (R331). -/
def targetShaper (t : ShaperTarget) (s : State) : Option Nat :=
  match t with
  | .voq d c => (voqOf d c s).shaper
  | .portQueue p q => (tabGet portReset s.ports.ports p).shapers.getD q none

/-- Sets the shaper of a target. -/
def setTargetShaper (t : ShaperTarget) (sh : Option Nat) (s : State) : State :=
  match t with
  | .voq d c => modVoq d c (fun v => { v with shaper := sh }) s
  | .portQueue p q =>
    { s with ports := { s.ports with ports := tabMod portReset s.ports.ports p (fun x => { x with shapers := x.shapers.set q sh }) } }

/-- SHAPER_ATTACH: a detach discards the buckets (R331, R349, R350). -/
def execShaperAttach (src : Source) (tag : Nat) (req : List Word) (s : State) : Result :=
  let w := wordAt req 1
  let t : ShaperTarget :=
    if bitOf w 1 then .portQueue (fieldOf w 16 8) (fieldOf w 24 3) else .voq (fieldOf w 2 5) (fieldOf w 8 3)
  command src tag req ⟨2, pf0Only src, false⟩ (fun s =>
    withHandle .meter (wordAt req 0) s (fun i =>
      let m := meterOf i s
      if !m.shaper || (!bitOf w 1 && 30 < fieldOf w 2 5) then refuse .badArg s
      else if bitOf w 0 then
        if m.target ≠ some t then refuse .conflict s
        else
          okay [] (setTargetShaper t none
            (setMeter i { m with target := none, tc := m.cbs * byteUnits, tp := m.pbs * byteUnits } s))
      else if m.target.isSome || (targetShaper t s).isSome then refuse .conflict s
      else okay [] (setTargetShaper t (some i) (setMeter i { m with target := some t } s)))) s

/-- EGRESS_CONFIG (R332, R349, R350). -/
def execEgressConfig (src : Source) (tag : Nat) (req : List Word) (s : State) : Result :=
  let c := fieldOf (wordAt req 0) 0 3
  let read := bitOf (wordAt req 0) 8
  let mn := fieldOf (wordAt req 1) 0 20
  let cap := fieldOf (wordAt req 2) 0 20
  let answer := fun s => okay [wordOf (egressClass c s).used, wordOf (min (2 ^ 32 - 1) (rxCredit c s))] s
  command src tag req ⟨3, src == .pf0 || read, false⟩ (fun s =>
    if read then answer s
    else
      let others := (s.queues.egress.map (fun e => e.min)).sum - (egressClass c s).min
      if cap < mn ∨ 262144 < others + mn then refuse .badArg s
      else answer (modEgress c (fun e => { e with min := mn, cap := cap }) s)) s

/-- Ports of MCAST_CREATE and MCAST_PORTS as a mask (R349). -/
def portMask (ws : List Word) : Nat :=
  (List.range 8).foldl (fun m i => m + (wordAt ws i).toNat * 2 ^ (32 * i)) 0

/-- The channel of a multicast group (R335). -/
def mcastOf (group : Nat) (s : State) : Option Nat :=
  (s.queues.mcasts.find? (fun e => (chanSlot 0x0B e.1 s).live && e.2.group == group)).map (fun e => e.1)

/-- The group of channel 0 with an empty list is a default entry and is found by its live handle (R335). -/
def mcastChan (group : Nat) (s : State) : Option Nat :=
  match mcastOf group s with
  | some i => some i
  | none =>
    if group = 0 then
      (List.range 1024).find? (fun i => (chanSlot 0x0B i s).live && tabGet mcastChannelReset s.queues.mcasts i == mcastChannelReset)
    else none

/-- Sets a multicast group channel. -/
def setMcast (i : Nat) (m : McastChannel) (s : State) : State :=
  modQueues (fun q => { q with mcasts := tabSet mcastChannelReset q.mcasts i m }) s

/-- MCAST_CREATE (R335, R349, R350). -/
def execMcastCreate (src : Source) (tag : Nat) (req : List Word) (s : State) : Result :=
  let group := fieldOf (wordAt req 0) 0 10
  command src tag req ⟨9, pf0Only src, false⟩ (fun s =>
    if (mcastChan group s).isSome then refuse .conflict s
    else
      match nextIndex .mcastGroup s with
      | none => refuse .noResource s
      | some i =>
        let s := openChan .mcastGroup i (setMcast i ⟨group, portMask (req.drop 1)⟩ s)
        okay [handleOf 0x0B i s] s) s

/-- MCAST_PORTS (R335, R350). -/
def execMcastPorts (src : Source) (tag : Nat) (req : List Word) (s : State) : Result :=
  command src tag req ⟨9, pf0Only src, false⟩ (fun s =>
    withHandle .mcastGroup (wordAt req 0) s (fun i =>
      okay [] (setMcast i { tabGet mcastChannelReset s.queues.mcasts i with ports := portMask (req.drop 1) } s))) s

/-- MCAST_DESTROY (R335, R350). -/
def execMcastDestroy (src : Source) (tag : Nat) (req : List Word) (s : State) : Result :=
  command src tag req ⟨1, pf0Only src, false⟩ (fun s =>
    withHandle .mcastGroup (wordAt req 0) s (fun i =>
      okay [] (closeChan .mcastGroup i (setMcast i mcastChannelReset s)))) s

/-! ### Pools -/

/-- Bytes of a stack's host region in use (R336). -/
def regionUsed (stack : Nat) (s : State) : Nat :=
  ((s.queues.pools.filter (fun e => 5 ≤ e.1 && (chanSlot 0x0C e.1 s).live && e.2.stack == stack)).map
    (fun e => e.2.total * e.2.size)).sum

/-- POOL_CREATE; a pool's buffers take its region's space (R336, R349, R350; assumption 22). -/
def execPoolCreate (src : Source) (tag : Nat) (req : List Word) (s : State) : Result :=
  let stack := fieldOf (wordAt req 0) 0 2
  let size := fieldOf (wordAt req 0) 4 3
  let count := fieldOf (wordAt req 1) 0 24
  command src tag req ⟨2, pf0Only src, false⟩ (fun s =>
    if 6 < size ∨ count = 0 ∨ 2097152 < count then refuse .badArg s
    else if 536870912 < regionUsed stack s + count * (256 * 2 ^ size) || (s.start.hbm.getD stack hbmStackReset).retired then
      refuse .noResource s
    else
      match nextIndex .larderPool s with
      | none => refuse .noResource s
      | some i =>
        let s := openChan .larderPool i (modPool i (fun _ => freshPool count stack (256 * 2 ^ size)) s)
        okay [handleOf 0x0C i s] s) s

/-- Free tokens of a pool, in ring and cache (R349). -/
def poolFree (p : Pool) : Nat := ringCount p + p.cache.length

/-- POOL_DESTROY (R349, R350). -/
def execPoolDestroy (src : Source) (tag : Nat) (req : List Word) (s : State) : Result :=
  command src tag req ⟨1, pf0Only src, false⟩ (fun s =>
    withHandle .larderPool (wordAt req 0) s (fun i =>
      let p := poolOf i s
      if i < 5 then refuse .denied s
      else if poolFree p ≠ p.total && !p.lost then refuse .conflict s
      else
        okay [] (closeChan .larderPool i (clear 0x0902 1926 (wordOf i) 0 (modPool i (fun _ => poolReset)
          (modQueues (fun q => { q with pf0Tokens := q.pf0Tokens.filter (fun t => tokenPool t != i) }) s)))))) s

/-- POOL_STATUS (R349, R350). -/
def execPoolStatus (src : Source) (tag : Nat) (req : List Word) (s : State) : Result :=
  command src tag req ⟨1, true, false⟩ (fun s =>
    withHandle .larderPool (wordAt req 0) s (fun i =>
      let p := poolOf i s
      okay [wordOf p.total, wordOf (poolFree p % 2 ^ 28), pack [(0, p.cache.length), (8, bitNat p.lost)]] s)) s

/-- BUF_ALLOC: a failure returns the null token (R349, R350, R426). -/
def execBufAlloc (src : Source) (tag : Nat) (req : List Word) (s : State) : Result :=
  command src tag req ⟨1, pf0Only src, false⟩ (fun s =>
    withHandle .larderPool (wordAt req 0) s (fun i =>
      if i < 5 then refuse .denied s
      else
        match larderAlloc i 0x006 s with
        | (none, s) => (.done .noResource [0], s)
        | (some t, s) => okay [wordOf t] (modQueues (fun q => { q with pf0Tokens := q.pf0Tokens ++ [t] }) s))) s

/-- BUF_FREE validates the token (R343, R349, R350). -/
def execBufFree (src : Source) (tag : Nat) (req : List Word) (s : State) : Result :=
  let t := (wordAt req 1).toNat
  command src tag req ⟨2, pf0Only src, false⟩ (fun s =>
    withHandle .larderPool (wordAt req 0) s (fun i =>
      if i < 5 then refuse .denied s
      else if t = 0 ∨ tokenPool t ≠ i ∨ tokenIndex t = 0 ∨ (poolOf i s).total < tokenIndex t ∨ !s.queues.pf0Tokens.contains t then
        refuse .badArg s
      else okay [] (larderFree t 0x006 (modQueues (fun q => { q with pf0Tokens := q.pf0Tokens.erase t }) s)))) s

/-! ### Counters -/

/-- Counters as 18 words, low word first (R349). -/
def counterWords (n : Nat) (cs : List Nat) : List Word :=
  let ws := cs.flatMap (fun c => [lowWord c, highWord c])
  ws ++ List.replicate (n - ws.length) 0

/-- QUEUE_COUNTERS (R348 to R350). -/
def execQueueCounters (src : Source) (tag : Nat) (req : List Word) (s : State) : Result :=
  let w := wordAt req 0
  let d := fieldOf w 2 5
  let c := fieldOf w 8 3
  let clear := bitOf w 16
  let when_ := fun (g : State → State) s => cleared clear g s
  command src tag req ⟨2, readOrPf0 src clear, false⟩ (fun s =>
    match fieldOf w 0 2 with
    | 0 =>
      if 30 < d then refuse .badArg s
      else okay (counterWords 18 (voqOf d c s).counters)
        (when_ (modVoq d c (fun v => { v with counters := List.replicate 9 0 })) s)
    | 1 =>
      withHandle .meter (wordAt req 1) s (fun i =>
        let m := meterOf i s
        okay (counterWords 18 m.counters) (when_ (setMeter i { m with counters := List.replicate 6 0 }) s))
    | 2 =>
      withHandle .larderPool (wordAt req 1) s (fun i =>
        let s := countHeld i s
        okay (counterWords 18 (poolOf i s).counters)
          (when_ (modPool i (fun p => { p with counters := List.replicate 7 0 })) s))
    | _ =>
      let e := egressClass c s
      okay (counterWords 18 [e.admitted, e.drops, e.highest])
        (when_ (modEgress c (fun e => { e with admitted := 0, drops := 0, highest := e.used })) s)) s

/-! ### Retirement of a stack (R345) -/

/-- The host pools of a stack are lost. Assumption 53. -/
def loseHostPools (stack : Nat) (s : State) : State :=
  forEach (fun i s =>
    if (chanSlot 0x0C i s).live && (poolOf i s).stack == stack && !(poolOf i s).lost then
      raise 0x0904 1926 .major (wordOf i) 0 (modPool i (fun p => { p with lost := true }) s)
    else s) ((List.range 11).map (· + 5)) s

/-- HBM_RETIRED: a stack is retired until cold reset; its pool stops allocating, and its host pools are lost (R345, R347). -/
def execHbmRetired (stack : Nat) (s : State) : Result :=
  if (s.start.hbm.getD stack hbmStackReset).retired then .next s
  else
    let s := { s with start := { s.start with hbm := s.start.hbm.modify stack (fun h => { h with retired := true }) } }
    .next (loseHostPools stack (raise 0x0903 1926 .major (wordOf stack) 0 s))

/-- HBM_PURGE_DONE: every queued frame with a cell in the stack has been removed and counted (R345). -/
def execHbmPurgeDone (stack : Nat) (s : State) : Result :=
  if !(s.start.hbm.getD stack hbmStackReset).retired then .next s
  else .next (forEach (purgeQueue stack) (s.queues.planeQueues.map (fun e => e.1)) s)

end Sys2Proof.Machine
end

