-- ==== Sys2Proof/Machine/BootOps.lean ====
section
/-! DEFINITION. The boot record of R547: its copies, and the end of a trial. -/

namespace Sys2Proof.Machine

/-- Copy A of the boot record is the one in force (R547). -/
def recordAInForce (u : Startup) : Bool := u.recA.valid && (!u.recB.valid || u.recB.writes < u.recA.writes)

/-- The boot record in force: the valid copy with the higher write count; with no valid copy the factory record (R547;
assumption 14). -/
def bootRecord (u : Startup) : BootRecord :=
  if recordAInForce u then u.recA else if u.recB.valid then u.recB else if u.recA.valid then u.recA else bootRecordReset

/-- Writes a boot record into the copy that is not in force (R547). -/
def writeBoot (r : BootRecord) (u : Startup) : Startup :=
  let r := { r with writes := (bootRecord u).writes + 1, valid := true }
  if recordAInForce u then { u with recB := r } else { u with recA := r }

/-- Rewrites the start-up part. -/
def modStart (g : Startup → Startup) (s : State) : State := { s with start := g s.start }

/-- A trial ends: trial := 0 (R547, R553). -/
def endTrial (s : State) : State := modStart (fun u => writeBoot { bootRecord u with trial := false } u) s

/-- The first entry to REGISTERED after the boot: an open trial ends when auto_commit is set, the time since VIN good is kept,
and START_UP_DONE is raised with it (R543, R547, R551, R552). -/
def noteRegistered (s : State) : State :=
  if s.start.startUpDone then s
  else
    let ms := (s.clock.now - s.start.vinGoodAt.getD s.clock.now) / msCc
    let r := bootRecord s.start
    let s := if r.trial && r.autoCommit then endTrial s else s
    raise 0x1003 1992 .info 0 (wordOf ms) (modStart (fun u => { u with startUpDone := true, tReg := ms }) s)

end Sys2Proof.Machine
end

