-- ==== Sys2Proof/Machine/General.lean ====
section
/-! DEFINITION. The general commands 0x0101 to 0x0106 (R451, R452). -/

namespace Sys2Proof.Machine

/-- ID_PART (R422). -/
def idPart : Nat := 0x1664B1B1

/-- The terminal number as IDENTITY and JOIN_STATUS show it: 0 when none is held. -/
def shownTn (s : State) : Nat := s.join.tn.getD 0

/-- The image in bit form: 1 for B. -/
def imageBit (s : State) : Nat := s.start.image.getD 0

/-- The firmware image region 0 (A) or 1 (B). -/
def imageOf (i : Nat) (s : State) : FwImage := if i = 0 then s.start.imgA else s.start.imgB

/-- The words of IDENTITY (R451). -/
def identityWords (src : Source) (s : State) : List Word :=
  let img := imageOf (imageBit s) s
  [wordOf idPart,
   pack [(0, s.pins.slotId), (6, bitNat s.pins.strapFault), (8, sourceCode src), (16, imageBit s)]] ++
  [lowWord s.serial, highWord s.serial, lowWord (s.serial / 2 ^ 64), highWord (s.serial / 2 ^ 64)] ++
  [if s.start.running then wordOf (imageWord img 8) else 0, wordOf (imageWord img 12), wordOf 0x0201,
   pack [(0, bitNat s.start.running), (1, bitNat s.join.tn.isSome), (2, shownTn s)]]

/-- IDENTITY (R451, R452). -/
def execIdentity (src : Source) (tag : Nat) (req : List Word) (s : State) : Result :=
  command src tag req ⟨0, true, true⟩ (fun s => okay (identityWords src s) s) s

/-- ECHO returns the request words (R451, R452). -/
def execEcho (src : Source) (tag : Nat) (req : List Word) (s : State) : Result :=
  command src tag req ⟨0, true, true⟩ (fun s => okay req s) s

/-- HANDLE_INFO (R451, R452). -/
def execHandleInfo (src : Source) (tag : Nat) (req : List Word) (s : State) : Result :=
  let ty := fieldOf (wordAt req 0) 0 6
  let ix := fieldOf (wordAt req 0) 16 16
  command src tag req ⟨1, true, false⟩ (fun s =>
    if chanRange ty ≤ ix then refuse .badArg s
    else
      let c := chanSlot ty ix s
      okay [liveHandle ty ix s, pack [(0, bitNat c.quarantined), (16, c.gen)]] s) s

/-- The live handles of a type among `count` indices from `first`, in index order (R451). -/
def liveHandles (ty first count : Nat) (s : State) : List Word :=
  ((List.range count).map (fun i => liveHandle ty (first + i) s)).filter (fun h => h != 0)

/-- HANDLE_LIST: an OK response always carries all 65 words (R451, R452). -/
def execHandleList (src : Source) (tag : Nat) (req : List Word) (s : State) : Result :=
  let ty := fieldOf (wordAt req 0) 0 6
  let first := fieldOf (wordAt req 1) 0 16
  let count := fieldOf (wordAt req 1) 16 7
  command src tag req ⟨2, true, false⟩ (fun s =>
    if chanRange ty ≤ first || count == 0 || 64 < count then refuse .badArg s
    else
      let hs := liveHandles ty first count s
      okay (wordOf hs.length :: (hs ++ List.replicate (64 - hs.length) 0)) s) s

/-- The words of one core in SCHED_STATUS. Mean waiting time and load follow from execution times that the model does not
carry; each is a free value, the loads within 0 to 100 (R450, R451; assumption 6). -/
def coreWords (c : CoreQueue) (s : State) : List Word × State :=
  let (m, s) := takeFree s
  let (l, s) := takeFree s
  ([pack [(0, min c.ready.length 65535), (16, min c.depthMax 65535)], m, wordOf (min c.waitMax (2 ^ 32 - 1)),
    pack [(0, fieldOf l 0 16 % 101), (8, fieldOf l 16 16 % 101)]], s)

/-- The words of every core. Assumption 6. -/
def coresWords : List CoreQueue → State → List Word × State
  | [], s => ([], s)
  | c :: cs, s =>
    let (ws, s) := coreWords c s
    let (vs, s) := coresWords cs s
    (ws ++ vs, s)

/-- SCHED_STATUS; with clear = 1 the highest values restart from the current ones (R451, R452). -/
def execSchedStatus (src : Source) (tag : Nat) (req : List Word) (s : State) : Result :=
  let clear := bitOf (wordAt req 0) 0
  command src tag req ⟨1, readOrPf0 src clear, false⟩ (fun s =>
    let (ws, s') := coresWords s.zordin.sched.cores s
    let ws := ws ++ [pack [(0, s.zordin.sched.delayed.length % 2 ^ 24)]]
    okay ws (cleared clear (fun s => { s with zordin := { s.zordin with sched := { s.zordin.sched with
        cores := s.zordin.sched.cores.map (fun c => { c with depthMax := c.ready.length, waitMax := 0 }) } } }) s')) s

/-- The words of FUNC_STATUS for a function. -/
def funcStatusWords (b : FuncBox) : List Word :=
  [pack [(0, bitNat b.en), (1, bitNat b.halted), (2, min 63 b.outstanding.length)], wordOf b.cntTaken, wordOf b.cntBadOpcode,
   wordOf b.cntDup, wordOf b.cntHeld, wordOf b.cntDiscarded]

/-- A function's counters cleared (R451). -/
def clearFuncCounters (b : FuncBox) : FuncBox :=
  { b with cntTaken := 0, cntBadOpcode := 0, cntDup := 0, cntHeld := 0, cntDiscarded := 0 }

/-- The words of FUNC_STATUS for the sideband, whose EN and halt bits are free values: it has neither rings nor a DMA engine
(assumption 7). -/
def sidebandStatusWords (s : State) : List Word × State :=
  let b := s.zordin.sb
  let (v, s) := takeFree s
  ([pack [(0, fieldOf v 0 2), (2, min 63 b.outstanding.length)], wordOf b.cntTaken, wordOf b.cntBadOpcode, wordOf b.cntDup,
    wordOf b.cntHeld, wordOf b.cntDiscarded], s)

/-- FUNC_STATUS (R451, R452). -/
def execFuncStatus (src : Source) (tag : Nat) (req : List Word) (s : State) : Result :=
  let which := fieldOf (wordAt req 0) 0 2
  let clear := bitOf (wordAt req 0) 8
  command src tag req ⟨1, readOrPf0 src clear, false⟩ (fun s =>
    if which = 3 then refuse .badArg s
    else if which = 2 then
      let (ws, s) := sidebandStatusWords s
      okay ws (cleared clear (modSb (fun b => { b with
          cntTaken := 0, cntBadOpcode := 0, cntDup := 0, cntHeld := 0, cntDiscarded := 0 })) s)
    else
      okay (funcStatusWords (funcBox which s)) (cleared clear (modFunc which clearFuncCounters) s)) s

end Sys2Proof.Machine
end

