-- ==== Sys2Proof/Machine/Egress.lean ====
section
/-! DEFINITION. The egress MAC: which queue it serves, the frame that it starts, its timestamps and one-step insertion (R291, R294,
R331, R406, R408). -/

namespace Sys2Proof.Machine

/-- The queues 7 to 0. -/
def queueOrder : List Nat := [7, 6, 5, 4, 3, 2, 1, 0]

/-- The queue that the MAC serves next: the committed queues from 7 down, then the unshaped and excess ones; never a held one
(R291, R331). -/
def nextQueue (p : Nat) (s : State) : Option Nat :=
  let x := portOf p s
  let waiting := fun (q : Nat) => !(x.queues.getD q []).isEmpty
  let code := fun (q : Nat) => shaperCode (x.shapers.getD q none) s
  match queueOrder.find? (fun q => waiting q && code q == 1) with
  | some q => some q
  | none => queueOrder.find? (fun q => waiting q && (code q == 0 || code q == 2))

/-- The egress instant of a frame that starts now on a port with a timestamping channel (R406). -/
def egressTime (p i : Nat) (s : State) : Nat :=
  let ch := tabGet tsChannelReset s.time.tsPorts i
  ((s.clock.outTime : Int) + psUnits ((Config.pmaLatency (2 * (portOf p s).cfg.ptype + 1) : Int) + ch.egress)).toNat

/-- The bytes of a number, most significant first, written over a frame from byte `i`. -/
def putBytes (data : List Byte) (i : Nat) (bs : List Byte) : List Byte :=
  data.take i ++ (bs ++ (data.drop i).drop bs.length).take (data.length - i)

/-- The number in `n` bytes of a frame from byte `i`, most significant first. -/
def bytesAt (data : List Byte) (i n : Nat) : Nat := ((data.drop i).take n).foldl (fun a b => 256 * a + b.toNat) 0

/-- The sum of the 16-bit words of the PTP fields that insertion rewrites. -/
def ptpSum (data : List Byte) (off : Nat) : Nat :=
  ((List.range 4).map (fun i => halfAt data (off + 8 + 2 * i))).sum + ((List.range 5).map (fun i => halfAt data (off + 34 + 2 * i))).sum

/-- A sum folded to 16 bits, however large. -/
def foldMany (n : Nat) : Nat := foldSum (foldSum n)

/-- The UDP checksum of a PTP message carried over UDP after the message has changed: updated incrementally; 0 over IPv4 stays 0
(R294). -/
def fixUdp (old new : List Byte) (off : Nat) : List Byte :=
  match walk builtInNode old with
  | .error _ => new
  | .ok w =>
    match w.udpAt with
    | none => new
    | some u =>
      let sum := halfAt old (u + 6)
      if u + 8 ≠ off || (sum == 0 && !w.ipv6) then new
      else setHalfAt new (u + 6) (65535 - foldMany ((65535 - sum) + (65535 - foldMany (ptpSum old off)) + foldMany (ptpSum new off)))

/-- One-step insertion into a Sync message at `off` (R408): the seconds and whole nanoseconds of the egress instant in
originTimestamp, its fraction in units of 2^-16 ns added to correctionField, and the checksums (R294). -/
def oneStepInsert (off t : Nat) (data : List Byte) : List Byte :=
  let corr := (bytesAt data (off + 8) 8 + outFrac t / 65536) % 2 ^ 64
  let new := putBytes data (off + 8) (bytesOfNat 8 corr)
  let new := putBytes new (off + 34) (bytesOfNat 6 (outSeconds t) ++ bytesOfNat 4 (outNanos t))
  refreshFcs (fixUdp data new off)

/-- The frame as it leaves: one_step acts on a Sync message only (R408). -/
def sentBytes (f : EgressFrame) (t : Nat) : List Byte :=
  if f.oneStep && f.ptpOff + 44 + 4 ≤ f.data.length && (f.data.getD f.ptpOff 0).toNat % 16 == 0 then
    oneStepInsert f.ptpOff t f.data
  else f.data

/-- The timestamp entry, or the count of a port without a timestamping channel (R408). -/
def stampFrame (p : Nat) (f : EgressFrame) (s : State) : State :=
  match tsChanOf p s with
  | none => if f.tsReq || f.oneStep then modTime (fun t => { t with noChannel := t.noChannel + 1 }) s else s
  | some i => if f.tsReq then holdTimestamp ⟨p, f.tsId, outNs (egressTime p i s) % 2 ^ 32⟩ s else s

/-- What the MAC puts on the line: the frame's bytes, read back as words by whoever watches the port. -/
def lineBytes (p : Nat) (f : EgressFrame) (s : State) : List Byte :=
  match tsChanOf p s with
  | none => f.data
  | some i => sentBytes f (egressTime p i s)

/-- EGRESS_FRAME_START: the MAC of a port that is UP without faults sends the whole frame that it selects; the frame's cells end
their use with it (R291, R331, R342). Assumption 50. -/
def execEgressFrameStart (port : Nat) (s : State) : Result :=
  let x := portOf port s
  if x.phase ≠ .up || x.lf || x.rf then .next s
  else
    match nextQueue port s with
    | none => .next s
    | some q =>
      match x.queues.getD q [] with
      | [] => .next s
      | f :: fs =>
        let s := { s with readBack := wordsOfBytes (lineBytes port f s) }
        let s := modPort port (fun x => { x with queues := x.queues.set q fs }) s
        let s := chargeShaper (x.shapers.getD q none) f.data.length s
        let s := countPort port 10 f.data.length (countPort port 9 1 s)
        .next (macDone port f (stampFrame port f s))

end Sys2Proof.Machine
end

