-- ==== Sys2Proof/Machine/HostOps.lean ====
section
/-! DEFINITION. Host queue pairs: the rings, completions, halts, and the round of the transmit rings (R453 to R468). -/

namespace Sys2Proof.Machine

/-- Rewrites the host queues. -/
def modHq (g : HostQueues → HostQueues) (s : State) : State := { s with hq := g s.hq }

/-- A queue pair, and one rewritten. -/
def pairOf (n : Nat) (s : State) : QueuePair := tabGet queuePairReset s.hq.pairs n
def modPair (n : Nat) (g : QueuePair → QueuePair) (s : State) : State :=
  modHq (fun h => { h with pairs := tabMod queuePairReset h.pairs n g }) s

/-- Counts on a queue pair, and on the global counters (R469). -/
def countPair (n i k : Nat) (s : State) : State := modPair n (fun q => { q with counters := bump64 i k q.counters }) s
def countHq (i : Nat) (s : State) : State := modHq (fun h => { h with globals := bump64 i 1 h.globals }) s

/-- The live queue pairs in ascending index. -/
def livePairs (s : State) : List Nat := (List.range 256).filter (fun n => (chanSlot 0x05 n s).live)

/-- The engine of a pair's function is halted. -/
def pairHalted (q : QueuePair) (s : State) : Bool := (funcBox q.func s).halted

/-- Entries posted on a ring: from one index to another, counted forward with the wrap bit (R423, R453). -/
def posted (log2 pi ci : Nat) : Nat := (pi + 2 ^ (log2 + 1) - ci) % 2 ^ (log2 + 1)

/-- The next ring index. -/
def nextRing (log2 i : Nat) : Nat := (i + 1) % 2 ^ (log2 + 1)

/-- The DMA engine of a function halts, and the halt is counted (R433, R469). Assumption 54. -/
def haltFunc (f : Nat) (s : State) : State := if (funcBox f s).halted then s else haltEngine f (countHq (1 + f) s)

/-- A malformed descriptor or doorbell of a pair halts its function (R457, R467). Assumption 54. -/
def haltPair (n cause index : Nat) (s : State) : State :=
  let s := modPair n (fun q => { q with haltCause := cause, haltIndex := index }) s
  let s := haltFunc (pairOf n s).func s
  raise 0x0C01 1929 .major (handleOf 0x05 n s) (pack [(0, cause), (16, index)]) s

/-! ### Completions (R461 to R463) -/

/-- The eight words of a completion entry with its phase. -/
def completionWords (phase : Nat) (c : Completion) : List Word :=
  [pack [(31, phase), (28, c.ring), (8, c.index), (0, c.status)], c.word1, c.word2, c.word3, c.word4, 0, 0, 0]

/-- Writes a completion into the pair's next slot, words 1 to 7 first and word 0 last. -/
def writeCompletion (n : Nat) (c : Completion) (s : State) : State :=
  let q := pairOf n s
  let size := 2 ^ q.cqLog2
  let a := q.cqBase + 32 * (q.cqPi % size)
  let ws := completionWords (ringPhase size q.cqPi) c
  let s := hostWrite (a + 4) (bytesOfWords (ws.drop 1)) s
  let s := hostWrite a (bytesOfWord (wordAt ws 0)) s
  signalVector q.func (2 + n) (modPair n (fun q => { q with cqPi := nextRing q.cqLog2 q.cqPi }) s)

/-- A completion is written, or held while no slot is free (R463). -/
def complete (n : Nat) (c : Completion) (s : State) : State :=
  let q := pairOf n s
  if q.held ≠ [] ∨ ringFree (2 ^ q.cqLog2) q.cqPi q.cqCi = 0 then modPair n (fun q => { q with held := q.held ++ [c] }) s
  else writeCompletion n c s

/-- A transmit descriptor ends: it completes when it asked for that or did not end OK, and covers what is not yet covered
(R462). -/
def endTransmit (n index status : Nat) (cmp : Bool) (s : State) : State :=
  let q := pairOf n s
  if cmp ∨ status ≠ 0 then
    complete n ⟨0, index, status, pack [(0, (q.uncovered + 1) % 65536)], 0, 0, 0⟩ (modPair n (fun q => { q with uncovered := 0 }) s)
  else modPair n (fun q => { q with uncovered := q.uncovered + 1 }) s

/-! ### The round of the transmit rings (R458) -/

/-- A pair has a transmit descriptor to be taken. -/
def pairReady (s : State) (n : Nat) : Bool :=
  let q := pairOf n s
  (chanSlot 0x05 n s).live && q.running && !pairHalted q s && q.held.isEmpty && q.txLog2 != 0 && posted q.txLog2 q.txPi q.txCi != 0

/-- The first ready pair of a pass among those that `p` allows. -/
def firstOfPass (pass : Nat) (p : Nat → Bool) (s : State) : Option Nat :=
  (livePairs s).find? (fun n => p n && pass < (pairOf n s).weight && pairReady s n)

/-- The first place of a list of passes. -/
def firstPlace (s : State) : List Nat → Option RoundPlace
  | [] => none
  | i :: is =>
    match firstOfPass i (fun _ => true) s with
    | some n => some ⟨i, n, 0⟩
    | none => firstPlace s is

/-- A pair with the weight and burst that wait (R470). -/
def applySched (q : QueuePair) : QueuePair :=
  match q.next with
  | some (w, b) => { q with weight := w, burst := b, next := none }
  | none => q

/-- The weights that wait take effect with a new round (R470). -/
def newRound (s : State) : State :=
  modHq (fun h => { h with pairs := tabMap queuePairReset (fun _ q => applySched q) h.pairs }) s

/-- The place of the next transmit descriptor: the visit goes on, or the pass, or the round, or a new round begins. -/
def nextPlace (s : State) : Option RoundPlace × State :=
  let r := s.hq.round
  match firstOfPass r.pass (fun n => r.pair < n || (n == r.pair && r.taken < (pairOf n s).burst)) s with
  | some n => (some (if n = r.pair then r else ⟨r.pass, n, 0⟩), s)
  | none =>
    match firstPlace s ((List.range 16).drop (r.pass + 1)) with
    | some x => (some x, s)
    | none =>
      let s := newRound s
      (firstPlace s (List.range 16), s)

/-! ### Stopping (R466, R468) -/

/-- The outstanding transmit descriptors end with ABORTED, each in a completion of its own; `quiet` writes none (R466, R467). -/
def abortTransmit (n : Nat) (quiet : Bool) : Nat → State → State
  | 0, s => s
  | k + 1, s =>
    let i := (pairOf n s).txCi
    let s := countPair n 7 1 (modPair n (fun q => { q with txCi := nextRing q.txLog2 q.txCi }) s)
    abortTransmit n quiet k (if quiet then s else endTransmit n i (statusCode .aborted) true s)

/-- The unused receive descriptors end with ABORTED and length 0. -/
def abortReceive (n : Nat) (quiet : Bool) : Nat → State → State
  | 0, s => s
  | k + 1, s =>
    let i := (pairOf n s).rxCi
    let s := countPair n 7 1 (modPair n (fun q => { q with rxCi := nextRing q.rxLog2 q.rxCi }) s)
    abortReceive n quiet k (if quiet then s else complete n ⟨1, i, statusCode .aborted, 0, 0, 0, 0⟩ s)

/-- QP_STOP of a pair; without completions while its function is halted (R466, R467). -/
def stopPair (n : Nat) (s : State) : State :=
  let q := pairOf n s
  let quiet := pairHalted q s
  let s := modPair n (fun q => { q with running := false }) s
  let s := if q.txLog2 = 0 then s else abortTransmit n quiet (posted q.txLog2 q.txPi q.txCi) s
  if q.rxLog2 = 0 then s else abortReceive n quiet (posted q.rxLog2 q.rxPi q.rxCi) s

/-- Tokens that a pair holds return to the record as held by PF0 (R459, R468). -/
def returnTokens (n : Nat) (s : State) : State :=
  modQueues (fun q =>
    { q with
      pf0Tokens := q.pf0Tokens ++ (q.qpTokens.filter (fun t => t.1 == n)).map (fun t => t.2)
      qpTokens := q.qpTokens.filter (fun t => t.1 != n) }) s

/-- A QP_STOP whose response waits is answered (R471). -/
def answerStop (n : Nat) (s : State) : State :=
  match (pairOf n s).stopper with
  | none => s
  | some (src, tag) => respond src tag .ok [] (modPair n (fun q => { q with stopper := none }) s)

/-- What an FLR of a function does to its queue pairs: STOPPED, and no completion (R468). -/
def flrPairs (f : Nat) (s : State) : State :=
  forEach (fun n s =>
    if (pairOf n s).func = f then
      returnTokens n (answerStop n
        (modPair n (fun q => { q with running := false, held := [], uncovered := 0, haltCause := 0, haltIndex := 0 }) s))
    else s) (livePairs s) s

end Sys2Proof.Machine
end

