-- ==== Sys2Proof/Machine/ResetOps.lean ====
section
/-! DEFINITION. What the resets do to each part (R420, R493, R541, R542, R579). `cold` tells the power-on and cold resets, which reset the
island, the clocks and the tiles too, from the warm reset. -/

namespace Sys2Proof.Machine

/-! ### Function-level reset (R420) -/

/-- Records that wait in a function's event queue count as lost to the queue (R420). -/
def loseRecords (f : Nat) : List EventRecord → State → State
  | [], s => s
  | r :: rs, s => loseRecords f rs (loseRecord f r.sev s)

/-- A source's command waits for a swap no longer. -/
def dropSwap (src : Source) (c : Chain) : Chain :=
  { c with swap := c.swap.map (fun w => w.filter (fun x => x.1 != src)) }

/-- An FLR of a function: its rings, vectors, notices, records and long commands go; its queue pairs stop; the other function and the
sideband get a notice (R420, R468). -/
def flrFunction (f : Nat) (s : State) : State :=
  let b := funcBox f s
  let src : Source := if f = 0 then .pf0 else .pf1
  let s := loseRecords f b.events s
  let s := setFunc f { funcBoxReset with
    cntTaken := b.cntTaken, cntBadOpcode := b.cntBadOpcode, cntDup := b.cntDup, cntHeld := b.cntHeld,
    cntDiscarded := satAdd 32 b.cntDiscarded b.notices.length } s
  let s := flrPairs f (dropLongs src (modChain (dropSwap src) s))
  let n : Notice := ⟨1, f, stamp s⟩
  noticeToSideband n (noticeTo (1 - f) n s)

/-! ### Parts -/

/-- A channel of this type is kept in the configuration store (R438; R262, R282, R506), or is one of the pools that always exist. -/
def storedChannel (key : Nat) : Bool :=
  let ty := key / 65536
  ty == 0x01 || ty == 0x02 || ty == 0x08 || (ty == 0x0C && key % 65536 < 5)

/-- A reset destroys a channel that is not stored, and its generation steps (R438, R542). Assumption 68. -/
def resetChannel (out key : Nat) (c : ChanSlot) : ChanSlot :=
  if !c.live || storedChannel key then c
  else { live := false, gen := (c.gen + 1) % 1024, quarantined := c.gen == 1023, quarEnd := if c.gen = 1023 then out + secOut else 0 }

/-- The mailboxes: each function as an FLR leaves it, counters at 0, no task; the SMBus slave keeps its queues through a warm reset, but
no command stays outstanding (R542, R579). Assumption 66. -/
def resetZordin (cold : Bool) (z : Zordin) : Zordin :=
  let sb := if cold then sidebandReset else { z.sb with
    requests := [], outstanding := [], heldRsp := [], cntTaken := 0, cntBadOpcode := 0, cntDup := 0, cntHeld := 0, cntDiscarded := 0 }
  { zordinReset with sb := sb }

/-- A tile as power-up finds it: off, its failure record standing (R484, R550). Assumption 67. -/
def tileOff (t : Tile) : Tile := { tileReset with record := t.record }

/-- The event part: alarms and staged records survive a warm reset, the black box every reset (R476, R480, R542). Assumption 66. -/
def resetEvents (cold : Bool) (now : Nat) (e : Events) : Events :=
  { e with
    alarms := (if cold then [] else e.alarms), windows := [], seq := 0, dests := e.dests.map (fun d => destinationOf now d.cfg),
    staged := (if cold then [] else e.staged), cntEmitted := 0, cntUncoalesced := 0, cntBlackLost := 0,
    tiles := (if cold then tabMap tileReset (fun _ t => tileOff t) e.tiles else e.tiles) }

/-- The cue lanes restart in HUNT with LOS and LOF declared; the root runs on through a warm reset (R542). -/
def resetCue (cold : Bool) (c : CueState) : CueState :=
  { root := (if cold then rootReset else c.root),
    lanes := tabMap cueLaneReset (fun _ l => { cueLaneReset with powered := l.powered && !cold, grid := l.grid }) c.lanes, seen := [], inbox := [] }

/-- A transmitter: cold, as its tile's power-up finds it; warm, its loop and state stand and its frames are lost (R542). MRAM keeps the
checkpoint, from which the trims resume, and the failure record (R183, R185). Assumption 66. -/
def resetTransmitter (cold : Bool) (t : Transmitter) : Transmitter :=
  if cold then
    { txReset with
        phase := (if t.record.isSome then .failed else .off), reason := t.record.getD .none, checkpoint := t.checkpoint,
        checkpointOld := t.checkpointOld, record := t.record }
  else
    { t with
        plan := none, burst := none, gateOpen := false, line := 0, tail := none, sel := none, counters := txReset.counters, trims := t.checkpoint }

/-- The transmit side; a calibration setting that waited is in the configuration store (R195). Assumption 66. -/
def resetTx (cold : Bool) (x : Tx) : Tx :=
  { txAllReset with
      txs := tabMap txReset (fun _ t => resetTransmitter cold t) x.txs
      cfg := { x.cfg with calEnable := x.calPending.getD x.cfg.calEnable } }

/-- Express circuits and tributaries: configuration and pages stand (R262, R268, R271). Assumption 42. -/
def resetExpress (x : Express) : Express :=
  { expressReset with
      groups := tabMap expGroupReset (fun _ g => { expGroupReset with cfg := g.cfg, map := g.map, bridged := g.bridged }) x.groups
      pairs := tabMap none (fun _ p => p.map (fun q =>
        { pairReset with protect := q.protect, revertive := q.revertive, holdOff := q.holdOff, wtr := q.wtr })) x.pairs
      tribs := tabMap tributaryReset (fun _ t => { tributaryReset with ttype := t.ttype, client := t.client, lane := t.lane }) x.tribs
      stage := x.stage
      wings := x.wings }

/-- Line security: keys and associations go; MRAM records, the policy, and locked rules and DEBUG_OPEN through a warm reset stay (R358,
R376, R380, R383, R419). Assumptions 34, 99 and 100. -/
def resetSecurity (cold : Bool) (x : Security) : Security :=
  { securityReset with
      seq := { sequenceReset with recA := x.seq.recA, recB := x.seq.recB, disabled := x.seq.disabled }
      rollbackA := x.rollbackA
      rollbackB := x.rollbackB
      policy := x.policyNext
      policyNext := x.policyNext
      entropyFailures := (if cold then 0 else x.entropyFailures)
      debugOpen := x.debugOpen && !cold
      rules := (if cold then factoryRules
        else (x.rules.filter (fun r => bitOf r.2.flags 3)).foldl (fun t r => tabSet fwRuleReset t r.1 r.2) factoryRules) }

/-- The ports: configuration stands, and each port restarts from DISABLED once Zordin runs (R287, R542). -/
def resetPorts (now : Nat) (x : Ports) : Ports :=
  { portsReset with
      ports := tabMap portReset (fun _ p => { portReset with cfg := p.cfg, los := p.los, carriers := p.carriers }) x.ports
      slow := { slowBucketReset with rate := x.slow.rate, burst := x.slow.burst, fill := x.slow.burst * 140, at_ := now } }

/-- Time: a warm reset keeps the servo and PPS; the timestamp queue and the channels go (R542, R579). Assumption 100. -/
def resetTime (cold : Bool) (asym : Tab Int) (x : Time) : Time :=
  let cfg := x.pendingCfg.getD x.cfg
  if cold then { timeReset with cfg := cfg, selected := cfg.primary, asym := asym, ptm := { ptmReset with enable := x.ptm.enable, interval := x.ptm.interval } }
  else
    { x with
      captures := [0, 0], tsq := [], tsqLo := 0, tsqOvf := false, tsqDrops := 0, tsqNew := none, tsqLost := none, holding := [],
      tsPorts := [], steps := 0, switches := 0,
      holdovers := 0, ptmFails := 0, noChannel := 0 }

/-- The start-up part: the boot count steps; MRAM stands; a cold reset forgets the rails and the training of the stacks (R542). -/
def resetStartup (cold : Bool) (cause : ResetCause) (u : Startup) : Startup :=
  { u with
    running := false, recovery := false, strongroomOk := false, lastReset := cause, boots := (u.boots + 1) % 2 ^ 32,
    vinGoodAt := (if cold then none else u.vinGoodAt), railsUp := u.railsUp && !cold, coresAt := none, tZordin := 0, tReg := 0,
    pendingReset := none, verifying := false, hbm := (if cold then List.replicate 4 hbmStackReset else u.hbm), startUpDone := false }

/-- The stacks lose power: those that are retired stay so until a cold reset (R345, R542). -/
def stacksOff (hs : List HbmStack) : List HbmStack := hs.map (fun h => if h.retired then h else hbmStackReset)

/-- A tile loses power: one that has FAILED stays so until a cold reset (R484, R542). -/
def tileUnpowered (t : Tile) : Tile := if t.phase = .failed then t else tileOff t

/-- The island: a warm reset keeps its hardware; the FIFOs of sensor channels are lost at every reset (R506, R542). -/
def resetIsland (cold : Bool) (now : Nat) (x : Island) : Island :=
  let chans := tabMap sensorChannelReset (fun _ c => { c with fifo := [] }) x.channels
  if cold then { islandReset with
    zero := now, cfg := x.cfg, inForce := x.cfg,
    channels := tabMap sensorChannelReset (fun _ c => { c with drops := 0, highRun := 0, lowRun := 0 }) chans }
  else { x with channels := chans, chain := { x.chain with swap := x.chain.swap.map (fun _ => none) } }

/-- Power: a warm reset keeps it, but for what the planes and the gates of the secure world had asked; a cold reset starts over, with MRAM
counters 0 to 5, the configuration, and the supplies as they are (R519, R536, R542). -/
def resetPower (cold : Bool) (now : Nat) (p : Power) : Power :=
  if cold then
    { powerReset with
        cfg := p.cfg, vin := p.vin, vinGood := p.vinGood, aux := true, throttledAt := now,
        startWanted := some (if p.vinGood then 4 else 0)
        store := { storeReset p.cfg.cNom with volt := p.store.volt, current := p.store.current }
        counters := p.counters.take 6 ++ List.replicate 6 0 }
  else { p with transition := none, planesHeld := [], gateReq := [], trigger := none, curtain := none }

/-- The core die, and with a cold reset the whole module, starts over; the image that runs then is for the next image choice (R542, R547,
R579). Assumption 66. -/
def resetModule (cold : Bool) (cause : ResetCause) (s : State) : State :=
  let now := s.clock.now
  let out := if cold then 0 else s.clock.outTime
  let s := { s with
    chans := tabMap chanSlotReset (fun k c => resetChannel out k c) s.chans
    zordin := resetZordin cold s.zordin
    ev := resetEvents cold now s.ev
    start := { resetStartup cold cause s.start with image := none }
    cue := resetCue cold s.cue
    join := { joinReset with cfg := s.join.cfg }
    grants := { grantsReset with piggy := s.grants.piggyNext, piggyNext := s.grants.piggyNext }
    tx := resetTx cold s.tx
    rx := { rxReset with member := s.rx.memberNext, memberNext := s.rx.memberNext }
    express := resetExpress s.express
    power := resetPower cold now s.power
    island := resetIsland cold now s.island
    sec := resetSecurity cold s.sec
    ports := resetPorts now s.ports
    queues := { queuesReset with voqCfg := s.queues.voqCfg }
    hq := hostQueuesReset
    time := resetTime cold s.join.cfg.asym s.time }
  if cold then
    holdIf s.pins.strapFault 0x0101 1922 .major 0 0 { s with
        clock := { s.clock with outTime := 0, rate := 0, steer := none, slot := 0, slotAt := now }
        pins := { s.pins with
          ppsOut := false, pcieRetained := false, retained := false, pcieReleased := false, strapped := false } }
  else noticeToSideband ⟨1, 1, stamp s⟩ (noticeToSideband ⟨1, 0, stamp s⟩ s)

/-- The core die loses power without a reset of the island, as in STANDBY: what it held is gone (R513). Its counters and channels go as a
warm reset takes them; MRAM, the alarm table and the boot count stand. The root leaves HOLDOVER (R83). Assumption 61. -/
def loseCoreDie (s : State) : State :=
  let s := clear 0x0102 1921 0 0 s
  let now := s.clock.now
  let tiles := tabMap tileReset (fun _ t => tileUnpowered t) s.ev.tiles
  { s with
    chans := tabMap chanSlotReset (fun k c => resetChannel 0 k c) s.chans
    zordin := resetZordin false s.zordin
    ev := { resetEvents false now s.ev with seq := s.ev.seq, tiles := tiles }
    start := { resetStartup true s.start.lastReset s.start with
      boots := s.start.boots, pendingReset := s.start.pendingReset, hbm := stacksOff s.start.hbm, startUpDone := false }
    cue := resetCue true s.cue
    join := { joinReset with cfg := s.join.cfg }
    grants := { grantsReset with piggy := s.grants.piggyNext, piggyNext := s.grants.piggyNext }
    tx := resetTx true s.tx
    rx := { rxReset with member := s.rx.memberNext, memberNext := s.rx.memberNext }
    express := resetExpress s.express
    sec := { resetSecurity false s.sec with owned := s.sec.owned, deferred := s.sec.deferred }
    ports := resetPorts now s.ports
    queues := { queuesReset with voqCfg := s.queues.voqCfg }
    hq := hostQueuesReset
    time := resetTime true s.join.cfg.asym s.time
    pins := { s.pins with pcieReleased := false, ppsOut := false }
    clock := { s.clock with outTime := 0, rate := 0, steer := none, slot := 0, slotAt := now } }

end Sys2Proof.Machine
end

