-- ==== Sys2Proof/Machine/StartRows.lean ====
section
/-! DEFINITION. The commands 0x1001 to 0x1007: resets and firmware images (R546 to R553). -/

namespace Sys2Proof.Machine

/-- A command of 0x10xx: the Stagehand executes it always, in recovery too (R548). PF1 may issue only FW_STATUS (R553). Assumption 27. -/
def fwCommand (src : Source) (tag : Nat) (req : List Word) (words : Nat) (body : State → Reply × State) (s : State) : Result :=
  runCommand true src tag req ⟨words, src != .pf1, true⟩ body s

/-- The frames held are counted as lost by the warm reset that begins (R536, R542). -/
def countWarmLoss (s : State) : State :=
  let n := framesHeld s
  modPower (fun p => { p with counters := p.counters.set 11 (min n (2 ^ 32 - 1)) }) s

/-- A warm reset (R541, R542). -/
def warmReset (cause : ResetCause) (s : State) : State := resetModule false cause (countWarmLoss s)

/-- RESET of a kind: 0 warm, 1 cold (R541). -/
def resetOfKind (kind : Nat) (s : State) : State := if kind = 0 then warmReset .resetWarm s else resetModule true .resetCold s

/-- RESET: the response is written and the reset begins; during a Curtain it waits for its end (R553). Assumption 62. -/
def execReset (src : Source) (tag : Nat) (req : List Word) (s : State) : Result :=
  let kind := fieldOf (wordAt req 0) 0 1
  fwCommand src tag req 1 (fun s =>
    let s := respond src tag .ok [] s
    if s.power.curtain.isSome then (.later, modStart (fun u => { u with pendingReset := some kind }) s)
    else (.later, resetOfKind kind s)) s

/-! ### Images (R546, R547, R552) -/

/-- The anti-rollback counter: the higher valid copy (R387). -/
def rollbackCounter (x : Security) : Nat :=
  max (if x.rollbackA.valid then x.rollbackA.value else 0) (if x.rollbackB.valid then x.rollbackB.value else 0)

/-- Fields of an image header (R546). -/
def imageMagicOk (i : FwImage) : Bool := imageWord i 0 == 0x166400F1
def imageStepping (i : FwImage) : Nat := imageWord i 16 % 2 ^ 16
def imageVersionWord (i : FwImage) : Nat := imageWord i 8
def imageSecurity (i : FwImage) : Nat := imageWord i 12

/-- The check that an image fails first, as FW_VERIFY numbers them: 1 header, 4 stepping, 2 signature, 3 sec_version; none when all
hold (R547, R552). Assumption 65. -/
def imageFault (i : FwImage) (signatures : Bool) (counter : Nat) : Option Nat :=
  if !imageMagicOk i then some 1
  else if imageStepping i ≠ 0xB1B1 then some 4
  else if !signatures then some 2
  else if imageSecurity i < counter then some 3
  else none

/-- The image that is not running; in recovery the one that is not preferred (R552). -/
def inactiveImage (s : State) : Nat :=
  match s.start.image with
  | some i => 1 - i
  | none => 1 - (bootRecord s.start).preferred

/-- Rewrites an image region. -/
def modImage (i : Nat) (g : FwImage → FwImage) (u : Startup) : Startup := if i = 0 then { u with imgA := g u.imgA } else { u with imgB := g u.imgB }

/-- last_reset (R552). -/
def resetCauseCode : ResetCause → Nat
  | .powerOn => 0
  | .resetN => 1
  | .resetCold => 2
  | .resetWarm => 3
  | .watchdog => 4
  | .curtainAux => 5

/-- The three words of an image in FW_STATUS. -/
def imageStatus (i : FwImage) : List Word :=
  [pack [(0, bitNat (imageMagicOk i)), (1, bitNat i.verified)], wordOf (imageVersionWord i), wordOf (imageSecurity i)]

/-- FW_STATUS (R552, R553). -/
def execFwStatus (src : Source) (tag : Nat) (req : List Word) (s : State) : Result :=
  let u := s.start
  let r := bootRecord u
  runCommand true src tag req ⟨0, true, true⟩ (fun s =>
    okay ([pack [(0, u.image.getD 0), (1, r.preferred), (2, bitNat r.trial), (4, r.tries), (6, bitNat r.autoCommit),
        (7, bitNat u.recovery), (8, resetCauseCode u.lastReset)],
        wordOf (rollbackCounter s.sec), wordOf u.boots] ++ imageStatus u.imgA ++ imageStatus u.imgB ++
      [wordOf u.tZordin, wordOf u.tReg]) s) s

/-- FW_WRITE writes image bytes in host-memory order (R7, R552, R553). Assumption 59. -/
def execFwWrite (src : Source) (tag : Nat) (req : List Word) (s : State) : Result :=
  let offset := fieldOf (wordAt req 0) 0 25
  let count := fieldOf (wordAt req 0) 25 7
  let data := (List.range count).map (fun i => wordAt req (1 + i))
  fwCommand src tag req 1 (fun s =>
    let i := inactiveImage s
    let r := bootRecord s.start
    if offset % 4 != 0 || 25165824 < offset + 4 * count || count == 0 || 120 < count || req.length < 1 + count then refuse .badArg s
    else if r.trial && r.preferred == i then refuse .conflict s
    else if s.start.verifying then refuse .busy s
    else okay [] (modStart (modImage i (fun x => ⟨memWrite x.bytes offset (bytesOfWords data), false⟩)) s)) s

/-- FW_VERIFY (R553). -/
def execFwVerify (src : Source) (tag : Nat) (req : List Word) (s : State) : Result :=
  fwCommand src tag req 0 (fun s =>
    (.accepted, startLong src tag .fwVerify (modStart (fun u => { u with verifying := true }) s))) s

/-- FW_VERIFY_DONE: `signatureOk` says whether both signatures verify; verified is set on OK, and the final response carries the result
(R553). -/
def execFwVerifyDone (signatureOk : Bool) (s : State) : Result :=
  if !s.start.verifying then .next s
  else
    let i := inactiveImage s
    let s := modStart (fun u => { u with verifying := false }) s
    match imageFault (imageOf i s) signatureOk (rollbackCounter s.sec) with
    | none =>
      let s := modStart (modImage i (fun x => { x with verified := true })) s
      .next (endLongs (fun k => k == .fwVerify) .ok [0] s)
    | some r => .next (endLongs (fun k => k == .fwVerify) .conflict [wordOf r] s)

/-- FW_ACTIVATE (R547, R553). -/
def execFwActivate (src : Source) (tag : Nat) (req : List Word) (s : State) : Result :=
  let auto := bitOf (wordAt req 0) 0
  fwCommand src tag req 1 (fun s =>
    let i := inactiveImage s
    if !(imageOf i s).verified then refuse .notReady s
    else if (bootRecord s.start).trial then refuse .conflict s
    else okay [] (modStart (fun u =>
      writeBoot { bootRecord u with preferred := i, trial := true, tries := 0, autoCommit := auto } u) s)) s

/-- FW_COMMIT ends the trial (R547, R553). -/
def execFwCommit (src : Source) (tag : Nat) (req : List Word) (s : State) : Result :=
  fwCommand src tag req 0 (fun s =>
    let r := bootRecord s.start
    if !r.trial || s.start.image != some r.preferred then refuse .conflict s else okay [] (endTrial s)) s

/-- The anti-rollback counter rises in the copy that does not govern (R387). -/
def raiseRollback (v : Nat) (x : Security) : Security :=
  if v ≤ rollbackCounter x then x
  else if x.rollbackA.valid && (!x.rollbackB.valid || x.rollbackB.value ≤ x.rollbackA.value) then { x with rollbackB := ⟨v, true⟩ }
  else { x with rollbackA := ⟨v, true⟩ }

/-- ARB_RAISE: the counter becomes the sec_version of the running image; a lower or equal value leaves it (R553). -/
def execArbRaise (src : Source) (tag : Nat) (req : List Word) (s : State) : Result :=
  let force := bitOf (wordAt req 0) 0
  fwCommand src tag req 1 (fun s =>
    let other := imageOf (inactiveImage s) s
    let v := match s.start.image with
      | some i => imageSecurity (imageOf i s)
      | none => 0
    if (bootRecord s.start).trial || (imageMagicOk other && decide (imageSecurity other < v) && !force) then refuse .conflict s
    else
      let s := { s with sec := raiseRollback v s.sec }
      okay [wordOf (rollbackCounter s.sec)] s) s

end Sys2Proof.Machine
end

