-- ==== Sys2Proof/Machine/StartEvents.lean ====
section
/-! DEFINITION. Resets, straps and start-up (R37, R38, R47, R51, R420, R493, R539 to R550). -/

namespace Sys2Proof.Machine

/-! ### Start-up from STANDBY (R514, R543) -/

/-- The power-up of chapter 20 begins: VIN regulators enabled, on the way to wake_target (R514, R543). -/
def powerUp (wake : Nat) (s : State) : State :=
  let s := modPower (fun p => { p with
    lastWake := wake, heldWake := none, startWanted := none, wakeAt := none,
    transition := some ⟨p.cfg.wakeTarget, s.clock.now, [], false⟩ }) s
  modStart (fun u => { u with vinGoodAt := some s.clock.now }) s

/-- The Stagehand may enable the regulators that VIN feeds: AUX is present, RESET_N high, the straps latched without MFG_TEST (R41, R47,
R51, R52, R539). -/
def mayPower (s : State) : Bool := s.power.aux && s.pins.resetN && s.pins.strapped && !s.pins.mfgTest

/-- A wake in STANDBY: it takes effect once VIN is good, and until then one wake is held; while a transition runs, or without AUX, it is
ignored (R41, R516). -/
def wakeStandby (wake : Nat) (s : State) : State :=
  if s.power.transition.isSome || !s.power.aux then s
  else if s.power.vinGood && mayPower s then powerUp wake s
  else modPower (fun p => { p with heldWake := some (p.heldWake.getD wake) }) s

/-- VIN is good and the straps are latched: a start after a reset or a Curtain, or the wake that is held (R514, R516, R539). -/
def tryStart (s : State) : State :=
  let p := s.power
  if p.state != .standby || !p.vinGood || p.transition.isSome || !mayPower s then s
  else
    match p.startWanted, p.heldWake with
    | some 4, w => if p.cfg.autoRestart then powerUp 4 s else (match w with | some k => powerUp k s | none => s)
    | some k, _ => powerUp k s
    | none, some k => powerUp k s
    | none, none => s

/-- VIN_GOOD: VIN at 42 V or above for 100 ms with PWRFAIL_N high (R514, R539, R543). -/
def execVinGood (s : State) : Result :=
  let s := { s with pins := { s.pins with pwrfailN := true } }
  .next (tryStart (modPower (fun p => { p with vin := true, vinGood := true }) s))

/-- A tile with power again: one whose failure is recorded trains, one that has FAILED since the last cold reset stays off, any other runs
(R484, R543). Assumption 80. -/
def tilePowered (now : Nat) (x : Tile) : Tile :=
  if x.phase = .failed then x else { x with phase := if x.record then .retrain else .running, attempts := 0, tryFrom := now }

/-- The events of a tile that runs again end (R485). -/
def tellTiles (s : State) : State :=
  forEach (fun t s =>
    if (tabGet tileReset s.ev.tiles t).phase = .running then clear 0x0D02 (srcTile t) 0 0 (clear 0x0D01 (srcTile t) 0 0 s) else s)
    (List.range 8) s

/-- RAIL_UP: rails in regulation; tiles, HBM and the cue receivers have power, and PCIe pads leave retention (R57, R484, R543). A tile whose
failure is recorded trains again. Assumption 67. -/
def execRailUp (s : State) : Result :=
  if s.start.vinGoodAt.isNone || s.start.railsUp then .next s
  else
    let s := modStart (fun u => { u with railsUp := true }) s
    let s := { s with pins := { s.pins with pcieRetained := false } }
    let tiles := (List.range 8).foldl (fun t k => tabMod tileReset t k (tilePowered s.clock.now)) s.ev.tiles
    .next (powerCueLanes (openForIsland 0 (tellTiles { s with ev := { s.ev with tiles := tiles } })))

/-- STRAP_SAMPLE: sets of three reads of SLOT_ID and MFG_TEST; the first set that agrees is latched, and after nine without agreement the
last read and the fault (R51, R52). -/
def strapSets : Nat → List (Nat × Bool) → Option (Nat × Bool)
  | 0, _ => none
  | n + 1, a :: b :: c :: rest => if a = b ∧ b = c then some a else strapSets n rest
  | _ + 1, _ => none

def execStrapSample (reads : List (Nat × Bool)) (s : State) : Result :=
  let latch := fun (r : Nat × Bool) (fault : Bool) =>
    let s := { s with pins := { s.pins with slotId := r.1 % 64, mfgTest := r.2, strapFault := fault, strapped := true } }
    tryStart (holdIf fault 0x0101 1922 .major 0 0 s)
  match strapSets 9 reads with
  | some r => .next (latch r false)
  | none =>
    match (reads.take 27).getLast? with
    | some r => .next (latch r true)
    | none => .next s

/-! ### Resets (R541, R542) -/

/-- POWER_ON_RESET: AUX rises. After a Curtain of cause 4 it is a cold reset (R541). -/
def execPowerOnReset (s : State) : Result :=
  if s.power.lastCause = 4 && !s.power.aux then .next (resetModule true .curtainAux s) else .next (resetModule true .powerOn s)

/-- RESET_N low for 10 µs: a cold reset; during a Curtain it waits (R47). Assumption 62. -/
def execResetN (s : State) : Result :=
  let s := { s with pins := { s.pins with resetN := false } }
  if s.power.curtain.isSome then .next (modPower (fun p => { p with resetHeld := true }) s) else .next (resetModule true .resetN s)

/-- RESET_N_RELEASE (R47, R51). -/
def execResetNRelease (s : State) : Result :=
  .next (modPower (fun p => { p with resetHeld := false }) { s with pins := { s.pins with resetN := true } })

/-- WARM_RESET (R542). -/
def execWarmReset (s : State) : Result := .next (warmReset .resetWarm s)

/-- WATCHDOG_RESET: a core missed two heartbeats in a row (R541, R551). -/
def execWatchdogReset (core : Nat) (s : State) : Result :=
  .next (raise 0x1004 1992 .major 0 (wordOf core) (warmReset .watchdog s))

/-- BROWN_OUT_RESET: the island alone restarts from ROM in NORMAL; what the SMBus slave and the console held is gone (R491, R493;
assumption 102). Assumption 57. -/
def execBrownOutReset (s : State) : Result :=
  let s := modIsland (fun x => { x with
    low := false, modeReq := 0, bor := true, borCount := satAdd 16 x.borCount 1, waiting := false, wakePending := false,
    inForce := x.cfg, chain := chainReset, channels := tabMap sensorChannelReset (fun _ c => { c with fifo := [] }) x.channels,
    console := { consoleReset with counters := x.console.counters } }) s
  let s := modSb (fun b => { b with
    partialReq := none, requests := [], outstanding := [], responses := [], rspFragment := 0, heldRsp := [], ntfs := [],
    rejected := false }) (dropLongs .sideband s)
  .next (raise 0x0E07 1991 .major 0 (wordOf s.island.borCount) s)

/-- FLR of a function (R420). -/
def execFlr (func : Nat) (s : State) : Result := .next (flrFunction func s)

/-- PERST_N: low, it resets the PCIe controller and both functions, and holds the controller in reset until it is high again. While the pad
is in retention its level changes nothing until it is sampled again (R38, R56, R57, R420). -/
def execPerstN (high : Bool) (s : State) : Result :=
  let s := { s with pins := { s.pins with perstN := high } }
  if high || s.pins.pcieRetained then .next s else .next (flrFunction 1 (flrFunction 0 s))

/-! ### Boot (R386, R543 to R548) -/

/-- An image that fails is reported: the image in bit 0 and the failing check from bit 8 on (R547). -/
def imageInvalid (i r : Nat) (s : State) : State := raise 0x1005 1993 .major 0 (pack [(0, i), (8, r)]) s

/-- The trial step of the image choice (R547). -/
def trialStep (s : State) : State :=
  let r := bootRecord s.start
  if !r.trial then s
  else if 3 ≤ r.tries then
    raise 0x1006 1993 .major 0 0 (modStart (writeBoot { r with preferred := 1 - r.preferred, trial := false }) s)
  else modStart (writeBoot { r with tries := r.tries + 1 }) s

/-- The first of the images that passes every check starts; none enters recovery (R547, R548). Assumption 65. -/
def chooseImage (sig : Nat → Bool) : List Nat → State → State
  | [], s => hold 0x1007 1993 .critical 0 0 (modStart (fun u => { u with image := none, recovery := true }) s)
  | i :: is, s =>
    match imageFault (imageOf i s) (sig i) (rollbackCounter s.sec) with
    | none => clear 0x1007 1993 0 0 (modStart (fun u => { u with image := some i, recovery := false }) s)
    | some r => chooseImage sig is (imageInvalid i r s)

/-- An uncorrectable word of MRAM (R550). Assumption 103. -/
def mramUncorrectable (s : State) : State := raise 0x1009 1994 .major 0 0 s

/-- IMAGE_CHOICE: `sigA` and `sigB` say whether both signatures of an image verify; `badA` and `badB`, that a word of a boot record copy is
uncorrectable, which makes the copy invalid (R547, R550). Assumptions 65 and 103. -/
def execImageChoice (sigA sigB badA badB : Bool) (s : State) : Result :=
  let s := if badA then mramUncorrectable (modStart (fun u => { u with recA := { u.recA with valid := false } }) s) else s
  let s := if badB then mramUncorrectable (modStart (fun u => { u with recB := { u.recB with valid := false } }) s) else s
  let s := trialStep s
  let p := (bootRecord s.start).preferred
  .next (chooseImage (fun i => if i = 0 then sigA else sigB) [p, 1 - p] s)

/-- The entropy source that has passed its start-up test when the Strongroom's firmware starts runs (R379, R543; assumption 99). -/
def startEntropy (s : State) : State :=
  if s.sec.entropy = .startupTest then { s with sec := { s.sec with entropy := .running, reseedAt := s.clock.now } } else s

/-- STRONGROOM_VERIFY: the Strongroom ROM accepts the Strongroom section of the chosen image, or not (R386, R543). Assumption 99. -/
def execStrongroomVerify (ok : Bool) (s : State) : Result :=
  let s := modStart (fun u => { u with strongroomOk := ok }) s
  .next (if ok then startEntropy s else s)

/-- A record of the configuration store is lost and its item takes its default (R550). Assumption 65. -/
def loseItem (i : StoreItem) (s : State) : State :=
  match i with
  | .join => { s with join := { s.join with cfg := { joinConfigReset with asym := s.join.cfg.asym } } }
  | .asym => { s with join := { s.join with cfg := { s.join.cfg with asym := [] } }, time := { s.time with asym := [] } }
  | .report => { s with grants := { s.grants with piggy := 16, piggyNext := 16 } }
  | .tx => { s with tx := { s.tx with cfg := txConfigReset } }
  | .membership => { s with rx := { s.rx with member := 0, memberNext := 0 } }
  | .group n => closeChan .expressGroup n { s with express := { s.express with groups := tabErase s.express.groups n } }
  | .tributary n => closeChan .tributary n { s with express := { s.express with tribs := tabErase s.express.tribs n } }
  | .pages => { s with express := { s.express with stage := [], wings := [] } }
  | .port n => modPort n (fun p => { p with cfg := portConfigReset }) s
  | .slowPath => { s with ports := { s.ports with slow := slowBucketReset } }
  | .voq n => modQueues (fun q => { q with voqCfg := tabErase q.voqCfg n }) s
  | .keyPolicy => { s with sec := { s.sec with policy := keyPolicyReset, policyNext := keyPolicyReset } }
  | .time => { s with time := { s.time with cfg := timeConfigReset, pendingCfg := none } }
  | .ptm => { s with time := { s.time with ptm := { s.time.ptm with enable := false, interval := 10 } } }
  | .destination n => modDest n (fun _ => destinationOf s.clock.now (destConfigReset (if n = 2 then 1 else 3))) s
  | .sensing => modIsland (fun x => { x with cfg := senseConfigReset }) s
  | .sensor n => closeChan .sensor n (modSensor n (fun _ => sensorChannelReset) s)
  | .power => modPower (fun p => { p with cfg := powerConfigReset }) s

/-- The number by which CONFIG_RECORD_LOST names a record. Assumption 65. -/
def itemCode : StoreItem → Nat
  | .join => 0x0201
  | .asym => 0x0204
  | .report => 0x0303
  | .tx => 0x0405
  | .membership => 0x0504
  | .group n => 0x10000 * n + 0x0601
  | .tributary n => 0x10000 * n + 0x0702
  | .pages => 0x0704
  | .port n => 0x10000 * n + 0x0801
  | .slowPath => 0x0810
  | .voq n => 0x10000 * n + 0x0901
  | .keyPolicy => 0x0A05
  | .time => 0x0B01
  | .ptm => 0x0B06
  | .destination n => 0x10000 * n + 0x0D01
  | .sensing => 0x0E01
  | .sensor n => 0x10000 * n + 0x0E03
  | .power => 0x0F01

/-- Records that are lost, in order. -/
def loseItems : List StoreItem → State → State
  | [], s => s
  | i :: is, s => loseItems is (raise 0x100A 1994 .major 0 (wordOf (itemCode i)) (loseItem i s))

/-- MRAM words that were corrected while they were read (R550). -/
def mramCorrected : Nat → State → State
  | 0, s => s
  | n + 1, s => mramCorrected n (raise 0x1008 1994 .minor 0 0 s)

/-- A black-box entry of which a word is uncorrectable: its CRC no longer holds (R550). Assumption 103. -/
def spoilEntry (ws : List Word) : List Word := ws.take 7 ++ [wordAt ws 7 ^^^ 0xFFFF0000]

/-- What an uncorrectable word of MRAM leaves of its record: a copy invalid, a disable mark set, an entry invalid, a counter at 0, a failure
record as failed, and the trims of the other copy or the factory's (R550; assumption 103). -/
def mramLose (m : MramWord) (s : State) : State :=
  let modSec (g : Security → Security) : State := { s with sec := g s.sec }
  match m with
  | .rollback false => modSec (fun x => { x with rollbackA := { x.rollbackA with valid := false } })
  | .rollback true => modSec (fun x => { x with rollbackB := { x.rollbackB with valid := false } })
  | .sequence false => modSec (fun x => { x with seq := { x.seq with recA := { x.seq.recA with valid := false } } })
  | .sequence true => modSec (fun x => { x with seq := { x.seq with recB := { x.seq.recB with valid := false } } })
  | .disableMark => modSec (fun x => { x with seq := { x.seq with disabled := true } })
  | .blackBox i => { s with ev := { s.ev with blackBox := s.ev.blackBox.modify i spoilEntry } }
  | .bootCount => modStart (fun u => { u with boots := 0 }) s
  | .powerCounter i => modPower (fun p => { p with counters := if i < 6 then p.counters.set i 0 else p.counters }) s
  | .failure x =>
    if (txOf x s).record.isSome then s
    else modTx x (fun t => { t with record := some .gate, phase := .failed, reason := .gate }) s
  | .tileFailure t => { s with ev := { s.ev with tiles := tabMod tileReset s.ev.tiles t (fun x => { x with record := true }) } }
  | .trims x both => modTx x (fun t => { t with checkpoint := if both then [] else t.checkpointOld }) s

/-- Uncorrectable words, in order. Assumption 103. -/
def loseWords : List MramWord → State → State
  | [], s => s
  | m :: ms, s => loseWords ms (mramUncorrectable (mramLose m s))

/-- The quarantines start again with a full second (R439). Assumption 68. -/
def restartQuarantines (s : State) : State :=
  { s with chans := tabMap chanSlotReset (fun _ c => if c.quarantined then { c with quarEnd := s.clock.outTime + secOut } else c) s.chans }

/-- The enabled ports start (R287, R542). -/
def startPorts (s : State) : State := forEach startPort (enabledPorts s) s

/-- GATE_STUCK is raised again for every transmitter whose gate fault MRAM records (R192). Assumption 106. -/
def tellGateStuck (s : State) : State :=
  forEach (fun x s =>
    if (txOf x s).record.isNone then s
    else gateStuck x (modAlarm (srcTx x) (fun e => { e with conds := e.conds.filter (fun c => c.code != 0x0407) }) s))
    (s.tx.txs.map (fun e => e.1)) s

/-- The codes of conditions whose machine starts over with every reset of the core die. Assumption 106. -/
def restartedCodes : List Nat :=
  [0x0203, 0x0204, 0x0205, 0x0206, 0x0207, 0x0209, 0x020B, 0x0211, 0x0214, 0x0501, 0x0502, 0x0601, 0x0602, 0x0603, 0x0604, 0x0605,
    0x0608, 0x0609, 0x060B, 0x0701, 0x0804, 0x0902, 0x0A05, 0x0A06]

/-- The conditions of one source that a machine which has started over no longer holds are cleared. Assumption 106. -/
def clearRestarted (src : Nat) : List Condition → State → State
  | [], s => s
  | c :: cs, s => clearRestarted src cs (if restartedCodes.contains c.code then clear c.code src c.detail 0 s else s)

/-- The same for each entry of the alarm table. -/
def clearEntries : List (Nat × AlarmEntry) → State → State
  | [], s => s
  | e :: es, s => clearEntries es (clearRestarted e.1 e.2.conds s)

/-- The alarm table comes through a warm reset and STANDBY unchanged; each machine that has started over then clears what it no longer
holds (R476, R542). Assumption 106. -/
def reevaluate (s : State) : State := clearEntries s.ev.alarms s

/-- With auto_join the terminal machine starts, once the root has its lock (R129, R543, R544). Assumption 113. -/
def autoJoin (s : State) : State :=
  if s.join.cfg.autoJoin && s.join.phase == .offline && s.start.running && s.cue.root.phase != .syncAcq then enterCueAcq s else s

/-- ZORDIN_RUNNING: the cores run; the configuration store is loaded, `corrected` words of MRAM having been corrected, the records `lost`
of the store being lost and the words `bad` of other records uncorrectable; stored channels are back, ports restart, and auto_join starts
the terminal machine (R129, R439, R543, R550). Assumption 113. -/
def execZordinRunning (corrected : Nat) (lost : List StoreItem) (bad : List MramWord) (s : State) : Result :=
  let u := s.start
  if u.running || u.recovery || u.image.isNone || !u.strongroomOk || !u.railsUp || s.pins.mfgTest then .next s
  else
    let ms := (s.clock.now - u.vinGoodAt.getD s.clock.now) / msCc
    let s := modStart (fun u => { u with running := true, coresAt := some s.clock.now, tZordin := ms }) s
    let s := { s with pins := { s.pins with pcieReleased := true } }
    let s := loseItems lost (loseWords bad (mramCorrected corrected (reevaluate s)))
    let s := tellGateStuck (startPorts (restartQuarantines s))
    .next (autoJoin s)

/-- SYNC_LOCK: lock to SYNC_REF is achieved, and cue acquisition waits for it no longer (R83, R544). Assumption 113. -/
def execSyncLock (s : State) : Result :=
  if s.cue.root.phase = .syncAcq then
    .next (autoJoin (clear 0x1001 1992 0 0 { s with
      cue := { s.cue with root := { s.cue.root with phase := .syncHeld } }, pins := { s.pins with syncRef := true } }))
  else .next s

/-- SYNC_REF_ABSENT: no lock 1 s after the cores started (R544). -/
def execSyncRefAbsent (s : State) : Result :=
  match s.start.coresAt, s.cue.root.phase with
  | some t, .syncAcq => .next (hold 0x1001 1992 .major 0 0 (advanceTo (t + secCc) { s with pins := { s.pins with syncRef := false } }))
  | _, _ => .next s

/-- HBM_TRAINING: one training attempt of a stack; the third that fails retires it (R345, R544, R545). -/
def execHbmTraining (stack : Nat) (trained : Bool) (s : State) : Result :=
  let h := s.start.hbm.getD stack hbmStackReset
  if s.cue.root.phase == .syncAcq || h.trained || h.retired || 3 ≤ h.attempts then .next s
  else
    let s := modStart (fun u => { u with hbm := u.hbm.modify stack (fun h => { h with attempts := h.attempts + 1, trained := trained }) }) s
    if trained || h.attempts < 2 then .next s
    else execHbmRetired stack (raise 0x1002 1992 .major 0 (wordOf stack) s)

end Sys2Proof.Machine
end

