-- ==== Sys2Proof/Machine/PowerRows.lean ====
section
/-! DEFINITION. The power commands 0x0F01 to 0x0F09 (R513 to R538). -/

namespace Sys2Proof.Machine

/-- The settings that POWER_STATE stores (R538). -/
def storeWake (wt : Nat) (auto : Bool) (after : Nat) (s : State) : State :=
  modPower (fun p => { p with cfg := { p.cfg with wakeTarget := wt, autoRestart := auto, wakeAfter := after } }) s

/-- The wake that a POWER_STATE of a source is (R537). -/
def commandWake (src : Source) : Nat := if src = .pf0 then 5 else 2

/-- POWER_STATE: a transition starts; in STANDBY it is a wake, which leads to wake_target (R514, R516, R538). Assumption 60. -/
def execPowerState (src : Source) (tag : Nat) (req : List Word) (s : State) : Result :=
  let w := wordAt req 0
  let target := fieldOf w 0 3
  let wt := fieldOf w 4 3
  command src tag req ⟨2, notPf1 src, true⟩ (fun s =>
    if 3 < target || 2 < wt then refuse .badArg s
    else if s.power.transition.isSome || s.power.state == .curtain then refuse .busy s
    else
      let s := storeWake wt (bitOf w 8) (wordAt req 1).toNat s
      if powerCode s.power.state = target then okay [wordOf target] s
      else
        let s := startLong src tag .powerState s
        if s.power.state = .standby then (.accepted, wakeStandby 2 s)
        else
          let s := if s.power.state = .dormant then modPower (fun p => { p with lastWake := commandWake src }) s else s
          (.accepted, beginTransition target s)) s

/-- Seconds to the timer wake (R537). -/
def wakeLeft (s : State) : Nat :=
  match s.power.wakeAt with
  | some t => (t - s.clock.now + secCc - 1) / secCc
  | none => 0

/-- The hottest junction and the first sensor that reads it. -/
def hottest (js : List Int) : Int × Nat :=
  js.zipIdx.foldl (fun a e => if a.1 < e.1 then (e.1, e.2) else a) (js.headD 0, 0)

/-- POWER_STATUS (R537, R538). -/
def execPowerStatus (src : Source) (tag : Nat) (req : List Word) (s : State) : Result :=
  command src tag req ⟨0, true, true⟩ (fun s =>
    let p := s.power
    let h := hottest p.junctions
    okay [pack [(0, powerCode p.state), (3, bitNat p.transition.isSome), (4, p.cfg.wakeTarget), (7, bitNat p.cfg.autoRestart),
          (8, p.lastWake), (12, p.lastCause), (16, throttleLevel p), (18, bitNat s.pins.retained)],
        wordOfInt p.inlet, wordOfInt p.outlet, pack [(0, unsignedOf 16 h.1), (16, h.2)], wordOf (wakeLeft s)] s) s

/-- PAD_RELEASE (R57, R517, R538). -/
def execPadRelease (src : Source) (tag : Nat) (req : List Word) (s : State) : Result :=
  command src tag req ⟨0, notPf1 src, true⟩ (fun s =>
    if !s.pins.retained then okay [] s
    else if !s.start.railsUp then refuse .notReady s
    else okay [] { s with pins := { s.pins with retained := false } }) s

/-- GATE_REQUEST: the owner's rule first, then the condition of R518; any gate that is not reserved may be opened, but gate 72 only as
R380 opens it (R382, R518, R519). -/
def execGateRequest (src : Source) (tag : Nat) (req : List Word) (s : State) : Result :=
  let g := fieldOf (wordAt req 0) 0 8
  let close := !bitOf (wordAt req 0) 8
  command src tag req ⟨1, notPf1 src, true⟩ (fun s =>
    if 72 < g then refuse .badArg s
    else if s.sec.owned.contains g then
      match deferGate false close g s with
      | (true, s) => refuse .deferred s
      | (false, s) => okay [] s
    else if gateClosed g s == close then okay [] s
    else if g == 72 || (close && !closeAllowed g s) then refuse .conflict s
    else okay [] (carryGate false close g s)) s

/-- One loop of THERMAL_STATUS. Its error and drive are measured: they are free values, the drive within 0 to 100 (R520, R521, R537). -/
def loopWord (i : Nat) (s : State) : Word × State :=
  let (v, s) := takeFree s
  let settled := if i < 512 then (txOf i s).settled else (s.power.demux.getD (i - 512) ⟨false, false⟩).settled
  let fault :=
    if i < 512 then s.power.heaterFault.contains i
    else
      let d := s.power.demux.getD (i - 512) ⟨false, false⟩
      d.settledOnce && !d.settled
  (pack [(0, fieldOf v 0 16), (16, fieldOf v 16 16 % 101), (24, bitNat settled), (25, bitNat fault)], s)

/-- The loops of a list. -/
def loopWords : List Nat → State → List Word × State
  | [], s => ([], s)
  | i :: is, s =>
    let (w, s) := loopWord i s
    let (ws, s) := loopWords is s
    (w :: ws, s)

/-- THERMAL_STATUS (R537, R538). Assumption 64. -/
def execThermalStatus (src : Source) (tag : Nat) (req : List Word) (s : State) : Result :=
  let first := fieldOf (wordAt req 0) 0 10
  let count := fieldOf (wordAt req 0) 16 6
  command src tag req ⟨1, true, false⟩ (fun s =>
    if count == 0 || 32 < count || 528 < first + count then refuse .badArg s
    else
      let (ws, s) := loopWords ((List.range count).map (first + ·)) s
      okay ws s) s

/-- THERMAL_CONFIG; 0 selects 45 °C (R522, R537, R538). -/
def execThermalConfig (src : Source) (tag : Nat) (req : List Word) (s : State) : Result :=
  let h := fieldOf (wordAt req 0) 0 6
  command src tag req ⟨1, notPf1 src, false⟩ (fun s =>
    if h != 0 && (h < 35 || 45 < h) then refuse .badArg s
    else okay [] (watchCoolant (modPower (fun p => { p with cfg := { p.cfg with coolantHigh := if h = 0 then 45 else h } }) s))) s

/-- STORE_CONFIG (R526, R537, R538). -/
def execStoreConfig (src : Source) (tag : Nat) (req : List Word) (s : State) : Result :=
  let c := fieldOf (wordAt req 0) 0 10
  command src tag req ⟨1, notPf1 src, true⟩ (fun s =>
    if c < 220 || 1000 < c then refuse .badArg s
    else
      let s := modPower (fun p => { p with cfg := { p.cfg with cNom := c } }) s
      okay [] (modStore (fun g => { g with cLearn := c * 100000, measured := false }) s)) s

/-- An energy in units of 0.1 mJ; 0 when it is absent. -/
def energyWord (e : Option Int) : Word := wordOfInt (e.getD 0 / 100000)

/-- The store field of STORE_STATUS (R537). -/
def storeCode (g : Store) : Nat := if g.missing then 2 else if g.fault then 3 else if g.charging then 1 else 0

/-- STORE_STATUS (R537, R538). -/
def execStoreStatus (src : Source) (tag : Nat) (req : List Word) (s : State) : Result :=
  command src tag req ⟨0, true, true⟩ (fun s =>
    let g := s.power.store
    let e := estimates s
    okay [pack [(0, unsignedOf 16 (gaugeV g / 1000)), (16, unsignedOf 16 (gaugeC s / 10000))], wordOfInt g.current,
        energyWord e.1, energyWord e.2, energyWord (some (energyFull s)),
        pack [(0, storeCode g), (2, bitNat g.skew), (3, bitNat e.1.isNone), (4, bitNat (fallenBack 2 s)), (5, bitNat g.measured)]] s) s

/-- POWER_COUNTERS (R536 to R538). -/
def execPowerCounters (src : Source) (tag : Nat) (req : List Word) (s : State) : Result :=
  let clear := bitOf (wordAt req 0) 0
  command src tag req ⟨1, notPf1Clear src clear, true⟩ (fun s =>
    let s := countThrottle s
    okay (s.power.counters.map wordOf)
      (cleared clear (modPower (fun p => { p with counters := List.replicate 12 0 })) s)) s

end Sys2Proof.Machine
end

