-- ==== Sys2Proof/Machine/Curtain.lean ====
section
/-! DEFINITION. The Curtain: its triggers, its start, its message, the energy gate, and the stop (R529 to R534). -/

namespace Sys2Proof.Machine

/-- A trigger: of several in one cycle the lowest cause stands; in STANDBY and in CURTAIN it is nothing (R514, R529). -/
def trigger (cause : Nat) (s : State) : State :=
  if s.power.state == .standby || s.power.state == .curtain then s
  else
    match s.power.trigger with
    | none => modPower (fun p => { p with trigger := some (cause, s.clock.now) }) s
    | some (c, t) => if t = s.clock.now then modPower (fun p => { p with trigger := some (min c cause, t) }) s else s

/-- The island alone has power: pads in retention, every gate that R518 lists closed, and what the core die held gone (R56, R513).
Assumption 61. -/
def enterStandby (s : State) : State :=
  let s := loseCoreDie s
  let s := modPower (fun p =>
    { p with
      transition := none, trigger := none, curtain := none, planesHeld := [], gateReq := []
      closedIsland := (targetGates 3 s).filter (fun g => !p.closedHost.contains g)
      demux := List.replicate 16 ⟨false, false⟩
      store := { p.store with charging := false }
      wakeAt := if p.cfg.wakeAfter = 0 then none else some (s.clock.now + p.cfg.wakeAfter * secCc) }) s
  let s := { s with pins := { s.pins with retained := s.power.aux, pcieRetained := s.power.aux } }
  enterPower .standby s

/-! ### The curtain call (R531, R533) -/

/-- A standing REPORT grant of the terminal covers slot `n` on a plane (R531). -/
def reportSheet (p n tn : Nat) (s : State) : Bool :=
  (grantsOf p s).sheets.any (fun e => match e.2 with | some h => h.kind == 3 && h.tn == tn && sheetCovers n h | none => false)

/-- 4 µs and 290 µs in cycles. -/
def callFrom : Nat := 7000
def callLimit : Nat := 507500

/-- The slot of the call planned on a plane: the first standing report grant that launches at least 4 µs after the trigger, unless its light
would end later than 290 µs after it (R530, R531). -/
def plannedCall (p tn t : Nat) (s : State) : Option Nat :=
  let slots := (List.range 400).map (s.clock.slot + ·)
  match slots.find? (fun n => reportSheet p n tn s && decide ((t + callFrom : Nat) ≤ launchInstant p n s)) with
  | none => none
  | some n => if lightEnd (launchInstant p n s) ≤ ((t + callLimit : Nat) : Int) then some n else none

/-- The calls planned on the planes that may send one (R531). -/
def plannedCalls (t : Nat) (s : State) : List (Nat × Nat) :=
  match s.join.tn with
  | none => []
  | some tn =>
    if s.power.state != .run || (lineKey hubKey s).epochs.isEmpty then []
    else
      (List.range 16).filterMap (fun p =>
        if tileDark (p / 2) s || (planeOf p s).phase != .active then none else (plannedCall p tn t s).map (fun n => (p, n)))

/-- An energy in units of 0.1 mJ, saturating at 65,535. -/
def callEnergy (e : Int) : Nat := min 65535 (e / 100000).toNat

/-- e_opt and e_call of R532 in nJ. -/
def energyOpt (e : Option Int × Option Int) : Int :=
  match e with
  | (some v, some c) => min v c
  | (some v, none) => v
  | (none, some c) => c
  | (none, none) => 0
def energyCall (e : Option Int × Option Int) : Int := (e.1.orElse (fun _ => e.2)).getD 0

/-- The curtain-call message (R533). With THERMAL_STOP both estimates are unbounded (R524). Assumption 85. -/
def callMessage (cause lost seq : Nat) (calls : List (Nat × Nat)) (s : State) : List Byte :=
  let e := estimates s
  let full := cause = 3
  let opt := if full then 65535 else callEnergy (energyOpt e)
  let call := if full then 65535 else callEnergy (energyCall e)
  bytesBE 64 (packBits 512
    [(0, 16, 0x0F5C), (16, 16, 64), (32, 128, s.serial), (160, 5, s.join.tn.getD 0), (165, 3, cause),
      (176, 48, sfnOf s.clock.slot), (224, 7, slotNoOf s.clock.slot),
      (232, 16, if e.1.isNone then 0 else (gaugeV s.power.store / 1000).toNat), (248, 16, opt), (264, 16, call),
      (280, 16, maskOf (fun p => calls.any (fun c => c.1 == p)) 16), (296, 8, maskOf (fun t => !tileDark t s) 8),
      (304, 16, ((List.range 256).filter (fun i => (chanSlot 0x01 i s).live)).length), (320, 32, min lost (2 ^ 32 - 1)), (352, 32, seq)])

/-! ### Start (R530) -/

/-- The gates that a Curtain closes at once: client dies, HBM, pipelines, egress SRAM and the charger (R518, R530). -/
def curtainGates : List Nat := (List.range 4).map (· + 16) ++ (List.range 4).map (· + 20) ++ (List.range 16).map (· + 24) ++ [45, 46]

/-- The Curtain of a cause takes effect (R530). Assumption 62. -/
def beginCurtain (cause t : Nat) (s : State) : State :=
  let s := countPower 0 1 (endLongs (fun k => k == .powerState) .aborted [] s)
  let calls := plannedCalls t s
  let lost := framesHeld s
  let seq := s.ev.seq
  let fromRun := s.power.state == .run
  let msg := callMessage cause lost seq calls s
  let c : Curtain :=
    { cause := cause, at_ := t, slot := s.clock.slot, fromRun := fromRun, vAbsent := fallenBack 1 s, cAbsent := fallenBack 2 s,
      calls := calls, called := [], refuseOptional := false, refuseAll := false, readAt := s.clock.now, message := msg }
  let s := modPower (fun p =>
    { p with
      lastCause := cause, trigger := none, transition := none, curtain := some c
      store := { p.store with charging := false }
      counters := (((p.counters.set 2 0).set 3 0).set 4 0).set 5 (min lost (2 ^ 32 - 1)) }) s
  let s := enterPower .curtain s
  let s := raise 0x0F0E 1990 .critical 0 (wordOf cause) s
  closeAtOnce curtainGates (emptyQueues (forEach powerDownPort (enabledPorts s) s))

/-- CURTAIN_START: a trigger takes effect no later than 2 µs after it; in DORMANT Zordin stops at once and the module goes to STANDBY
(R514, R529, R530). Assumption 61. -/
def execCurtainStart (s : State) : Result :=
  match s.power.trigger with
  | none => .next s
  | some (cause, t) =>
    if s.power.state = .dormant then .next (enterStandby (endLongs (fun k => k == .powerState) .aborted [] s))
    else .next (beginCurtain cause t (advanceTo (t + 2 * usCc) s))

/-! ### The energy gate (R532) -/

/-- A reading of the fast monitor: HOLD in mV and mA (R527). -/
def fastReading (mv ma : Int) (s : State) : State :=
  match s.power.curtain with
  | none => s
  | some c =>
    let ns := (s.clock.now - c.readAt) * 4 / 7
    modPower (fun p =>
      { p with
        store := { addCharge ma ns p.store with volt := mv }
        curtain := some { c with readAt := s.clock.now } }) s

/-- The store carries the module at 170 W for `cc` cycles with the margin of 1.7 mJ; energies in nJ (R532). -/
def carries (e cc : Int) : Bool := decide (680 * cc + 7 * 1700000 ≤ 7 * e)

/-- The end of the last call that is still planned, from now; 0 when none is (R532). -/
def lastCall (c : Curtain) (s : State) : Int :=
  c.calls.foldl (fun a k => max a (lightEnd (launchInstant k.1 k.2 s) - s.clock.now)) 0

/-- The decision of the energy gate for a burst that ends `tEnd` cycles from now, and the Curtain after it (R532). -/
def energyGate (isCall : Bool) (tEnd : Int) (c : Curtain) (s : State) : Bool × Curtain :=
  let e := estimates s
  if isCall then
    let send := !c.refuseAll && (c.cause == 3 || carries (energyCall e) tEnd)
    if send then (true, c) else (false, { c with calls := [], refuseAll := true, refuseOptional := true })
  else if c.refuseAll || c.refuseOptional then (false, c)
  else
    let send := c.cause == 3 || carries (energyOpt e) (max tEnd (lastCall c s))
    if send then (true, c) else (false, { c with refuseOptional := true })

/-! ### Stop (R534) -/

/-- The staged records are all written to the black box (R480, R534). -/
def flushBlackBox (s : State) : State :=
  { s with ev := { s.ev with
      staged := [], blackBox := ((s.ev.staged.map (blackBoxEntry s.pins.slotId)).reverse ++ s.ev.blackBox).take 256 } }

/-- A reset that waited for the end of the Curtain takes effect (R47, R553). Assumption 62. -/
def heldResets (held : Bool) (kind : Option Nat) (s : State) : State :=
  if held then resetModule true .resetN s
  else
    match kind with
    | some k => resetOfKind k s
    | none => s

/-- CURTAIN_STOP: the last burst sent has ended; everything stops, CURTAIN_DONE is raised with the calls sent and the bursts refused, and
the module is in STANDBY, or unpowered without AUX (R530, R534). -/
def execCurtainStop (s : State) : Result :=
  match s.power.curtain with
  | none => .next s
  | some c =>
    let n := s.power.counters
    let held := s.power.resetHeld
    let kind := s.start.pendingReset
    let s := raise 0x0F0F 1990 .major 0 (pack [(0, min (n.getD 2 0) 65535), (16, min (n.getD 4 0) 65535)]) s
    let s := flushBlackBox (enterStandby s)
    let s := modPower (fun p => { p with startWanted := if c.cause = 3 then none else some 4 }) s
    .next (heldResets held kind s)

end Sys2Proof.Machine
end

