-- ==== Sys2Proof/Machine/JoinRows.lean ====
section
/-! DEFINITION. The join commands 0x0201 to 0x0208 (R140, R141) and the stage messages of joining (R118 to R139). -/

namespace Sys2Proof.Machine

/-! ### Commands -/

/-- JOIN_CONFIG (R140, R141). -/
def execJoinConfig (src : Source) (tag : Nat) (req : List Word) (s : State) : Result :=
  command src tag req ⟨2, pf0Only src, false⟩ (fun s =>
    if s.join.phase ≠ .offline then refuse .conflict s
    else
      okay [] { s with join := { s.join with cfg := { s.join.cfg with
        stageId := wordAt req 0, planeEnable := fieldOf (wordAt req 1) 0 16, autoJoin := bitOf (wordAt req 1) 16 } } }) s

/-- A JOIN_START is pending (R141). -/
def joinStartPending (s : State) : Bool := s.zordin.longs.any (fun l => l.kind == .joinStart)

/-- JOIN_START: from OFFLINE, and from REJECTED with reason 1, T_CUE starts; from REJECTED with another reason the hub's hold-off
runs on (R129, R141). -/
def execJoinStart (src : Source) (tag : Nat) (req : List Word) (s : State) : Result :=
  command src tag req ⟨0, pf0Only src, false⟩ (fun s =>
    if s.join.phase ≠ .offline ∧ s.join.phase ≠ .rejected then refuse .conflict s
    else if joinStartPending s then refuse .busy s
    else
      let s := startLong src tag .joinStart s
      if s.join.phase = .rejected ∧ s.join.rejectReason ≠ 1 then (.accepted, s) else (.accepted, enterCueAcq s)) s

/-- Numbers of the terminal's, a plane's and the ownership states (R140). -/
def termCode : TermPhase → Nat
  | .offline => 0
  | .cueAcq => 1
  | .discWait => 2
  | .discSent => 3
  | .identity => 4
  | .assigned => 5
  | .registered => 6
  | .rejected => 7
  | .leaving => 8

def planeCode : PlanePhase → Nat
  | .down => 0
  | .waitWindow => 1
  | .ranging => 2
  | .equalised => 3
  | .active => 4
  | .suspended => 5
  | .skewed => 6
  | .held => 7

def ownCode : Ownership → Nat
  | .unowned => 0
  | .ownedA => 1
  | .ownedB => 2
  | .contested => 3

/-- The words of JOIN_STATUS (R140). Assumption 37. -/
def joinStatusWords (s : State) : List Word :=
  pack [(0, termCode s.join.phase), (4, s.join.tn.getD 0), (9, bitNat s.join.tn.isSome), (16, s.join.round % 256),
    (24, s.join.rejectReason % 256)] ::
  (List.range 16).map (fun p => pack [(0, planeCode (planeOf p s).phase), (8, min 255 (planeOf p s).fails)])

/-- JOIN_STATUS (R140, R141). -/
def execJoinStatus (src : Source) (tag : Nat) (req : List Word) (s : State) : Result :=
  command src tag req ⟨0, true, false⟩ (fun s => okay (joinStatusWords s) s) s

/-- ASYM_SET: bits 31:24 of word 2 must be the sign extension of bit 23. The value serves the downstream delay from the next
superframe boundary on (R112, R140, R141). -/
def execAsymSet (src : Source) (tag : Nat) (req : List Word) (s : State) : Result :=
  let p := (wordAt req 0).toNat
  let w := wordAt req 1
  command src tag req ⟨2, pf0Only src, false⟩ (fun s =>
    if 15 < fieldOf (wordAt req 0) 0 4 ∨ fieldOf w 24 8 ≠ (if bitOf w 23 then 255 else 0) then refuse .badArg s
    else
      okay [] { s with join := { s.join with cfg := { s.join.cfg with
        asym := tabSet 0 s.join.cfg.asym (p % 16) (signedOf 24 w.toNat) } } }) s

/-- A plane after PLANE_HOLD: a hold waits for the superframe boundary; a release withdraws it, or takes a HELD plane DOWN
(R130). -/
def applyHold (hold : Bool) (m : PlaneMachine) : PlaneMachine :=
  if hold then { m with holdPending := m.phase != .held }
  else if m.phase = .held then planeDown { m with holdPending := false }
  else { m with holdPending := false }

/-- PLANE_HOLD (R130, R140, R141). -/
def execPlaneHold (src : Source) (tag : Nat) (req : List Word) (s : State) : Result :=
  let mask := fieldOf (wordAt req 0) 0 16
  let hold := bitOf (wordAt req 0) 16
  command src tag req ⟨1, pf0Only src, false⟩ (fun s =>
    if mask = 0 then refuse .badArg s
    else okay [] (forEach (fun p s => if maskBit mask p then modPlane p (applyHold hold) s else s) (List.range 16) s)) s

/-- JOIN_LEAVE: a pending JOIN_START ends with ABORTED; the leave notice goes with the next report; T_LEAVE, 10 ms (R129,
R141). -/
def execJoinLeave (src : Source) (tag : Nat) (req : List Word) (s : State) : Result :=
  command src tag req ⟨0, pf0Only src, false⟩ (fun s =>
    if s.join.phase = .offline then refuse .conflict s
    else
      let s := startLong src tag .joinLeave (leaveRejected (endJoinStart .aborted s))
      (.accepted, { s with join := { stopTermTimers s.join with
        phase := .leaving, discovery := none, tLeave := some (s.clock.now + 10 * msCc) } })) s

/-- The epoch of a plane's owner; 0 when it has none (R140). -/
def ownerEpoch (p : Nat) (s : State) : Nat :=
  match (planeOf p s).own with
  | .ownedA => (laneOf .a p s).epoch
  | .ownedB => (laneOf .b p s).epoch
  | .unowned => 0
  | .contested => 0

/-- OWNERSHIP_STATUS: the read clears the counts of changes (R140, R141). Assumption 44. -/
def execOwnershipStatus (src : Source) (tag : Nat) (req : List Word) (s : State) : Result :=
  command src tag req ⟨0, true, false⟩ (fun s =>
    okay
      ((List.range 16).map (fun p =>
          pack [(0, ownCode (planeOf p s).own), (8, min 255 (planeOf p s).changes), (16, ownerEpoch p s % 65536)]) ++
        (List.range 16).map (fun p =>
          pack [(0, (laneOf .a p s).epoch % 65536), (16, (laneOf .b p s).epoch % 65536)]))
      { s with join := { s.join with planes := s.join.planes.map (fun m => { m with changes := 0 }) } }) s

/-- JOIN_COUNTERS (R140, R141, R581). -/
def execJoinCounters (src : Source) (tag : Nat) (req : List Word) (s : State) : Result :=
  let set := fieldOf (wordAt req 0) 0 5
  let clear := bitOf (wordAt req 0) 8
  command src tag req ⟨1, readOrPf0 src clear, false⟩ (fun s =>
    if 16 < set then refuse .badArg s
    else if set = 16 then
      okay (s.join.counters.map wordOf ++ [0, 0])
        (cleared clear (fun s => { s with join := { s.join with counters := [0, 0] } }) s)
    else
      okay ((planeOf set s).counters.map wordOf)
        (cleared clear (modPlane set (fun m => { m with counters := [0, 0, 0, 0] })) s)) s

/-! ### Stage messages -/

/-- A message leaves the inbox; with a mode other than its own it is skipped and counted, otherwise `k` handles it (R138). -/
def handleMsg (modes : List Nat) (m : StageMsg) (s : State) (k : State → State) : Result :=
  let s := takeMsg m s
  if modes.contains m.mode then .next (k s) else .next (countLane m.hub m.plane 4 1 s)

/-- A plane-bound message counts only from the hub that owns the plane its body names (R133). -/
def fromOwner (m : StageMsg) (p : Nat) (s : State) (k : State → State) : State := if ownsPlane m.hub p s then k s else s

/-- A slot index from an SFN field and a slot field of a body. -/
def bodySlot (m : StageMsg) (sfnAt slotAt : Nat) : Nat := 128 * bodyField m sfnAt 48 + bodyField m slotAt 7

/-- Aligned start of a slot that has not begun. -/
def slotInstant (n : Nat) (s : State) : Nat := s.clock.slotAt + (n - s.clock.slot) * slotCc

/-- TN of a hub. -/
def hubTn (h : Hub) : Nat := 30 + hubCode h

/-- The conditions of R118 on a window of length L with allowance A. Assumption 30. -/
def windowAcceptable (m : StageMsg) (p first len allow : Nat) (s : State) : Bool :=
  ownsPlane m.hub p s && planeEnabled p s && (lowestReady p s).isSome && allow < len && s.clock.slot + 2 ≤ first &&
    (s.join.cfg.stageId == 0 || bodyField m 96 32 == s.join.cfg.stageId.toNat)

/-- The window is earlier than the one whose answer has not been launched yet (R118). -/
def earlierWindow (first : Nat) (s : State) : Bool :=
  s.join.answers.any (fun a => a.kind == .discovery && first < a.label && s.clock.slot < a.slot) ||
    s.join.drawWaits.any (fun w => decide (first < w.1.label))

/-- The delay of a discovery answer is drawn from the entropy source, a free value below its bound, and the answer is scheduled; while the
source has failed the draw waits (R119, R379). -/
def drawDelay (a : Answer) (bound : Nat) (s : State) : State :=
  if s.sec.entropy ≠ .running then { s with join := { s.join with answers := [], drawWaits := some (a, bound) } }
  else
    let (v, s) := drbgDraw 1 s
    let d := v % bound
    { s with join := { s.join with answers := [{ a with slot := a.label + d, delay := d }], drawWaits := none } }

/-- Answers an acceptable window (R118, R119, R129). -/
def answerWindow (m : StageMsg) (p first len allow : Nat) (s : State) : State :=
  drawDelay ⟨.discovery, p, bodyField m 8 8, first, first, s.join.round, 0, 0, 0, 0, hubTn m.hub⟩ (min s.join.delayRange (len - allow))
    { s with join := { s.join with
        phase := .discSent, tNoWindow := none, discovery := some (m.hub, p, first + len - 1 + 512) } }

/-- DISCOVERY_OPEN (R118, R119, R129, R139). Assumption 30. -/
def execDiscoveryOpen (msg : StageMsg) (s : State) : Result :=
  handleMsg [2] msg s (fun s =>
    let p := bodyField msg 0 4
    let wave := bodyField msg 8 8
    let first := bodySlot msg 16 64
    let len := bodyField msg 72 16
    let allow := bodyField msg 88 8
    if wave < 2 ∨ 63 < wave ∨ len ≤ allow ∨ allow = 0 ∨ 74 < allow then discardMsg msg s
    else if !windowAcceptable msg p first len allow s then countJoin 0 s
    else if s.join.phase = .discWait ∨ (s.join.phase = .discSent ∧ earlierWindow first s) then
      answerWindow msg p first len allow s
    else s)

/-- The identity answers that a DISCOVERY_ACK directs: segment i in the i-th window (R115, R121). -/
def identityAnswers (m : StageMsg) (p wave first spacing rt n : Nat) : List Answer :=
  (List.range n).map (fun i =>
    ⟨.identity, p, wave, first + i * spacing, first + i * spacing, 0, 0, i, n, rt, hubTn m.hub⟩)

/-- DISCOVERY_ACK: the identity segments are scheduled, T_ID starts at the last, and the Strongroom signs the identity with the hub's
nonce and the SFN of the frame that carried the message (R121, R122, R129, R139, R373). -/
def execDiscoveryAck (msg : StageMsg) (s : State) : Result :=
  handleMsg [3] msg s (fun s =>
    let p := bodyField msg 288 4
    let wave := bodyField msg 296 8
    let first := bodySlot msg 304 352
    let count := bodyField msg 360 8
    let spacing := bodyField msg 368 8
    let rt := bodyField msg 256 26
    let n := identitySegments s
    if !ownSerial msg s then s
    else fromOwner msg p s (fun s =>
      match s.join.discovery with
      | none => discardMsg msg s
      | some (_, q, _) =>
        if q ≠ p ∨ wave < 2 ∨ 63 < wave ∨ first ≤ s.clock.slot ∨ spacing = 0 then discardMsg msg s
        else if s.join.phase ≠ .discSent then s
        else if count < n then countJoin 1 s
        else
          makeIdentity (bodyField msg 128 128) msg.sfn
            { s with join := { s.join with
                phase := .identity, answers := identityAnswers msg p wave first spacing rt n,
                tId := some (slotInstant (first + (n - 1) * spacing) s + 100 * msCc) } }))

/-- The TN is stored, the self key drawn, and the plane machines started (R123, R129, R582). -/
def storeTn (tn mask : Nat) (s : State) : State :=
  let s := { s with join := { stopTermTimers s.join with phase := .assigned, tn := some tn, planeMask := mask, discovery := none } }
  forEach tryWaitWindow (List.range 16) (drawSelfKey s)

/-- A TN_CLASH stop ends (R124). -/
def liftClash (s : State) : State :=
  if s.join.clash then clear 0x0214 1920 0 0 { s with join := { s.join with clash := false } } else s

/-- TN_ASSIGN (R123, R124, R129, R139). -/
def execTnAssign (msg : StageMsg) (s : State) : Result :=
  handleMsg [3] msg s (fun s =>
    let tn := bodyField msg 128 5
    let mask := bodyField msg 144 16
    if !ownSerial msg s then s
    else if 29 < tn then discardMsg msg s
    else if s.join.phase = .identity then storeTn tn mask s
    else if s.join.phase = .assigned ∨ s.join.phase = .registered then
      if s.join.tn = some tn then liftClash s else storeTn tn mask (forgetTn s)
    else s)

/-- The attempt ends with a REJECT's reason: JOIN_REJECT is held, T_REJECT runs unless the reason is 1, and a pending JOIN_START ends with
DENIED when it is (R129). -/
def enterRejected (reason holdoff : Nat) (s : State) : State :=
  let s := { s with join := { stopTermTimers s.join with
    phase := .rejected, rejectReason := reason, discovery := none, answers := [],
    tReject := if reason = 1 then none else some (s.clock.now + holdoff * secCc) } }
  let s := hold 0x0211 1920 .critical 0 0 s
  if reason = 1 then endJoinStart .denied s else s

/-- REJECT (R123, R129, R139). -/
def execReject (msg : StageMsg) (s : State) : Result :=
  handleMsg [3] msg s (fun s =>
    let r := bodyField msg 128 8
    if !ownSerial msg s then s
    else if s.join.phase = .discSent ∨ s.join.phase = .identity then
      enterRejected (if 1 ≤ r ∧ r ≤ 4 then r else 4) (max 1 (bodyField msg 136 16)) s
    else s)

/-- RANGE_WINDOW: a plane that waits answers in the window's first slot (R125, R130, R139). -/
def execRangeWindow (msg : StageMsg) (s : State) : Result :=
  handleMsg [1] msg s (fun s =>
    let p := bodyField msg 0 4
    let wave := bodyField msg 8 8
    let first := bodySlot msg 16 64
    let len := bodyField msg 72 8
    fromOwner msg p s (fun s =>
      if !maskBit s.join.planeMask p ∨ wave < 2 ∨ 63 < wave ∨ first ≤ s.clock.slot ∨ len < 2 then discardMsg msg s
      else if (planeOf p s).phase ≠ .waitWindow then s
      else
        let s := modPlane p (fun m =>
          { stopTimers m with phase := .ranging, rwinRun := 0, resultBy := some (first + len - 1 + 512) }) s
        { s with join := { s.join with
          answers := s.join.answers ++ [⟨.ranging, p, wave, first, first, 0, 0, 0, 0, 0, hubTn msg.hub⟩] } }))

/-- RANGE_RESULT: with status 0 the plane is EQUALISED, RT_p and EqD_p are loaded at the start of the next slot, and its drift baselines
start afresh; one that R107 forbids is discarded, counted and told; any other status is a failure (R107, R125, R130, R139, R184).
Assumption 30. -/
def execRangeResult (msg : StageMsg) (s : State) : Result :=
  handleMsg [1] msg s (fun s =>
    let p := bodyField msg 0 4
    let rt := bodyField msg 8 26
    let eqd := signedOf 26 (bodyField msg 34 26)
    fromOwner msg p s (fun s =>
      if (planeOf p s).phase ≠ .ranging then discardMsg msg s
      else if bodyField msg 4 4 ≠ 0 then rangingFailure p s
      else if !leadOk rt eqd then equalisationEvent p (countPlane p 1 s)
      else
        modPlane p (fun m =>
          { stopTimers m with
            phase := .equalised, rt := planeRt p s, eqd := planeEqd p s, load := some (s.clock.slot + 1, rt, eqd), fails := 0,
            actSfn := none, tAct := some (s.clock.now + 50 * msCc) })
          (resetBaselines p s)))

/-- The superframe at which something named for an SFN takes place: the next one when that SFN has begun (R126, R127). Assumption 46. -/
def effectiveSfn (sfn : Nat) (s : State) : Nat := if sfn ≤ sfnOf s.clock.slot then sfnOf s.clock.slot + 1 else sfn

/-- ACTIVATE: the named planes that are EQUALISED note the SFN, and T_ACT stops (R126, R130). -/
def execActivate (msg : StageMsg) (s : State) : Result :=
  handleMsg [1] msg s (fun s =>
    let mask := bodyField msg 0 16
    let at_ := effectiveSfn (bodyField msg 16 48) s
    forEach (fun p s =>
      if maskBit mask p && (planeOf p s).phase == .equalised then
        modPlane p (fun m => { m with tAct := none, actSfn := some at_ }) s
      else s) (List.range 16) s)

/-- FINE_CORRECT: a correction of an ACTIVE plane is noted for its SFN; one too large or one that R107 forbids is discarded,
counted and told (R107, R127, R139). -/
def execFineCorrect (msg : StageMsg) (s : State) : Result :=
  handleMsg [1] msg s (fun s =>
    let p := bodyField msg 0 4
    let delta := signedOf 16 (bodyField msg 16 16)
    let sfn := bodyField msg 32 48
    let m := planeOf p s
    let due := m.fine.foldl (fun a f => a + f.2.1) (planeEqd p s)
    fromOwner msg p s (fun s =>
      if m.phase ≠ .active then discardMsg msg s
      else if delta < -512 ∨ 511 < delta then equalisationEvent p (countPlane p 2 s)
      else if !leadOk (planeRt p s) (due + delta) then equalisationEvent p (countPlane p 1 s)
      else
        modPlane p (fun m =>
          { m with fine := m.fine ++ [(effectiveSfn sfn s, delta, decide (sfn ≤ sfnOf s.clock.slot))] }) s))

/-- DEREGISTER: the TN is forgotten and every plane goes DOWN; the terminal starts again, or ends its leave (R129, R139). -/
def execDeregister (msg : StageMsg) (s : State) : Result :=
  handleMsg [1, 3] msg s (fun s =>
    if msg.mode = 3 ∧ !ownSerial msg s then s
    else if s.join.phase = .assigned ∨ s.join.phase = .registered then enterCueAcq (forgetTn s)
    else if s.join.phase = .leaving then endLongs (fun k => k == .joinLeave) .ok [] (enterOffline (forgetTn s))
    else s)

end Sys2Proof.Machine
end

