-- ==== Sys2Proof/Machine/RxEvents.lean ====
section
/-! DEFINITION. What happens to the bursts of a slot: verdicts, payload decode, the tag check with reassembly, the landing of the
ledger and the reconciler (R200 to R224, R362 to R369). -/

namespace Sys2Proof.Machine

/-! ### Keys and predictions (R210, R363, R368) -/

/-- The key that a burst of a header uses, from the receiver's side (R351). -/
def receiveKey (h : Nat) (s : State) : Option Nat :=
  let type := hdr h 4 4
  let tn := hdr h 9 5
  if type = 3 ∨ type = 5 then some hubKey
  else if type = 2 then some tn
  else if type = 1 then
    some (if hdr h 24 1 = 1 then groupKeyNo (hdr h 30 10) else if 30 ≤ hdr h 30 10 then hubKey
      else if s.join.tn = some tn then selfKey else tn)
  else none

/-- The key for which the keystream of a lane is computed ahead, when its grant names a burst that the terminal may keep (R210). -/
def plannedKey (slot : Nat) (j : Judged) (s : State) : Option Nat :=
  let gr := j.grant
  if gr.kind = 1 then
    if gr.mcast then (if maskBit (memberBits slot s.rx) gr.dest then some (groupKeyNo gr.dest) else none)
    else if s.join.tn = some gr.dest then some (if gr.tn = gr.dest then selfKey else gr.tn)
    else none
  else if j.reserved.isSome then some gr.tn
  else none

/-- The header differs from the prediction, or no prediction exists (R210). -/
def unpredicted (slot h : Nat) (j : Judged) (s : State) : Bool :=
  match plannedKey slot j s with
  | none => true
  | some k =>
    let p := tabGet predictionReset s.sec.predictions j.grant.tn
    match predictedOffset slot p with
    | none => true
    | some d =>
      let seq := ((slot : Int) + d) % 2 ^ 48
      !(hdr h 9 5 == j.grant.tn && hdr h 15 9 == 32 * (j.lane / 64) + j.grant.k && (hdr h 48 48 : Int) == seq &&
        predictedEpoch k slot p s == some (hdr h 40 2))

/-- Key and IV for which the keystream of a lane is computed ahead; none without a prediction (R210, R243, R355). -/
def plannedCipher (slot : Nat) (j : Judged) (s : State) : Option (BitVec 256 × Nat) :=
  let gr := j.grant
  let p := tabGet predictionReset s.sec.predictions gr.tn
  match plannedKey slot j s, predictedOffset slot p with
  | some k, some d =>
    ((predictedEpoch k slot p s).bind (fun n => heldEpoch k n s)).map (fun e =>
      (e.rx, burstIv gr.tn (32 * (j.lane / 64) + gr.k) (keyHolder (gr.kind == 1 && gr.mcast) (if gr.kind = 1 then gr.dest else s.join.tn.getD 0))
        ((slot : Int) + d).toNat))
  | _, _ => none

/-- Key and IV that a header names (R210, R355, R362); none where its epoch is not held. -/
def headerCipher (slot h : Nat) (s : State) : Option (BitVec 256 × Nat) :=
  let p := tabGet predictionReset s.sec.predictions (hdr h 9 5)
  ((receiveKey h s).bind (fun k => heldEpoch k (hdr h 40 2) s)).map (fun e =>
    (e.rx, burstIv (hdr h 9 5) (hdr h 15 9) (keyHolder (hdr h 24 1 == 1) (hdr h 30 10))
      (reconstruct slot (predictedOffset slot p) (hdr h 48 48)).toNat))

/-- A burst names an epoch that is not held: NO_KEY is counted and KEY_NO_KEY raised (R368). -/
def noKey (p : Nat) (s : State) : State := raise 0x0A02 (srcPlane p 7) .minor 0 0 (countSec 0 1 s)

/-- The key and epoch of a header are held. -/
def keyHeld (h : Nat) (s : State) : Bool :=
  match receiveKey h s with
  | none => true
  | some k => holdsEpoch k (hdr h 40 2) s

/-! ### BURST_RECEIVE -/

/-- A burst with the own TN from a transmitter not used in the slot stops all sending (R124). -/
def clashCheck (slot h : Nat) (s : State) : State :=
  if hdr h 8 1 == 0 && s.join.tn == some (hdr h 9 5) && !s.rx.launched.contains (slot, hdr h 15 9) then
    hold 0x0214 1920 .major 0 0 { s with join := { s.join with clash := true } }
  else s

/-- Is the container of a reserved lane flagged (R243)? The header passes steps 1 to 6 of R75. -/
def containerFlag (slot h : Nat) (j : Judged) (s : State) : Bool :=
  let named : Grant :=
    { j.grant with tn := hdr h 9 5, dest := hdr h 128 10, member := hdr h 138 5 }
  compareGrant j == 1 || hdr h 4 4 != 2 || (receivedGroup named s).isNone || unpredicted slot h j s || !keyHeld h s

/-- The header that the prediction and the frozen grant give a container, where none was decoded: the first 144 field bits with PTV = 1
(R70, R73; assumption 87). -/
def predictedHeader (slot : Nat) (j : Judged) (s : State) : Nat :=
  let gr := j.grant
  let p := tabGet predictionReset s.sec.predictions gr.tn
  burstHeader { type := 2, noTn := false, tn := gr.tn, x := 32 * (j.lane / 64) + gr.k, wave := j.lane % 64, mcast := false, dest := s.join.tn.getD 0
                keyEpoch := (predictedEpoch gr.tn slot p s).getD 0, seq := ((slot : Int) + (predictedOffset slot p).getD 0).toNat, slot := slot
                payload := .express gr.dest gr.member true 0 0 [] }

/-- What a container's client area becomes: its client bits under the predicted keystream, its tag, and the machine after it. A lane
without a delimiter brings no words, and one without a channel zeros (R206, R243, R251; assumption 87). -/
def openContainer (slot fields overhead area : Nat) (j : Judged) (s : State) : Tab Word × Nat × State :=
  match plannedCipher slot j s with
  | some (key, iv) =>
    (if j.noChannel then [] else clientWords (area ^^^ gcmKeystream key iv clientBits), containerTag key iv fields overhead area, s)
  | none =>
    if j.noChannel then ([], 0, s)
    else (clientWords (Config.openClient s.free).toNat, 0, { s with free := s.free + 1 })

/-- The container of a reserved lane waits for the slot's evaluation point; a flag is counted and raised (R206, R243). Assumption 87. -/
def expressArrival (slot : Nat) (j : Judged) (s : State) : State :=
  match j.reserved with
  | none => s
  | some i =>
    let v := j.verdict.getD 0
    let passed := decodedLane j && v != 3
    let b := j.burst
    let h := (match b with | some b => b.header | none => 0)
    let flag := j.noChannel || (passed && containerFlag slot h j s)
    let s := if passed && hdr h 4 4 == 2 && !keyHeld h s then noKey (j.lane / 64) s else s
    let lit := (match b with | some b => !b.dark && b.delimiter | none => false)
    let bits := (match b with | some b => b.bits | none => 0)
    let o := if lit then bits >>> clientBits else 0
    let (ws, tag, s) :=
      if lit then openContainer slot (if passed then h else predictedHeader slot j s) o (bits % 2 ^ clientBits) j s else ([], 0, s)
    let named := passed && hdr h 4 4 == 2 && hdr h 128 10 == j.grant.dest && hdr h 138 5 == j.grant.member && hdr h 9 5 == j.grant.tn
    let c : Container :=
      { slot := slot, group := i, member := j.grant.member, lane := j.lane, verdict := v, passed := passed, decoded := decodedLane j,
        hdrCorr := (match b with | some b => if v = 2 then 5 else if decodedLane j then min 4 b.corr else 0 | none => 0)
        flagged := flag, named := named, ptv := passed && hdr h 143 1 == 1
        lit := lit, tag := tag, prevTag := hdr h 144 128, overhead := o, words := ws, good := false
        depth := (match b with | some b => b.depth | none => 0) }
    let s := modExpress (fun e => { e with arrivals := e.arrivals ++ [c] }) s
    if flag then
      raise 0x0606 j.lane .minor 0 0
        (modGroup i (fun g => { g with
          flaggedCount := satAdd 16 g.flaggedCount 1, flags := tabMod 0 g.flags j.grant.member (satAdd 32 · 1) }) s)
    else s

/-- The final verdict of one lane takes effect: comparison, clash, prediction and keys (R76, R124, R210, R215, R363, R368). -/
def settleLane (slot : Nat) (j : Judged) (s : State) : State :=
  let p := j.lane / 64
  let rec0 := laneRecord slot j s
  let s := modRx (fun x => { x with records := tabSet rxRecordReset x.records j.lane rec0 }) s
  let v := rec0.verdict
  if v = 8 then s
  else
    match j.burst with
    | none => expressArrival slot j s
    | some b =>
      let h := b.header
      let wrong := (v == 3 && headerIntegrity slot h) || rec0.cmp == 1 || rec0.cmp == 2
      let s := if rec0.decoded && wrong then integrityError p s else s
      if !rec0.decoded || v = 3 then expressArrival slot j s
      else
        let s := clashCheck slot h s
        let s := expressArrival slot j s
        let s := if v = 5 && unpredicted slot h j s then countRx j.lane 11 1 s else s
        let s := if v = 5 then modRecord j.lane (fun r => { r with cipher := headerCipher slot h s }) s else s
        let s := if v = 5 && !keyHeld h s then modRecord j.lane (fun r => { r with failed := true }) (noKey p s) else s
        let type := hdr h 4 4
        if type = 1 ∨ type = 2 ∨ type = 3 ∨ type = 5 then
          feedPrediction (hdr h 9 5) slot (hdr h 48 48) (hdr h 40 2) (receiveKey h s) s
        else s

/-- Final verdicts in lane order. Assumption 47. -/
def settleLanes (slot : Nat) : List Judged → State → State
  | [], s => s
  | j :: js, s => settleLanes slot js (settleLane slot j s)

/-- The lane of a slot on which a sender transmitter's burst was kept with CI = 1 in its header (R72, R212). -/
def completingLane (k : Nat) (rs : Tab RxRecord) : Option Nat :=
  (rs.find? (fun e => e.2.verdict == 5 && 512 * e.2.tn + e.2.x == k && hdr e.2.header 128 1 == 1)).map (fun e => e.1)

/-- The open contexts meet the final verdicts of the slot: where a burst was kept with CI = 1, the context waits for its first unit, every
other closes (R212). Assumption 86. -/
def meetContexts (slot : Nat) : List (Nat × Option Context) → State → State
  | [], s => s
  | (k, none) :: cs, s => meetContexts slot cs (modRx (fun x => { x with contexts := tabSet none x.contexts k none }) s)
  | (k, some c) :: cs, s =>
    if slot ≤ c.slot then meetContexts slot cs s
    else
      match (if c.slot + 1 = slot then completingLane k s.rx.records else none) with
      | none => meetContexts slot cs (closeContext k s)
      | some r =>
        meetContexts slot cs (modRecord r (fun x => { x with ctx := some c })
          (modRx (fun x => { x with contexts := tabSet none x.contexts k none }) s))

/-- BURST_RECEIVE: the burst lanes of a slot read their light and get their final verdicts, by cycle 123 (R196 to R208, R215).
Assumption 47. -/
def execBurstReceive (slot : Nat) (lights : List RxLight) (s : State) : Result :=
  let s := openRxSlot slot (toCycle slot 94 (toSlot slot s))
  let bursts := lights.map (readBurst burstThreshold slot)
  let s := settleLanes slot (filterAll slot bursts s) s
  let s := meetContexts slot s.rx.contexts s
  .next (modRx (fun x => { x with launched := x.launched.filter (fun l => slot < l.1) }) s)

/-! ### PAYLOAD_DECODE and TAG_CHECK -/

/-- The codewords of a kept burst are decoded, once; one uncorrectable discards the burst (R78, R209). -/
def decodeRecord (r : RxRecord) : RxRecord :=
  if r.verdict ≠ 5 ∨ r.info.isSome then r
  else
    let ws := payloadWords r.bits
    let bad := (ws.filter (fun w => w.isNone)).length
    { r with
      rsCorr := ws.foldl (fun n w => n + w.elim 0 (fun x => x.2)) 0, uncorr := bad, failed := r.failed || bad != 0
      info := some (payloadInfo ws), readable := 5140 * (ws.takeWhile (fun w => w.isSome)).length / 64 * 8 }

/-- PAYLOAD_DECODE: the back-end channel of a kept lane decodes its ten codewords (R78, R209). Assumption 47. -/
def execPayloadDecode (lane : Nat) (s : State) : Result := .next (modRecord lane decodeRecord s)

/-- A frame that a burst has completed, and its lane: by a tail, untrusted, and multicast to a group. -/
structure DoneFrame where
  lane : Nat
  tail : Bool
  untrusted : Bool
  group : Option Nat
  port : Nat
  frame : EgressFrame
deriving DecidableEq, Repr

/-- What the walk of a burst has gathered: whole frames and the tail's bytes as (tail, unit), a head, and discards (R213). -/
structure WalkOut where
  frames : List (Bool × PayloadUnit)
  head : Option PayloadUnit
  discards : Nat
deriving DecidableEq, Repr

/-- Bytes of a unit (R171, R172). -/
def unitBytes (u : PayloadUnit) : Nat := if u.ukind = 5 then 608 else 8 + u.data.length

/-- The walk over the units from byte `off` to fill (R171, R213); `ctx` says whether the sender transmitter's context is open. -/
def walkUnits (fill : Nat) (ctx : Bool) : Nat → List PayloadUnit → WalkOut → WalkOut
  | _, [], o => o
  | off, u :: us, o =>
    let n := off + unitBytes u
    let next := (n + 7) / 8 * 8
    let seg := u.data.length
    if !(u.ukind == 1 || u.ukind == 2 || u.ukind == 3 || u.ukind == 5) || fill < n then { o with discards := o.discards + 1 }
    else if u.ukind = 5 then walkUnits fill ctx next us o
    else if seg = 0 ∨ (u.ukind = 3 ∧ off ≠ 0) ∨ (u.ukind = 2 ∧ us ≠ []) then { o with discards := o.discards + 1 }
    else if u.frameLen < 64 ∨ 10240 < u.frameLen ∨ u.frameLen < seg then
      walkUnits fill ctx next us { o with discards := o.discards + 1 }
    else if u.ukind = 3 then
      if ctx then walkUnits fill ctx next us { o with frames := o.frames ++ [(true, u)] }
      else walkUnits fill ctx next us { o with discards := o.discards + 1 }
    else if u.ukind = 2 then
      if 6401 < u.frameLen - seg then { o with discards := o.discards + 1 }
      else { o with head := some u }
    else if seg ≠ u.frameLen then walkUnits fill ctx next us { o with discards := o.discards + 1 }
    else walkUnits fill ctx next us { o with frames := o.frames ++ [(false, u)] }

/-- Fill of a record's header, its group where M = 1, and the context of its sender transmitter (R70, R72, R212). -/
def recordFill (x : RxRecord) : Nat := hdr x.header 131 13
def recordGroup (x : RxRecord) : Option Nat := if hdr x.header 24 1 = 1 then some (hdr x.header 30 10) else none
def recordContext (x : RxRecord) : Nat := 512 * x.tn + x.x

/-- The unit area of a kept burst decrypted, and whether its tag agrees; none where its key is not held (R79, R211, R353, R354). -/
def openBurst (x : RxRecord) : Option (Nat × Bool) :=
  x.cipher.map (fun c =>
    let info := x.info.getD 0
    let area := info >>> 128
    let report := receivedReport c.1 c.2 x.header area
    (cipherArea c.1 c.2 report area, areaTag c.1 c.2 x.header report area == info % 2 ^ 128))

/-- The units of an area up to a fill (R171). -/
def areaUnits (fill area : Nat) : List PayloadUnit := readUnits fill area 822 0

/-- The frame units that a discarded burst loses: those whose header lies before its first uncorrectable codeword (R209; assumption 89). -/
def lostUnits (x : RxRecord) : Nat :=
  match openBurst x with
  | none => 0
  | some (area, _) =>
    ((areaUnits (min (recordFill x) x.readable) area).filter (fun u => u.ukind == 1 || u.ukind == 2 || u.ukind == 3)).length

/-- The context that waits with a record goes on only to a tail at byte 0 whose frame_len equals the head's (R212). -/
def tailMeets (x : RxRecord) (us : List PayloadUnit) : Bool :=
  match x.ctx, us.head? with
  | some c, some u => u.ukind == 3 && u.frameLen == c.frameLen
  | _, _ => false

/-- Cells that hold `n` bytes. -/
def cellsFor (n : Nat) : Nat := (n + 255) / 256

/-- A completed frame as egress takes it. -/
def egressFrame (data : List Byte) (tokens : List Nat) (cls : Nat) : EgressFrame :=
  { data := data, tokens := tokens, cls := cls, tsReq := false, oneStep := false, ptpOff := 0, tsId := 0 }

/-- The frames of one burst get their cells, a tail on top of those of its head (R333). -/
def takeFrames (r : Nat) (x : RxRecord) (bad : Bool) : List (Bool × PayloadUnit) → List DoneFrame → State → List DoneFrame × State
  | [], out, s => (out, s)
  | (tail, u) :: us, out, s =>
    let c := (if tail then x.ctx else none)
    let data := (match c with | some c => c.data ++ u.data | none => u.data)
    let got := (match c with | some c => c.tokens | none => [])
    let untrusted := bad || (match c with | some c => c.untrusted | none => false)
    match allocCells u.cls (cellsFor data.length - got.length) got s with
    | (none, s) => takeFrames r x bad us out s
    | (some ts, s) =>
      let s := modEgress u.cls (fun e => { e with admitted := satAdd 64 e.admitted 1 }) s
      takeFrames r x bad us
        (out ++ [⟨r, tail, untrusted, recordGroup x, u.port, egressFrame data ts u.cls⟩]) s

/-- The context that a record waits with closes (R209, R212). -/
def dropWaiting (x : RxRecord) (s : State) : State :=
  match x.ctx with
  | none => s
  | some c => countRx c.lane 10 1 (freeAll 0x003 c.tokens s)

/-- A head opens the context of its sender transmitter with its cells (R212, R333). -/
def openContext (r slot : Nat) (x : RxRecord) (bad : Bool) (u : PayloadUnit) (s : State) : State :=
  match allocCells u.cls (cellsFor u.data.length) [] s with
  | (none, s) => s
  | (some ts, s) =>
    let c : Context := ⟨slot, r, u.frameLen, u.cls, u.data, ts, bad⟩
    modRx (fun y => { y with contexts := tabSet none y.contexts (recordContext x) (some c) }) s

/-- The units of a kept burst are walked, and the frames that they complete get their cells (R211 to R213). Assumption 89. -/
def walkBurst (slot r : Nat) (x : RxRecord) (area : Nat) (bad : Bool) (out : List DoneFrame) (s : State) : List DoneFrame × State :=
  let us := areaUnits (recordFill x) area
  let w := walkUnits (recordFill x) (tailMeets x us) 0 us ⟨[], none, 0⟩
  let s := countRx r 10 w.discards s
  let s := if bad then raise 0x0506 r .major 0 0 (countRx r 14 1 s) else s
  let s := if w.frames.any (fun f => f.1) then s else dropWaiting x s
  let (out, s) := takeFrames r x bad w.frames out s
  match w.head with
  | none => (out, s)
  | some u => (out, openContext r slot x bad u s)

/-- The back end of one kept lane: R209 and R368 discard the burst, else the tag is checked and the units are walked. -/
def backEnd (slot r : Nat) (out : List DoneFrame) (s : State) : List DoneFrame × State :=
  let s := modRecord r decodeRecord s
  let x := recordOf r s
  match openBurst x with
  | none => (out, dropWaiting x s)
  | some (area, agrees) =>
    if x.failed then (out, dropWaiting x (countRx r 15 (lostUnits x) s))
    else walkBurst slot r x area (!agrees) out s

/-- The back ends of the kept lanes in ascending order. -/
def backEnds (slot : Nat) : List Nat → List DoneFrame → State → List DoneFrame × State
  | [], out, s => (out, s)
  | r :: rs, out, s =>
    let (out, s) := backEnd slot r out s
    backEnds slot rs out s

/-- One completed frame goes to egress; an untrusted one by the untrusted policy (R292, R335, R369). -/
def deliverDone (d : DoneFrame) (s : State) : State :=
  if d.untrusted then
    let s := freeAll 0x003 d.frame.tokens s
    if (policyFor s.clock.slot s).untrusted then
      (slowPath { reason := 0, untrusted := true, port := d.port, cls := d.frame.cls, epoch := s.ports.epoch, ts := none,
                  symHash := none, watch := none, data := d.frame.data, tokens := [] } (countSec 2 1 s)).2
    else countSec 1 1 s
  else
    match d.group with
    | none => handUnicast d.port d.frame s
    | some g =>
      match mcastChan g s with
      | none => dropMcast d.frame s
      | some i =>
        let m := tabGet mcastChannelReset s.queues.mcasts i
        if m.ports = 0 then dropMcast d.frame s else replicate m.ports d.frame s

/-- Completed frames in the order of R293. -/
def deliverAll : List DoneFrame → State → State
  | [], s => s
  | d :: ds, s => deliverAll ds (deliverDone d s)

/-- TAG_CHECK: in cycle 1,813 the tags of the kept bursts are checked, their units walked, and the completed frames handed to
egress (R211 to R213, R293). -/
def execTagCheck (s : State) : Result :=
  match s.rx.slot with
  | none => .next s
  | some slot =>
    let s := toCycle slot 1813 s
    let kept := (s.rx.records.filter (fun e => e.2.verdict == 5)).map (fun e => e.1)
    let (out, s) := backEnds slot kept [] s
    .next (deliverAll (out.filter (fun d => d.tail) ++ out.filter (fun d => !d.tail)) s)

/-! ### The ledger (R216 to R224) -/

/-- LEDGER_LANDING: in cycle 1,816 all entries of the slot land (R216). -/
def execLedgerLanding (slot : Nat) (s : State) : Result :=
  let s := openRxSlot slot (toCycle slot 1816 (toSlot slot s))
  .next (modRx (fun x => { x with
    landed := some slot, drained := x.records,
    bank := tabMap 0 (fun _ e => e) (x.records.map (fun e => (e.1, entryBits e.2))), slot := none, records := [] }) s)

/-- The sender to which an entry is attributed (R220). -/
def attributed (r : RxRecord) : Option Nat :=
  if r.decoded then (if r.tn ≤ 29 then some r.tn else none)
  else if (r.verdict = 0 ∨ r.verdict = 1 ∨ r.verdict = 2) ∧ 1 ≤ r.kind ∧ r.kind ≤ 3 then some r.grantTn
  else none

/-- The lane counters of an entry (R222). -/
def countEntry (l : Nat) (r : RxRecord) (s : State) : State :=
  let v := r.verdict
  let odd := r.cmp == 1 || r.cmp == 2
  let s := countRx l 0 (bitNat (v != 0)) s
  let s := countRx l 1 (bitNat (v == 1)) s
  let s := countRx l 2 (bitNat (v == 2)) s
  let s := countRx l 3 (bitNat (v == 3)) s
  let s := countRx l 4 (bitNat (v == 5)) s
  let s := countRx l 5 (bitNat (v == 7) + bitNat r.noChannel) s
  let s := countRx l 6 (bitNat (v == 9)) s
  let s := countRx l 7 r.uncorr s
  let s := countRx l 8 r.corr s
  let s := countRx l 9 r.rsCorr s
  let s := countRx l 12 (bitNat odd) s
  countRx l 13 (bitNat (r.cmp == 3)) s

/-- The per-sender statistics of an entry (R220). -/
def countAttributed (p : Nat) (r : RxRecord) (s : State) : State :=
  match attributed r with
  | none => s
  | some tn =>
    let c := fun (i n : Nat) (s : State) => countSender p tn i n s
    let s := c 0 (bitNat r.decoded) s
    let s := c 1 (bitNat (r.cmp == 3)) s
    let s := c 2 (bitNat (r.verdict == 2)) s
    let s := c 3 (bitNat (r.verdict == 3)) s
    let s := c 4 (bitNat (r.cmp == 1 || r.cmp == 2)) s
    let s := c 5 r.corr s
    let s := c 6 r.uncorr s
    let s := c 7 (bitNat (r.verdict == 7)) s
    c 8 (bitNat (r.decoded && r.type == 5)) s

/-- The quality window takes the header bits of an entry, and closes at 2^22 (R219, R221, R224). -/
def qualityWindow (l : Nat) (r : RxRecord) (s : State) : State :=
  if r.verdict = 0 ∨ r.verdict = 1 then s
  else
    let x := rxLane l s
    let bits := x.bits + 320
    let errors := x.errors + (if r.verdict = 2 then 5 else r.corr)
    if bits < 2 ^ 22 then modRxLane l (fun x => { x with bits := bits, errors := errors }) s
    else
      let q := min 65535 errors
      let on := decide (42 < q) || (x.degraded && decide (21 < q))
      let s := modRxLane l (fun x => { x with
        bits := bits - 2 ^ 22, errors := 0, quality := q, closedAt := some s.clock.now, degraded := on }) s
      holdIf on 0x0502 l .minor 0 0 s

/-- Expected bursts missing or found, counted to 8 in a row (R224). -/
def missingRuns (l : Nat) (r : RxRecord) (s : State) : State :=
  if !(1 ≤ r.kind && r.kind ≤ 3) then s
  else
    let x := rxLane l s
    let miss := r.cmp == 3
    let m := if miss then min 8 (x.missRun + 1) else 0
    let c := if miss then 0 else min 8 (x.cleanRun + 1)
    let on := m == 8 || (x.missing && c != 8)
    holdIf on 0x0501 l .minor 0 0 (modRxLane l (fun x => { x with missRun := m, cleanRun := c, missing := on }) s)

/-- The events of one entry that are not held (R224). -/
def entryEvents (l : Nat) (r : RxRecord) (s : State) : State :=
  let s := if r.cmp = 2 then raise 0x0503 l .minor 0 0 s else s
  let s := if r.verdict = 7 then raise 0x0504 l .minor 0 0 s else s
  if r.verdict = 9 then raise 0x0505 l .minor 0 0 s else s

/-- A reading joins the arrivals of its wavelength; the first one sets the baseline (R184). Assumption 107. -/
def addReading (n : Int) (a : Arrival) : Arrival :=
  { a with baseline := some (a.baseline.getD n), sum := a.sum + n, count := a.count + 1 }

/-- The feeds of an own burst: its wavelength error to recalibration and its arrival to drift supervision; one that has light and fails a
step from 1 to 6 of R75 is an outlier of the transmitter that its lane expects (R184, R186, R218). Assumption 107. -/
def ownFeeds (l : Nat) (r : RxRecord) (s : State) : State :=
  if r.verdict = 1 ∨ r.verdict = 2 ∨ r.verdict = 3 then
    match r.own with
    | some x => countTx x 6 1 s
    | none => s
  else if !r.decoded || r.noTn || s.join.tn != some r.tn then s
  else
    let e := 20 * r.wlErr
    let w := l % 64
    let s :=
      if e < -20000 ∨ 20000 < e then countTx r.x 6 1 s
      else modTx r.x (fun t => { t with acc := tabMod 0 t.acc w (· + e), accN := tabMod 0 t.accN w (· + 1) }) s
    { s with tx := { s.tx with arrivals := tabMod arrivalReset s.tx.arrivals l (addReading r.arrival) } }

/-- A ledger tap whose last lane has been read answers with its entries, low word first (R226). -/
def answerTaps (slot l : Nat) (s : State) : State :=
  let due := s.zordin.longs.filter (fun c => match c.kind with | .ledgerTap n f k => n == slot && f + k == l + 1 | _ => false)
  due.foldl (fun s c =>
    match c.kind with
    | .ledgerTap n f k =>
      let ws := (List.range k).flatMap (fun i =>
        let e := (tabGet 0 s.rx.bank (f + i)).toNat
        [lowWord e, highWord e])
      endLongs (fun q => q == .ledgerTap n f k) .ok ws s
    | _ => s) s

/-- RECONCILER_ENTRY: the reconciler reads the entry of one lane of the slot that has landed (R217 to R224). Cue lanes and lanes with a
QUIET grant count nothing (R203, R224). -/
def execReconcilerEntry (lane : Nat) (s : State) : Result :=
  match s.rx.landed with
  | none => .next s
  | some slot =>
    let s := toCycle slot (1816 + lane) s
    let r := tabGet rxRecordReset s.rx.drained lane
    let s := modRxLane lane (fun x => { x with entry := tabGet 0 s.rx.bank lane }) s
    let s :=
      if lane % 64 < 2 ∨ r.verdict = 8 then s
      else
        ownFeeds lane r (entryEvents lane r (missingRuns lane r (qualityWindow lane r (countAttributed (lane / 64) r
          (countEntry lane r s)))))
    .next (answerTaps slot lane s)

end Sys2Proof.Machine
end

