-- ==== Sys2Proof/Machine/RxRows.lean ====
section
/-! DEFINITION. The receive commands 0x0501 to 0x0506 (R214, R222, R225, R226). -/

namespace Sys2Proof.Machine

/-- The quality value of a lane is valid: its window closed no more than 10 s ago (R219). -/
def qualityValid (r : Nat) (s : State) : Bool :=
  match (rxLane r s).closedAt with
  | none => false
  | some t => 2 ≤ r % 64 && s.clock.now - t ≤ 10 * secCc

/-- The status word of a lane (R225). -/
def rxStatusWord (r : Nat) (s : State) : Word :=
  let l := rxLane r s
  let e := l.entry.toNat
  pack [(0, e / 2 ^ 60), (4, e / 2 ^ 39 % 4), (6, bitNat l.missing), (7, bitNat l.degraded), (8, bitNat (qualityValid r s)),
    (16, if r % 64 < 2 then 0 else l.quality)]

/-- RX_LANE_STATUS (R225, R226). -/
def execRxLaneStatus (src : Source) (tag : Nat) (req : List Word) (s : State) : Result :=
  let first := fieldOf (wordAt req 0) 0 10
  let count := fieldOf (wordAt req 0) 16 7
  command src tag req ⟨1, true, false⟩ (fun s =>
    if count == 0 || 64 < count || 1024 < first + count then refuse .badArg s
    else okay ((List.range count).map (fun i => rxStatusWord (first + i) s)) s) s

/-- RX_COUNTERS (R222, R225, R226). -/
def execRxCounters (src : Source) (tag : Nat) (req : List Word) (s : State) : Result :=
  let r := fieldOf (wordAt req 0) 0 10
  let clear := bitOf (wordAt req 0) 16
  command src tag req ⟨1, readOrPf0 src clear, false⟩ (fun s =>
    if r % 64 < 2 then refuse .badArg s
    else
      okay ((rxLane r s).counters.map wordOf)
        (cleared clear (modRxLane r (fun l => { l with counters := List.replicate 16 0 })) s)) s

/-- RX_SENDER_STATS (R220, R225, R226). -/
def execRxSenderStats (src : Source) (tag : Nat) (req : List Word) (s : State) : Result :=
  let p := fieldOf (wordAt req 0) 0 4
  let tn := fieldOf (wordAt req 0) 8 5
  let clear := bitOf (wordAt req 0) 16
  command src tag req ⟨1, readOrPf0 src clear, false⟩ (fun s =>
    if 29 < tn then refuse .badArg s
    else
      let k := 32 * p + tn
      let zeros := List.replicate 9 0
      okay ((tabGet zeros s.rx.senders k).map wordOf)
        (cleared clear (modRx (fun x => { x with senders := tabSet zeros x.senders k zeros })) s)) s

/-- A change of membership applies from the next slot (R214). -/
def changeMember (g : Nat) (on : Bool) (s : State) : State :=
  modRx (fun x => { x with
    member := memberBits s.clock.slot x, memberNext := withBit x.memberNext g on, memberAt := s.clock.slot + 1 }) s

/-- RX_MEMBERSHIP (R214, R225, R226). -/
def execRxMembership (src : Source) (tag : Nat) (req : List Word) (s : State) : Result :=
  let g := fieldOf (wordAt req 0) 0 10
  let op := fieldOf (wordAt req 0) 16 2
  command src tag req ⟨1, src == .pf0 || op == 2, false⟩ (fun s =>
    if op = 3 then refuse .badArg s
    else
      let s := if op = 2 then s else changeMember g (op == 1) s
      okay [wordOf (bitNat (maskBit s.rx.memberNext g))] s) s

/-- The source has a tap pending. -/
def tapPending (src : Source) (s : State) : Bool :=
  s.zordin.longs.any (fun l => l.src == src && (match l.kind with | .ledgerTap _ _ _ => true | _ => false))

/-- RX_LEDGER_TAP (R225, R226). -/
def execRxLedgerTap (src : Source) (tag : Nat) (req : List Word) (s : State) : Result :=
  let first := fieldOf (wordAt req 0) 0 10
  let count := fieldOf (wordAt req 0) 16 5
  let sfn := (wordAt req 1).toNat + 2 ^ 32 * fieldOf (wordAt req 2) 0 16
  let slot := 128 * sfn + fieldOf (wordAt req 2) 16 7
  command src tag req ⟨3, true, false⟩ (fun s =>
    if count == 0 || 16 < count || 1024 < first + count then refuse .badArg s
    else if slot < s.clock.slot && cycleInstant slot 1816 s ≤ s.clock.now then refuse .badArg s
    else if s.clock.slot + 256 * 128 < slot then refuse .badArg s
    else if tapPending src s then refuse .busy s
    else (.accepted, startLong src tag (.ledgerTap slot first count) s)) s

/-- RX_CUE_COUNTERS (R103, R225, R226). -/
def execRxCueCounters (src : Source) (tag : Nat) (req : List Word) (s : State) : Result :=
  let p := fieldOf (wordAt req 0) 0 4
  let h := hubOf (bitOf (wordAt req 0) 8)
  let clear := bitOf (wordAt req 0) 16
  command src tag req ⟨1, readOrPf0 src clear, false⟩ (fun s =>
    okay ((laneOf h p s).counters.map wordOf)
      (cleared clear (modLane h p (fun l => { l with counters := [0, 0, 0, 0, 0, 0] })) s)) s

end Sys2Proof.Machine
end

