-- ==== Sys2Proof/Machine/ExpressEval.lean ====
section
/-! DEFINITION. The receive side of express groups: member streams and their defects, group conditions, authentication, skew, client
AIS, the far end's resize fields, and the selector of a pair (R105, R235 to R260). -/

namespace Sys2Proof.Machine

/-- The system source of express circuits (R472). -/
def srcExpress : Nat := 1924

/-- A member stream of a group, and a stream rewritten. -/
def streamOf (g : ExpGroup) (m : Nat) : MemberStream := tabGet streamReset g.streams m
def modStream (i m : Nat) (f : MemberStream → MemberStream) (s : State) : State :=
  modGroup i (fun g => { g with streams := tabMod streamReset g.streams m f }) s

/-! ### Conditions of a member (R260) -/

/-- Holds or clears one member event at the lane where it is held, or at the present lane. -/
def flipMember (i m code : Nat) (on : Bool) (s : State) : State :=
  let st := streamOf (groupOf i s) m
  match st.held.find? (fun h => h.1 == code) with
  | none =>
    if on then hold code st.lane .minor 0 0 (modStream i m (fun st => { st with held := st.held ++ [(code, st.lane)] }) s) else s
  | some (_, l) =>
    if on then s else clear code l 0 0 (modStream i m (fun st => { st with held := st.held.filter (fun h => h.1 != code) }) s)

/-- The member events follow the stream's defects. -/
def syncMember (i m : Nat) (s : State) : State :=
  let st := streamOf (groupOf i s) m
  let s := flipMember i m 0x0601 st.los s
  let s := flipMember i m 0x0602 st.lof s
  let s := flipMember i m 0x0603 st.ais.held s
  let s := flipMember i m 0x0604 st.rdi.held s
  flipMember i m 0x0605 st.sd s

/-! ### One container (R105, R236 to R245) -/

/-- A member's stream is gone: what it holds clears, and a later one starts with LOS and LOF declared (R236, R244, R253, R260). -/
def dropStream (i m : Nat) (s : State) : State :=
  let held := (streamOf (groupOf i s) m).held
  let s := held.foldl (fun s c => clear c.1 c.2 0 0 s) s
  modGroup i (fun g => { g with streams := tabSet streamReset g.streams m streamReset, leaving := withBit g.leaving m false }) s

/-- The maps that a container may name by its g: the present one, the new one after a COMMIT, and the one before the switch-over
(R236, R254). -/
def receiveMaps (g : ExpGroup) : List Nat :=
  let r := g.resize
  g.map :: ((if r.phase = .switched ∧ r.oldMap.isNone then [newMap g] else []) ++ r.oldMap.toList)

/-- The map that a count names. -/
def mapFor (g : ExpGroup) (n : Nat) : Option Nat := (receiveMaps g).find? (fun m => mapCount m == n)

/-- The overhead of a container is usable (R236, R237). -/
def overheadUsable (g : ExpGroup) (c : Container) : Bool :=
  let o := readOverhead c.overhead
  c.passed && o.crcOk && (mapFor g o.g).isSome && (o.ends || countOk (tnomFor g o.g) o.count o.g)

/-- Count and g of each container with a usable overhead. -/
def overheadVotes (g : ExpGroup) (cs : List Container) : List (Nat × Nat) :=
  (cs.filter (overheadUsable g)).map (fun c => ((readOverhead c.overhead).count, (readOverhead c.overhead).g))

/-- The votes for one value. -/
def voteCount (vs : List (Nat × Nat)) (v : Nat × Nat) : Nat := (vs.filter (fun w => w == v)).length

/-- The value with the most votes, the first of equals; and whether another value has as many (R238). -/
def majority (vs : List (Nat × Nat)) : Option (Nat × Nat) × Bool :=
  match vs.find? (fun v => vs.all (fun w => voteCount vs w ≤ voteCount vs v)) with
  | none => (none, false)
  | some v => (some v, vs.any (fun w => w != v && voteCount vs w == voteCount vs v))

/-- The expected mfi of a container (R241). -/
def expectedMfi (slot : Nat) (st : MemberStream) : Option Nat := st.mfi.map (fun p => (p.1 + slot - p.2) % 256)

/-- The overhead's mfi can be read: its CRC passes and its count lies within the limits, or only g differs (R237, R238). -/
def mfiKnown (g : ExpGroup) (c : Container) : Bool :=
  let o := readOverhead c.overhead
  c.passed && o.crcOk && (overheadUsable g c || (mapFor g o.g).isNone)

/-- The mfi under which a container counts, and how many slots late it arrives (R238, R241). -/
def containerMfi (slot : Nat) (g : ExpGroup) (c : Container) : Nat × Nat :=
  let mfi := if mfiKnown g c then (readOverhead c.overhead).mfi else (expectedMfi slot (streamOf g c.member)).getD (slot % 256)
  (mfi, (slot % 256 + 256 - mfi) % 256)

/-- The container is good (R105, R236, R238, R241, R243). -/
def containerGood (slot : Nat) (tie : Bool) (g : ExpGroup) (c : Container) : Bool :=
  let o := readOverhead c.overhead
  let st := streamOf g c.member
  let (mfi, d) := containerMfi slot g c
  c.passed && c.named && !c.flagged && !tie && d ≤ 3 && (!o.crcOk || (mapFor g o.g).isSome) &&
    (match expectedMfi slot st with | none => true | some e => st.lof || mfi == e)

/-- A defect with its indication seen or not seen in a good container: it changes after two in a row (R105). -/
def twoInRow (on : Bool) (d : Defect) : Defect :=
  if on == d.held then { d with run := 0 } else if 1 ≤ d.run then ⟨on, 0⟩ else { d with run := d.run + 1 }

/-- The defects of a stream after one expected container (R105, R99). Assumption 78. -/
def stepDefects (lost good known : Bool) (o : Overhead) (st : MemberStream) : MemberStream :=
  let lostRun := if lost then min 2 (st.lostRun + 1) else 0
  let lightRun := if lost then 0 else min 8 (st.lightRun + 1)
  let badRun := if good then 0 else min 2 (st.badRun + 1)
  let goodRun := if good then min 8 (st.goodRun + 1) else 0
  let los := if st.los then lightRun != 8 else lostRun == 2
  let lof := if st.lof then goodRun != 8 else !los && badRun == 2
  let st := { st with started := true, lostRun := lostRun, lightRun := lightRun, badRun := badRun, goodRun := goodRun, los := los, lof := lof }
  if good && known then { st with ais := twoInRow o.ais st.ais, rdi := twoInRow o.rdi st.rdi } else st

/-- An authentication failure of a group: its flag, its count, the event, and the consequent action unless the other group of its pair
is selected (R250). -/
def authFailure (i : Nat) (w : Word) (selected : Bool) (s : State) : State :=
  let g := groupOf i s
  let s := modGroup i (fun g => { g with
    authFail := true, counters := bump 6 1 g.counters,
    afUntil := if g.cfg.afAction && selected then some (s.clock.now + g.cfg.afHold * msCc) else g.afUntil }) s
  if g.authFail then s else hold 0x0609 srcExpress .major (handleOf 0x01 i s) w s

/-- The working group of the pair that a group belongs to. -/
def pairOfGroup (i : Nat) (s : State) : Option Nat :=
  match tabGet none s.express.pairs i with
  | some _ => some i
  | none =>
    (s.express.pairs.find? (fun e => match e.2 with | some p => p.protect == i | none => false)).map (fun e => e.1)

/-- The handle of the working group of a group's pair, 0 outside a pair (R260). -/
def pairHandle (i : Nat) (s : State) : Word :=
  match pairOfGroup i s with
  | some w => handleOf 0x01 w s
  | none => 0

/-- A group is selected: it is in no pair, or its pair's selector stands on it. -/
def groupSelected (i : Nat) (s : State) : Bool :=
  match pairOfGroup i s with
  | none => true
  | some w =>
    match tabGet none s.express.pairs w with
    | none => true
    | some p => if p.selected then p.protect == i else w == i

/-- A container stays unverified (R251, R261). -/
def countUnverified (i : Nat) (s : State) : State := modGroup i (fun g => { g with unverifiedCount := satAdd 16 g.unverifiedCount 1 }) s

/-- The tag computed of a member's previous container meets the one that this container's header carries (R73, R250, R251).
Assumption 87. -/
def checkTag (c : Container) (s : State) : State :=
  match (streamOf (groupOf c.group s) c.member).carried with
  | none => s
  | some (wasFlagged, tag) =>
    if !c.decoded || c.flagged || wasFlagged || !c.ptv then countUnverified c.group s
    else if c.prevTag = tag then s
    else authFailure c.group (pairHandle c.group s) (groupSelected c.group s) s

/-- No container follows the last one of a member: it stays unverified (R251). -/
def closeSilent (slot i : Nat) (s : State) : State :=
  forEach (fun m s =>
    if s.express.arrivals.any (fun c => c.group == i && c.slot == slot && c.member == m) then s
    else countUnverified i (modStream i m (fun st => { st with carried := none }) s))
    (((groupOf i s).streams.filter (fun e => e.2.carried.isSome)).map (fun e => e.1)) s

/-- The container ends its member's stream (R74, R236). -/
def containerEnds (c : Container) : Bool := let o := readOverhead c.overhead; c.passed && o.crcOk && o.ends

/-- The container has delivered client bits, or zeros in their place (R243, R251). -/
def containerCarries (g : ExpGroup) (c : Container) : Bool :=
  c.lit && !containerEnds c && (g.cfg.trib || (receiveMaps g).any (fun m => maskBit m c.member))

/-- One expected container of a member stream, already judged. -/
def takeContainer (slot : Nat) (c : Container) (s : State) : State :=
  let i := c.group
  let g := groupOf i s
  let o := readOverhead c.overhead
  let known := mfiKnown g c
  let (mfi, d) := containerMfi slot g c
  let good := c.good
  let crcBad := c.passed && !o.crcOk
  let s := countGroup i 2 (bitNat good) (countGroup i 3 (bitNat crcBad) s)
  let s := modStream i c.member (fun st => { st with
    lane := c.lane, laneSlot := some slot, flagged := c.flagged, late := if c.passed then d else st.late
    blockCount := st.blockCount + 1, blockErrors := st.blockErrors + c.hdrCorr + bitNat crcBad }) s
  let s := checkTag c s
  let s := modStream i c.member (fun st =>
    let st := stepDefects (c.verdict == 0 || c.verdict == 1) good known o st
    { st with
      mfi := if good && known then some (mfi, slot) else st.mfi
      carried := if containerCarries g c then some (c.flagged, c.tag) else none }) s
  if containerEnds c then dropStream i c.member s
  else if memberActive c.member (groupOf i s) then syncMember i c.member s
  else s

/-- Every expected container of a group in member order. -/
def takeContainers (slot : Nat) : List Container → State → State
  | [], s => s
  | c :: cs, s => takeContainers slot cs (takeContainer slot c s)

/-! ### Skew, conditions and the carried stream (R239, R244 to R248) -/

/-- Arrivals in cc of the containers of the map whose mfi can be read, however late, with their planes (R241, R246). -/
def arrivalTimes (slot : Nat) (g : ExpGroup) (cs : List Container) : List (Nat × Nat) :=
  (cs.filter (fun c => maskBit g.map c.member && c.named && !c.flagged && mfiKnown g c)).map (fun c =>
    ((containerMfi slot g c).2 * slotCc + c.depth, c.lane / 64))

/-- The skew of a group direction, and its events at the latest member's plane; it stands while no arrival can be told (R246). -/
def updateSkew (i : Nat) (ts : List (Nat × Nat)) (s : State) : State :=
  if ts = [] then s
  else
  let hi := ts.foldl (fun a t => max a t.1) 0
  let lo := ts.foldl (fun a t => min a t.1) hi
  let skew := hi - lo
  let level := if 7168 < skew then 2 else if 32 < skew then 1 else 0
  let old := (groupOf i s).skewLevel
  let p := ((ts.find? (fun t => t.1 == hi)).map (fun t => t.2)).getD 0
  let s := modGroup i (fun g => { g with skew := skew, skewLevel := level }) s
  if old < level then raise 0x020C (srcPlane p 6) (if level = 2 then .major else .minor) 0 0 s else s

/-- A stream shows LOS, LOF or AIS. -/
def streamFails (st : MemberStream) : Bool := st.los || st.lof || st.ais.held

/-- The condition of the direction received: 0 OK, 1 SD, 2 SF (R244). -/
def groupCondition (g : ExpGroup) : Nat :=
  let ms := mapMembers g.map
  if ms.any (fun m => streamFails (streamOf g m)) || 7168 < g.skew then 2
  else if ms.any (fun m => (streamOf g m).sd) then 1
  else 0

/-- The condition as the selector and GROUP_STATUS see it: SF before the first evaluation. -/
def shownCondition (g : ExpGroup) : Nat := g.cond.getD 2

/-- The terminal's receive side of the group is failed (R248). -/
def receiveFails (g : ExpGroup) : Bool :=
  (mapMembers g.map).any (fun m => streamFails (streamOf g m)) ||
    g.streams.any (fun e => e.2.started && memberActive e.1 g && streamFails e.2)

/-- The condition changes: entries are counted, and GROUP_SF follows outside a pair; a tributary group has none (R244, R260, R261,
R264). Assumption 48. -/
def updateCondition (i : Nat) (s : State) : State :=
  let g := groupOf i s
  let c := groupCondition g
  let s := modGroup i (fun g => { g with cond := some c, rdiOut := receiveFails g }) s
  if g.cond = some c then s
  else
    let s := if c = 2 then countGroup i 7 1 s else if c = 1 then countGroup i 8 1 s else s
    let h := handleOf 0x01 i s
    if g.cfg.trib then s
    else if c ≠ 2 then clear 0x0608 srcExpress h 0 s
    else if (pairOfGroup i s).isSome then s
    else hold 0x0608 srcExpress .major h 0 s

/-- The deskew store takes the containers of a slot; the group stream of the mfi that is now complete is restored and goes to the scullery
store (R238 to R241). -/
def playOut (i slot : Nat) (cs : List Container) (s : State) : State :=
  let g := groupOf i s
  let recent := g.recent.filter (fun c => slot < c.slot + 4) ++ cs
  let late := (mapMembers g.map).foldl (fun a m => max a (min 3 (streamOf g m).late)) 0
  let at_ := fun (m : Nat) => slot + min 3 (streamOf g m).late - late
  let aligned := recent.filter (fun c => c.slot == at_ c.member)
  let (t, n) := ((majority (overheadVotes g aligned)).1).getD (g.tRx, mapCount g.map)
  let map := (mapFor g n).getD g.map
  let areas := (mapMembers map).map (fun m =>
    match aligned.find? (fun c => c.member == m) with
    | some c => c.words
    | none => [])
  if g.cfg.trib then modGroup i (fun g => { g with recent := recent }) s
  else
    let b := collect t areas
    modGroup i (fun g => { g with
      recent := recent, stream := b, scullery := playScullery (clientTnom g.cfg.ctype) (clientLanes g.cfg.ctype) b g.scullery }) s

/-! ### Client AIS (R235, R247, R250, R261) -/

/-- Whole slots of client AIS are counted, and the signal toward the client is AIS or not. -/
def setClientAis (i : Nat) (on : Bool) (s : State) : State :=
  let now := s.clock.now
  modGroup i (fun g =>
    match g.aisFrom with
    | some f =>
      let n := (now - f) / slotCc
      { g with clientAis := on, counters := bump 9 n g.counters, aisFrom := if on then some (f + n * slotCc) else none }
    | none =>
      let next := s.clock.slotAt + (now - s.clock.slotAt + slotCc - 1) / slotCc * slotCc
      { g with clientAis := on, aisFrom := if on then some next else none }) s

/-- The output of a group is client AIS: it is in SF, or the action of an authentication failure runs (R247, R250). -/
def outputAis (i : Nat) (s : State) : Bool :=
  let g := groupOf i s
  shownCondition g == 2 || (match g.afUntil with | some t => decide (s.clock.now < t) | none => false)

/-! ### The far end's resize fields (R253) -/

/-- The resize machine reads the overhead of one good container. -/
def readFarResize (own : Option Nat) (now : Nat) (o : Overhead) (g : ExpGroup) : ExpGroup :=
  let r := g.resize
  let same := r.farRsz == 1 && r.farRemove == o.remove && r.farMember == o.member
  let run := if o.rsz = 1 then (if same then min 2 (r.farRun + 1) else 1) else 0
  let r := { r with farRsz := o.rsz, farRemove := o.remove, farMember := o.member, farRun := run, farG := o.g }
  let lower := (match own with | some t => decide (g.cfg.farTn < t) | none => false)
  let r :=
    match r.phase with
    | .idle => if run = 2 then { r with phase := .farRequest, remove := o.remove, member := o.member, own := false } else r
    | .request => if run = 2 && lower then { r with phase := .withdrawn, again := some (r.remove, r.member), tPrep := none } else r
    | .farRequest => if o.rsz = 0 then { r with phase := .idle } else r
    | .withdrawn =>
      if o.rsz = 0 then
        let (rm, m) := r.again.getD (r.remove, r.member)
        { r with phase := .request, remove := rm, member := m, own := true, again := none, tPrep := some (now + 64 * superframeCc) }
      else r
    | _ => r
  { g with resize := r }

/-- A far request that adds a member starts with a fresh stream, and drops it when it ends without a PREPARE (R244, R253). -/
def syncAdded (i : Nat) (was : Resize) (s : State) : State :=
  let r := (groupOf i s).resize
  if was.phase = .idle ∧ r.phase = .farRequest ∧ r.remove = false then dropStream i r.member s
  else if was.phase = .farRequest ∧ r.phase = .idle ∧ was.remove = false then dropStream i was.member s
  else s

/-- The resize fields of the good containers of a slot. -/
def readResizes (i : Nat) (old : ExpGroup) : List Container → State → State
  | [], s => s
  | c :: cs, s =>
    let s := if c.good && mfiKnown old c then
        syncAdded i (groupOf i s).resize (modGroup i (readFarResize s.join.tn s.clock.now (readOverhead c.overhead)) s)
      else s
    readResizes i old cs s

/-- The evaluation of one group with expected containers; the containers of a tributary group are judged each alone (R238, R244, R264).
Assumption 48. -/
def evaluateGroup (slot i : Nat) (s : State) : State :=
  let g := groupOf i s
  let cs := s.express.arrivals.filter (fun c => c.group == i && c.slot == slot && memberUsed c.member g)
  let (v, tie) := majority (overheadVotes g cs)
  let tie := tie && !g.cfg.trib
  let judge := fun (c : Container) => { c with good := containerGood slot tie g c }
  let cs := cs.map judge
  let s := modExpress (fun e => { e with arrivals := e.arrivals.map (fun c => if c.group == i && c.slot == slot then judge c else c) }) s
  let s := (match v with
    | some (t, _) => if tie then s else modGroup i (fun g => { g with tRx := t }) s
    | none => countGroup i 4 1 s)
  let ts := if g.cfg.trib then [] else arrivalTimes slot g cs
  let s := takeContainers slot cs s
  let s := updateSkew i ts s
  let s := readResizes i g cs s
  updateCondition i (playOut i slot cs s)

/-! ### The selector of a pair (R257, R258) -/

/-- The pair of a working group. -/
def pairAt (w : Nat) (s : State) : Option Pair := tabGet none s.express.pairs w

/-- Replaces a pair. -/
def setPair (w : Nat) (p : Option Pair) (s : State) : State := modExpress (fun e => { e with pairs := tabSet none e.pairs w p }) s

/-- The conditions of the working and of the protect group. -/
def pairConditions (w : Nat) (p : Pair) (s : State) : Nat × Nat :=
  (shownCondition (groupOf w s), shownCondition (groupOf p.protect s))

/-- The target side, true for protect, and why it differs from the selected one (R257). -/
def pairTarget (w : Nat) (p : Pair) (s : State) : Bool × TargetWhy :=
  let (cw, cp) := pairConditions w p s
  if p.request = 1 then (false, .request)
  else if p.request = 2 ∧ cp ≠ 2 then (true, .request)
  else if cw = 2 ∧ cp = 2 then (p.selected, .same)
  else if cp < cw then (true, .condition)
  else if cw < cp then (false, .condition)
  else if p.request = 3 then (false, .request)
  else if p.request = 4 then (true, .request)
  else if p.selected && p.revertive && p.request == 0 then (false, .reversion)
  else (p.selected, .same)

/-- The selector moves to a side: counted on the working group, and told (R258, R260, R261). Assumption 48. -/
def switchPair (w : Nat) (side : Bool) (s : State) : State :=
  match pairAt w s with
  | none => s
  | some p =>
    let s := setPair w (some { p with selected := side, phase := .steady, timer := none, aim := none }) s
    raise 0x060A srcExpress .info (handleOf 0x01 w s) (wordOf (bitNat side)) (countGroup w 11 1 s)

/-- Starts WTR (R258). -/
def startWtr (w : Nat) (p : Pair) (aim : Bool × TargetWhy) (s : State) : State :=
  setPair w (some { p with phase := .wtr, timer := some (s.clock.now + p.wtr * secCc), aim := some aim }) s

/-- Acts in STEADY on a target (R258). -/
def actSteady (w : Nat) (s : State) : State :=
  match pairAt w s with
  | none => s
  | some p =>
    let (side, why) := pairTarget w p s
    if side = p.selected then s
    else
      match why with
      | .reversion => startWtr w p (side, why) s
      | .condition =>
        if p.holdOff = 0 then switchPair w side s
        else setPair w (some { p with phase := .hold, timer := some (s.clock.now + p.holdOff * 100 * msCc), aim := some (side, why) }) s
      | _ => switchPair w side s

/-- The selector takes the present conditions and request (R258). -/
def selectPair (w : Nat) (s : State) : State :=
  match pairAt w s with
  | none => s
  | some p =>
    let (cw, cp) := pairConditions w p s
    let sel := if p.selected then cp else cw
    let other := if p.selected then cw else cp
    let h := handleOf 0x01 w s
    let p := if p.phase == .wtr && p.aim != some (pairTarget w p s) then { p with phase := .steady, timer := none, aim := none } else p
    let s := setPair w (some p) s
    match p.phase with
    | .double =>
      if sel ≠ 2 then clear 0x060B srcExpress h 0 (setPair w (some { p with phase := .steady }) s)
      else if other ≠ 2 then clear 0x060B srcExpress h 0 (startWtr w p (!p.selected, .condition) s)
      else s
    | .wtr => s
    | .hold =>
      if cw = 2 ∧ cp = 2 then hold 0x060B srcExpress .critical h 0 (setPair w (some { p with phase := .double, timer := none, aim := none }) s)
      else s
    | .steady =>
      if cw = 2 ∧ cp = 2 then hold 0x060B srcExpress .critical h 0 (setPair w (some { p with phase := .double, timer := none, aim := none }) s)
      else actSteady w s

/-- The output of a pair: the selected side's stream, or client AIS (R247, R258). -/
def pairOutput (w : Nat) (s : State) : State :=
  match pairAt w s with
  | none => s
  | some p => setClientAis w (outputAis (if p.selected then p.protect else w) s) s

/-- The output of the port that a group carries follows the group, or its pair. Assumption 48. -/
def groupOutput (i : Nat) (s : State) : State :=
  match pairOfGroup i s with
  | some w => pairOutput w (selectPair w s)
  | none => if (groupOf i s).cfg.trib then s else setClientAis i (outputAis i s) s

end Sys2Proof.Machine
end

