-- ==== Sys2Proof/Machine/TribOps.lean ====
section
/-! DEFINITION. Tributary containers, the connection memory, through entries and the faults of tributaries (R264 to R279). -/

namespace Sys2Proof.Machine

/-- The system source of tributaries (R472). -/
def srcTrib : Nat := 1925

/-! ### Connection memory entries (R271) -/

/-- A field of an entry by its low bit and width. -/
def entryField (e : BitVec 64) (lo len : Nat) : Nat := e.toNat / 2 ^ lo % 2 ^ len

def entryValid (e : BitVec 64) : Bool := e.getLsbD 63
def srcIsPart (e : BitVec 64) : Bool := e.getLsbD 62
def dstIsPart (e : BitVec 64) : Bool := e.getLsbD 61
def entryCirc (e : BitVec 64) : Nat := entryField e 49 12
def entrySrc (e : BitVec 64) : Nat × Nat × Nat := (entryField e 39 10, entryField e 34 5, entryField e 30 4)
def entryDst (e : BitVec 64) : Nat × Nat × Nat := (entryField e 20 10, entryField e 15 5, entryField e 11 4)

/-- A tributary circuit, and a circuit rewritten. -/
def tribOf (i : Nat) (s : State) : Tributary := tabGet tributaryReset s.express.tribs i
def modTrib (i : Nat) (f : Tributary → Tributary) (s : State) : State :=
  modExpress (fun e => { e with tribs := tabMod tributaryReset e.tribs i f }) s

/-- The live client tributary of a lane: the part of an own client tributary that an entry names by its lane (R271). Assumption 110. -/
def laneTributary (l : Nat) (s : State) : Option Nat :=
  (List.range 2048).find? (fun i => (chanSlot 0x02 i s).live && (tribOf i s).client && (tribOf i s).lane == l)

/-- The stage page in force for the containers of a slot: the wings page for slots from a pending swap's effective SFN on, and the page
before the last swap for slots that precede it (R274). -/
def pageAt (slot : Nat) (s : State) : Tab (BitVec 64) :=
  match s.express.swap, s.express.swapped with
  | some n, _ => if 128 * n ≤ slot then s.express.wings else s.express.stage
  | none, some (n, _) => if slot < 128 * n then s.express.wings else s.express.stage
  | none, none => s.express.stage

/-- T_nom, part count and ncode of a circuit type (R266, R268). -/
def tribTnom (t : Nat) : Nat := if t = 0 then 10560 else 26400
def tribParts (t : Nat) : Nat := if t = 0 then 2 else 5
def tribNcode (t : Nat) : Nat := if t = 0 then 1 else 2

/-! ### Container layout (R265, R266) -/

/-- A descriptor of 24 bits. -/
def descriptor (occ ais : Bool) (part ncode tcount : Nat) : Nat :=
  bitNat occ * 2 ^ 23 + bitNat ais * 2 ^ 22 + part % 8 * 2 ^ 19 + ncode % 8 * 2 ^ 16 + tcount % 2 ^ 15 * 2

/-- The fields of a descriptor. -/
def descOcc (d : Nat) : Bool := fieldAt 24 d 0 1 == 1
def descAis (d : Nat) : Bool := fieldAt 24 d 1 1 == 1
def descPart (d : Nat) : Nat := fieldAt 24 d 2 3
def descNcode (d : Nat) : Nat := fieldAt 24 d 5 3
def descCount (d : Nat) : Nat := fieldAt 24 d 8 15

/-- The 256 bits of the descriptor area of a client area. -/
def descArea (ws : Tab Word) : Nat := (List.range 8).foldl (fun a i => a * 2 ^ 32 + (tabGet 0 ws i).toNat) 0

/-- The CRC of a descriptor area holds. -/
def descCrcOk (n : Nat) : Bool := crc16 (bitsOfNat 240 (n / 2 ^ 16)) == n % 2 ^ 16

/-- The ten descriptors of an area. -/
def areaDescs (n : Nat) : List Nat := (List.range 10).map (fun i => fieldAt 256 n (24 * i) 24)

/-- The 168 words of tributary slot `i`. -/
def slotWords (ws : Tab Word) (i : Nat) : List Word := tabGetList 0 ws (8 + 168 * i) 168

/-- The client area that ten tributary slots make. -/
def tribArea (ts : List TribSlot) : Tab Word :=
  let n := ts.foldl (fun a t => a * 2 ^ 24 + t.desc % 2 ^ 24) 0
  let area := n * 2 ^ 16 + crc16 (bitsOfNat 240 n)
  tabSetList 0 [] 0 ((List.range 8).map (fun i => wordOf (area / 2 ^ (32 * (7 - i)))) ++ ts.flatMap (fun t => t.words))

/-- An unoccupied tributary slot. -/
def emptySlot : TribSlot := ⟨0, List.replicate 168 0⟩

/-! ### Receiving (R267, R273, R276 to R278) -/

/-- The descriptors of a container: its own when their CRC passes, else those of the member's last container whose CRC passed, with a
descriptor loss counted (R267). -/
def takeDescriptors (c : Container) (s : State) : State :=
  let n := descArea c.words
  if descCrcOk n then modStream c.group c.member (fun st => { st with descs := areaDescs n, descBad := 0 }) s
  else
    modGroup c.group (fun g => { g with descLosses := g.descLosses + 1 })
      (modStream c.group c.member (fun st => { st with descBad := min 2 (st.descBad + 1) }) s)

/-- The container of a tributary group's member among the slot's arrivals. -/
def memberContainer (num m : Nat) (cs : List Container) (s : State) : Option Container :=
  cs.find? (fun c => (groupOf c.group s).cfg.number == num && c.member == m)

/-- The stream of a member of the group with a number. -/
def streamNumbered (num m : Nat) (s : State) : MemberStream :=
  match groupNumbered num s with
  | some i => streamOf (groupOf i s) m
  | none => streamReset

/-- The descriptor that a member's last container gave to tributary slot `ts`. -/
def descOf (num m ts : Nat) (s : State) : Nat := (streamNumbered num m s).descs.getD ts 0

/-- An entry's part, with the descriptor that its source gives, is in mismatch in this container (R266, R267). -/
def partMismatch (c : Tributary) (e : BitVec 64) (d : Nat) (s : State) : Bool :=
  let (num, m, _) := entrySrc e
  let tnom := tribTnom c.ttype
  let wrongPart := dstIsPart e && descPart d != (entryDst e).2.2
  (!srcIsPart e && 2 ≤ (streamNumbered num m s).descBad) || !descOcc d || wrongPart || descNcode d != tribNcode c.ttype ||
    !decide (tnom * 4999 ≤ 5000 * descCount d ∧ 5000 * descCount d ≤ tnom * 5001)

/-- A member in SF: LOS, LOF or AIS on its stream (R244, R264). -/
def memberFails (e : BitVec 64) (s : State) : Bool :=
  let (num, m, _) := entrySrc e
  streamFails (streamNumbered num m s)

/-- The entries of a slot's page that lead to a destination of a circuit: to the lane of a client tributary, or the through entries that
it owns (R271, R278). Assumption 110. -/
def leadingEntries (slot circ : Nat) (c : Tributary) (s : State) : List (BitVec 64) :=
  ((pageAt slot s).filter (fun e => entryValid e.2 &&
    (if c.client then dstIsPart e.2 && (entryDst e.2).1 == c.lane else !srcIsPart e.2 && !dstIsPart e.2 && entryCirc e.2 == circ))).map
      (fun e => e.2)

/-- The source of a circuit's event: its client lane, or the system source (R279). Assumption 110. -/
def tribSource (c : Tributary) : Nat := if c.client then srcLane c.lane else srcTrib

/-- Part `k` of what a client tributary sends in a slot: its chosen bits, or AIS with T_nom when none have been chosen (R234,
R269). Assumption 110. -/
def partSlot (slot circ k : Nat) (s : State) : TribSlot :=
  let c := tribOf circ s
  let (ais, b) := (chosenAt slot c.chosen).getD (true, ⟨tribTnom c.ttype, 0⟩)
  let n := tribParts c.ttype
  let ws := (List.range (dealtWords (runWords b) n k)).map (fun q => runWord b (q * n + k))
  ⟨descriptor true (ais || c.sf) k (tribNcode c.ttype) b.len, ws.take 168 ++ List.replicate (168 - ws.length) 0⟩

/-- What the source of an entry gives in a slot: the received tributary slot with the member's descriptor, or the part of the client
tributary of a lane; none where no container came (R267, R271). Assumption 110. -/
def sourceSlot (slot : Nat) (e : BitVec 64) (cs : List Container) (s : State) : Option TribSlot :=
  let (a, b, ts) := entrySrc e
  if srcIsPart e then (laneTributary a s).map (fun i => partSlot slot i ts s)
  else (memberContainer a b cs s).map (fun c => ⟨descOf a b ts s, slotWords c.words ts⟩)

/-- The stream of a client tributary restored from its parts, as the count that the first of them states says (R270). -/
def collectParts (slot : Nat) (c : Tributary) (es : List (BitVec 64)) (cs : List Container) (s : State) : BitRun :=
  let n := tribParts c.ttype
  let part := fun (k : Nat) => ((es.find? (fun e => (entryDst e).2.2 == k)).bind (fun e => sourceSlot slot e cs s)).elim [] (fun t => t.words)
  let t := descCount ((es.head?.bind (fun e => sourceSlot slot e cs s)).elim 0 (fun t => t.desc))
  joinWords t ((List.range ((t + 31) / 32)).map (fun k => (part (k % n)).getD (k / n) 0))

/-- One circuit at the evaluation of its containers: the runs of R278, TRIB_SF, and the stream of a client tributary with its play-out. -/
def evaluateTrib (slot : Nat) (cs : List Container) (i : Nat) (s : State) : State :=
  let c := tribOf i s
  let es := leadingEntries slot i c s
  let rs := es.filter (fun e => !srcIsPart e)
  if !es.any (fun e => (sourceSlot slot e cs s).isSome) then s
  else
    let desc := fun (e : BitVec 64) => (sourceSlot slot e cs s).elim 0 (fun t => t.desc)
    let fails := rs.any (fun e => memberFails e s)
    let bad := es.any (fun e => partMismatch c e (desc e) s)
    let ais := es.any (fun e => descAis (desc e))
    let mr := if bad then min 2 (c.mismatchRun + 1) else 0
    let ar := if ais then min 2 (c.aisRun + 1) else 0
    let cr := if fails || bad || ais then 0 else min 8 (c.clearRun + 1)
    let sf := fails || mr == 2 || ar == 2 || (c.sf && cr != 8)
    let s := modTrib i (fun c => { c with mismatchRun := mr, aisRun := ar, clearRun := cr, sf := sf }) s
    let s := if c.client then
        let b := collectParts slot c es cs s
        modTrib i (fun c => { c with stream := b, scullery := playScullery (tribTnom c.ttype) 1 b c.scullery }) s
      else s
    holdIf sf 0x0701 (tribSource c) .major (if c.client then 0 else handleOf 0x02 i s) 0 s

/-- The slot that a through entry passes on: the source's, or zeros with ais = 1 when its container is not good (R273). -/
def throughSlot (c : Container) (ts : Nat) (t : Tributary) (s : State) : TribSlot :=
  if c.good then ⟨(streamOf (groupOf c.group s) c.member).descs.getD ts 0, slotWords c.words ts⟩
  else ⟨descriptor true true 0 (tribNcode t.ttype) (tribTnom t.ttype), List.replicate 168 0⟩

/-- A through entry: from a tributary slot to a tributary slot (R273). -/
def isThrough (e : BitVec 64) : Bool := entryValid e && !srcIsPart e && !dstIsPart e

/-- Two through entries at one index have the same source. -/
def sameSource (a b : BitVec 64) : Bool := isThrough a && isThrough b && entrySrc a == entrySrc b

/-- Free words, one after the other (assumption 2). Assumption 25. -/
def freeWords : Nat → State → List Word × State
  | 0, s => ([], s)
  | n + 1, s =>
    let (w, s) := takeFree s
    let (ws, s) := freeWords n s
    (w :: ws, s)

/-- The store of an entry for containers of a slot stands in the table of the pending page: its source is new there (R273, R274).
Assumption 25. -/
def nextStore (slot k : Nat) (s : State) : Bool :=
  match s.express.swap with
  | some n => 128 * n ≤ slot && !sameSource (tabGet 0 s.express.stage k) (tabGet 0 s.express.wings k)
  | none => false

/-- The elastic store of an entry: one that has not been used since its entry came into force stands centred, with one whole tributary
slot, whose content is a free value, and half of the next (R273; assumption 25). -/
def elasticOf (next : Bool) (k : Nat) (s : State) : List TribSlot × State :=
  match tabGet none (if next then s.express.elasticNext else s.express.elastic) k with
  | some q => (q, s)
  | none =>
    let (d, s) := takeFree s
    let (ws, s) := freeWords 168 s
    ([⟨d.toNat % 2 ^ 24, ws⟩], s)

/-- Replaces the elastic store of an entry. Assumption 25. -/
def setElastic (next : Bool) (k : Nat) (q : List TribSlot) (s : State) : State :=
  modExpress (fun x =>
    if next then { x with elasticNext := tabSet none x.elasticNext k (some q) } else { x with elastic := tabSet none x.elastic k (some q) }) s

/-- One through entry takes its source slot into its elastic store of 3 (R273). -/
def feedThrough (slot : Nat) (cs : List Container) (k : Nat) (e : BitVec 64) (s : State) : State :=
  let (num, m, ts) := entrySrc e
  match memberContainer num m cs s with
  | none => s
  | some c =>
    let t := throughSlot c ts (tribOf (entryCirc e) s) s
    let next := nextStore slot k s
    let (q, s) := elasticOf next k s
    setElastic next k (if 3 ≤ q.length then q else q ++ [t]) s

/-- Every valid through entry of a slot's page. -/
def feedThroughs (slot : Nat) (cs : List Container) : List (Nat × BitVec 64) → State → State
  | [], s => s
  | (k, e) :: es, s => feedThroughs slot cs es (if isThrough e then feedThrough slot cs k e s else s)

/-- The descriptors of every container. -/
def takeAllDescriptors : List Container → State → State
  | [], s => s
  | c :: cs, s => takeAllDescriptors cs (takeDescriptors c s)

/-- The tributary part of the evaluation of a slot. -/
def evaluateTribs (slot : Nat) (s : State) : State :=
  let cs := s.express.arrivals.filter (fun c => c.slot == slot && (groupOf c.group s).cfg.trib)
  let s := feedThroughs slot cs (pageAt slot s) (takeAllDescriptors cs s)
  forEach (evaluateTrib slot cs) ((List.range 2048).filter (fun i => (chanSlot 0x02 i s).live)) s

/-! ### Sending (R269, R272 to R274) -/

/-- The tributary slot `ts` of a member's container, as the page in force for the container's slot says (R272 to R274). -/
def sendSlot (slot num m ts : Nat) (s : State) : TribSlot × State :=
  match (pageAt slot s).find? (fun e => entryValid e.2 && !dstIsPart e.2 && entryDst e.2 == (num, m, ts)) with
  | none => (emptySlot, s)
  | some (k, e) =>
    if srcIsPart e then ((laneTributary (entrySrc e).1 s).elim emptySlot (fun i => partSlot slot i (entrySrc e).2.2 s), s)
    else
      let next := nextStore slot k s
      match elasticOf next k s with
      | ([], s) => (emptySlot, s)
      | (t :: q, s) => (t, setElastic next k q s)

/-- The ten slots of a member's container in order. -/
def sendSlots (slot num m : Nat) : List Nat → State → List TribSlot × State
  | [], s => ([], s)
  | ts :: rest, s =>
    let (t, s) := sendSlot slot num m ts s
    let (out, s) := sendSlots slot num m rest s
    (t :: out, s)

end Sys2Proof.Machine
end

