-- ==== Sys2Proof/Machine/ExpressRows.lean ====
section
/-! DEFINITION. The express commands 0x0601 to 0x0609 (R261 to R263). -/

namespace Sys2Proof.Machine

/-- A port gains or loses a carrier (R285). -/
def carryPort (p : Nat) (on : Bool) (s : State) : State :=
  modPort p (fun x => { x with carriers := if on then x.carriers + 1 else x.carriers - 1 }) s

/-- The members that the maps of all groups hold. -/
def membersInUse (s : State) : Nat := ((liveGroups s).map (fun i => mapCount (groupOf i s).map)).sum

/-- The client lanes of a group's port (R229). -/
def groupLanes (c : GroupConfig) : List Nat := if c.trib then [] else (List.range (clientLanes c.ctype)).map (c.port + ·)

/-- A group comes into being at an index; end containers that a destroyed group of its number owes are still sent (R74, R263). -/
def openGroup (i : Nat) (c : GroupConfig) (map : Nat) (s : State) : State :=
  let s := openChan .expressGroup i s
  let g : ExpGroup := { expGroupReset with cfg := c, map := map }
  modExpress (fun e => { e with
    groups := tabSet expGroupReset e.groups i g, aisLanes := e.aisLanes.filter (fun l => !(groupLanes c).contains l) }) s

/-- What GROUP_CREATE asks for (R262). -/
def groupRequest (req : List Word) : GroupConfig :=
  let a := wordAt req 0
  let b := wordAt req 1
  let sd := fieldOf (wordAt req 3) 0 16
  { number := fieldOf a 0 10, farTn := fieldOf a 16 5, port := fieldOf a 24 8, ctype := fieldOf b 0 3, role := fieldOf b 4 2,
    afAction := bitOf b 8, afHold := fieldOf b 16 16, sdLimit := if sd = 0 then 40 else sd, trib := false, pn0832 := false }

/-- The arguments of GROUP_CREATE are in range (R263). -/
def groupArgsOk (c : GroupConfig) (map : Word) : Bool :=
  c.farTn ≤ 29 && 1 ≤ c.ctype && c.ctype ≤ 4 && c.port % clientLanes c.ctype == 0 && c.role ≤ 2 && fieldOf map 17 15 == 0 &&
    clientMembers c.ctype ≤ mapCount (fieldOf map 0 17) && !(c.afAction && c.afHold == 0)

/-- GROUP_CREATE (R227 to R229, R262, R263). -/
def execGroupCreate (src : Source) (tag : Nat) (req : List Word) (s : State) : Result :=
  let c := groupRequest req
  let map := fieldOf (wordAt req 2) 0 17
  command src tag req ⟨4, pf0Only src, false⟩ (fun s =>
    if !groupArgsOk c (wordAt req 2) then refuse .badArg s
    else if (groupNumbered c.number s).isSome || !(portEnabled c.port s && (portOf c.port s).cfg.circuit) ||
        (liveGroups s).any (fun i => let g := (groupOf i s).cfg; !g.trib && g.port == c.port && g.role == c.role) then
      refuse .conflict s
    else if 512 < membersInUse s + mapCount map then refuse .noResource s
    else
      match nextIndex .expressGroup s with
      | none => refuse .noResource s
      | some i => 
        let s := carryPort c.port true (openGroup i c map s)
        okay [handleOf 0x01 i s] (setClientAis i true s)) s

/-- The conditions that a group holds end (R260). -/
def clearGroup (i : Nat) (s : State) : State :=
  let h := handleOf 0x01 i s
  let s := clear 0x0609 srcExpress h 0 (clear 0x0608 srcExpress h 0 s)
  let held := (groupOf i s).streams.flatMap (fun e => e.2.held)
  held.foldl (fun s c => clear c.1 c.2 0 0 s) s

/-- The members that a group sends: its map, a member that is being added or removed, and those that owe an end container (R228, R255).
Assumption 93. -/
def sendingMembers (g : ExpGroup) : Nat := maskOf (fun m => memberActive m g || maskBit g.ending m) 17

/-- A group that sends owes an end container on each member, and its port sends client AIS until it is reconfigured (R74, R263).
Assumption 42. -/
def endGroup (i : Nat) (s : State) : State :=
  let g := groupOf i s
  let n := mapCount g.map
  let e : EndedGroup := { farTn := g.cfg.farTn, members := sendingMembers g, g := n, count := tnomFor g n, tags := g.sentTags }
  let shared := (liveGroups s).any (fun j => let c := (groupOf j s).cfg; j != i && !c.trib && c.port == g.cfg.port)
  modExpress (fun x => { x with
    groups := tabSet expGroupReset x.groups i expGroupReset, ended := tabSet none x.ended g.cfg.number (some e)
    aisLanes := x.aisLanes ++ (if shared then [] else groupLanes g.cfg)
    arrivals := x.arrivals.filter (fun c => c.group != i) }) s

/-- GROUP_DESTROY (R74, R253, R263). -/
def execGroupDestroy (src : Source) (tag : Nat) (req : List Word) (s : State) : Result :=
  command src tag req ⟨1, pf0Only src, false⟩ (fun s =>
    withHandle .expressGroup (wordAt req 0) s (fun i =>
      if (pairOfGroup i s).isSome then refuse .conflict s
      else
        let g := groupOf i s
        let s := endLongs (fun k => k == .groupResize i) .aborted [] (clearGroup i s)
        let s := if g.cfg.trib then s else carryPort g.cfg.port false s
        okay [] (closeChan .expressGroup i (endGroup i s)))) s

/-- Number of a resize state (R262). -/
def resizeCode : ResizePhase → Nat
  | .idle => 0
  | .request => 1
  | .farRequest => 2
  | .withdrawn => 3
  | .preparing => 4
  | .ready => 5
  | .switched => 6

/-- The word of member `m` in GROUP_STATUS; `last` is the slot evaluated last (R262). -/
def memberWord (last : Option Nat) (g : ExpGroup) (m : Nat) : Word :=
  if !memberUsed m g then 0
  else
    let st := streamOf g m
    let valid := st.laneSlot.isSome && st.laneSlot == last
    pack [(0, bitNat st.los), (1, bitNat st.lof), (2, bitNat st.ais.held), (3, bitNat st.sd), (4, bitNat (st.flagged && valid)),
      (6, min 3 st.late), (16, if valid then st.lane else 0), (26, bitNat valid)]

/-- The client of a group's port receives client AIS: the group's, or its pair's output. -/
def shownAis (i : Nat) (s : State) : Bool := (groupOf ((pairOfGroup i s).getD i) s).clientAis

/-- A circuit-mode port sends client AIS: no group or tributary carries it, or what carries it says so (R235, R247, R278, R285).
Assumption 104. -/
def portAis (p : Nat) (s : State) : Bool :=
  match (liveGroups s).find? (fun i => let c := (groupOf i s).cfg; !c.trib && c.port == p) with
  | some i => shownAis i s
  | none =>
    match laneTributary p s with
    | some i => (tribOf i s).sf
    | none => true

/-- What a port sends: with received local fault it answers remote fault, and with remote fault idle without frames (R235, R285, R287;
assumption 104). -/
def portSends (p : Nat) (s : State) : ClientSignal :=
  let x := portOf p s
  match x.phase with
  | .disabled => .off
  | .powerDown => .off
  | .training => .training
  | .aligning => if x.cfg.circuit then (if portAis p s then .clientAis else .carried) else .idle
  | .up =>
    if x.cfg.circuit then (if portAis p s then .clientAis else .carried)
    else if x.lf then .remoteFault
    else if x.rf then .idle
    else .frames

/-- The words of GROUP_STATUS (R262). Assumption 37. -/
def groupWords (i : Nat) (s : State) : List Word :=
  let g := groupOf i s
  [pack [(0, shownCondition g), (2, bitNat (shownAis i s)), (3, bitNat g.authFail),
      (4, bitNat (g.streams.any (fun e => memberActive e.1 g && e.2.rdi.held))), (5, bitNat g.rdiOut), (6, mapCount g.map),
      (11, resizeCode g.resize.phase), (16, min 65535 g.skew)],
   wordOf g.map, wordOf (g.tRx % 2 ^ 20)] ++ (List.range 17).map (memberWord s.express.evalSlot g)

/-- GROUP_STATUS: with clear_af = 1 the AUTH_FAIL flag ends after the read (R250, R262, R263). -/
def execGroupStatus (src : Source) (tag : Nat) (req : List Word) (s : State) : Result :=
  let clr := bitOf (wordAt req 1) 0
  command src tag req ⟨2, readOrPf0 src clr, false⟩ (fun s =>
    withHandle .expressGroup (wordAt req 0) s (fun i =>
      okay (groupWords i s)
        (cleared clr (fun s => clear 0x0609 srcExpress (handleOf 0x01 i s) 0 (modGroup i (fun g => { g with authFail := false }) s)) s))) s

/-- A remove would leave fewer members than the client type needs (R229, R263). -/
def tooFew (g : ExpGroup) (m : Nat) : Bool :=
  mapCount g.map - bitNat (maskBit g.map m) < clientMembers g.cfg.ctype

/-- GROUP_RESIZE: it starts T_PREP and stands in every container of the group (R253, R262, R263, R280). -/
def execGroupResize (src : Source) (tag : Nat) (req : List Word) (s : State) : Result :=
  let rm := bitOf (wordAt req 1) 0
  let m := fieldOf (wordAt req 1) 4 5
  command src tag req ⟨2, pf0Only src, false⟩ (fun s =>
    withHandle .expressGroup (wordAt req 0) s (fun i =>
      let g := groupOf i s
      if 16 < m || (!rm && maskBit g.map m) || (rm && tooFew g m) then refuse .badArg s
      else if g.cfg.trib then refuse .conflict s
      else if g.resize.phase ≠ .idle then refuse .busy s
      else
        let s := modGroup i (fun g => { g with resize := { g.resize with
          phase := .request, remove := rm, member := m, own := true, tPrep := some (s.clock.now + 64 * superframeCc) } }) s
        (.accepted, startLong src tag (.groupResize i) (if rm then s else dropStream i m s)))) s

/-- PAIR_CREATE (R256, R262, R263). -/
def execPairCreate (src : Source) (tag : Nat) (req : List Word) (s : State) : Result :=
  let c := wordAt req 2
  let ho := fieldOf c 8 8
  let wtr := fieldOf c 16 10
  command src tag req ⟨3, pf0Only src, false⟩ (fun s =>
    withHandle .expressGroup (wordAt req 0) s (fun w =>
      withHandle .expressGroup (wordAt req 1) s (fun p =>
        let a := (groupOf w s).cfg
        let b := (groupOf p s).cfg
        if a.role ≠ 1 ∨ b.role ≠ 2 ∨ 100 < ho ∨ wtr < 1 ∨ 720 < wtr then refuse .badArg s
        else if (pairOfGroup w s).isSome || (pairOfGroup p s).isSome || a.farTn != b.farTn || a.port != b.port || a.ctype != b.ctype
        then refuse .conflict s
        else
          let s := setPair w (some { pairReset with protect := p, revertive := bitOf c 0, holdOff := ho, wtr := wtr }) s
          let s := modGroup p (fun g => { g with bridged := true }) (setClientAis p false s)
          okay [] (pairOutput w s)))) s

/-- PAIR_DESTROY: the working group carries the port alone (R263). -/
def execPairDestroy (src : Source) (tag : Nat) (req : List Word) (s : State) : Result :=
  command src tag req ⟨1, pf0Only src, false⟩ (fun s =>
    withHandle .expressGroup (wordAt req 0) s (fun w =>
      match pairAt w s with
      | none => refuse .badArg s
      | some p =>
        let s := clear 0x060B srcExpress (handleOf 0x01 w s) 0 (setPair w none s)
        let s := modGroup p.protect (fun g => { g with bridged := false }) s
        okay [] (setClientAis w (outputAis w s) s))) s

/-- Number of a selector state (R262). -/
def selCode : SelPhase → Nat
  | .steady => 0
  | .hold => 1
  | .wtr => 2
  | .double => 3

/-- The word of PROTECT_REQUEST (R262). -/
def selectorWord (p : Pair) (s : State) : Word :=
  let left := (match p.phase, p.timer with
    | .wtr, some t => (t - s.clock.now + secCc - 1) / secCc
    | _, _ => 0)
  pack [(0, selCode p.phase), (2, bitNat p.selected), (3, p.request), (16, min 1023 left)]

/-- PROTECT_REQUEST (R257, R258, R262, R263). -/
def execProtectRequest (src : Source) (tag : Nat) (req : List Word) (s : State) : Result :=
  let r := fieldOf (wordAt req 1) 0 3
  command src tag req ⟨2, src == .pf0 || r == 7, false⟩ (fun s =>
    withHandle .expressGroup (wordAt req 0) s (fun w =>
      match pairAt w s with
      | none => refuse .badArg s
      | some p =>
        if r = 5 ∨ r = 6 then refuse .badArg s
        else
          let s := if r = 7 then s else pairOutput w (selectPair w (setPair w (some { p with request := r }) s))
          okay [selectorWord ((pairAt w s).getD pairReset) s] s)) s

/-- The twelve words of GROUP_COUNTERS (R261). -/
def groupCounterWords (g : ExpGroup) : List Word :=
  (List.range 12).map (fun i => if i = 5 then pack [(0, g.unverifiedCount), (16, g.flaggedCount)] else wordOf (g.counters.getD i 0))

/-- GROUP_COUNTERS (R261 to R263). -/
def execGroupCounters (src : Source) (tag : Nat) (req : List Word) (s : State) : Result :=
  let clr := bitOf (wordAt req 1) 0
  command src tag req ⟨2, readOrPf0 src clr, false⟩ (fun s =>
    withHandle .expressGroup (wordAt req 0) s (fun i =>
      let s := setClientAis i (groupOf i s).clientAis s
      okay (groupCounterWords (groupOf i s))
        (cleared clr
          (modGroup i (fun g => { g with counters := List.replicate 12 0, flaggedCount := 0, unverifiedCount := 0 })) s))) s

/-- The placement bit of a receive lane (R232). -/
def placementBit (r : Nat) (s : State) : Bool := qualityValid r s && (rxLane r s).quality ≤ 42

/-- LANE_PLACEMENT_READ (R232, R262, R263). -/
def execLanePlacementRead (src : Source) (tag : Nat) (req : List Word) (s : State) : Result :=
  command src tag req ⟨0, true, false⟩ (fun s =>
    okay ((List.range 32).map (fun j => wordOf (maskOf (fun i => placementBit (32 * j + i) s) 32))) s) s

end Sys2Proof.Machine
end

