-- ==== Sys2Proof/Machine/ExpressEvents.lean ====
section
/-! DEFINITION. Express events: the evaluation point, blocks, timers of protection and resize, the resize messages, and the choice of T
(R240, R245, R250 to R259). -/

namespace Sys2Proof.Machine

/-- CONTAINER_EVAL: the evaluation point at the end of a slot: every group with expected containers, the tributaries, and then the
outputs and selectors (R105, R244 to R259, R278). -/
def execContainerEval (slot : Nat) (s : State) : Result :=
  let s := toSlot (slot + 1) s
  let gs := (List.range 256).filter (fun i => s.express.arrivals.any (fun c => c.group == i && c.slot == slot))
  let s := forEach (closeSilent slot) (liveGroups s) s
  let s := forEach (evaluateGroup slot) gs s
  let s := evaluateTribs slot s
  let ws := (List.range 256).filter (fun w => (pairAt w s).isSome && gs.any (fun i => pairOfGroup i s == some w))
  let s := forEach groupOutput (ws ++ gs.filter (fun i => (pairOfGroup i s).isNone)) s
  .next (modExpress (fun e => { e with arrivals := e.arrivals.filter (fun c => slot < c.slot), evalSlot := some slot }) s)

/-- SD_BLOCK_CLOSE: a block of 1,024 containers of a member closes (R245). -/
def execSdBlockClose (group member : Nat) (s : State) : Result :=
  let g := groupOf group s
  let st := streamOf g member
  if st.blockCount < 1024 then .next s
  else
    let on := g.cfg.sdLimit ≤ st.blockErrors || (st.sd && g.cfg.sdLimit / 4 < st.blockErrors)
    let s := modStream group member (fun st => { st with sd := on, blockCount := 0, blockErrors := 0 }) s
    .next (groupOutput group (updateCondition group (syncMember group member s)))

/-- The timer of a pair in a selector state ends: the selector acts on its present target (R258). -/
def selectorTimer (phase : SelPhase) (w : Nat) (s : State) : Result :=
  match pairAt w s with
  | none => .next s
  | some p =>
    match p.timer with
    | none => .next s
    | some t =>
      if p.phase ≠ phase then .next s
      else
        let s := setPair w (some { p with phase := .steady, timer := none, aim := none }) (advanceTo t s)
        let side := (pairTarget w p s).1
        .next (pairOutput w (if side = p.selected then s else switchPair w side s))

/-- HOLD_OFF_EXPIRY (R258). -/
def execHoldOffExpiry (group : Nat) (s : State) : Result := selectorTimer .hold group s

/-- WTR_EXPIRY (R258). -/
def execWtrExpiry (group : Nat) (s : State) : Result := selectorTimer .wtr group s

/-- AF_HOLD_EXPIRY: client AIS after an authentication failure stops (R250). -/
def execAfHoldExpiry (group : Nat) (s : State) : Result :=
  match (groupOf group s).afUntil with
  | none => .next s
  | some t =>
    let s := modGroup group (fun g => { g with afUntil := none }) (advanceTo t s)
    match pairOfGroup group s with
    | some w => .next (pairOutput w s)
    | none => .next (setClientAis group (outputAis group s) s)

/-! ### Resizing (R252 to R255) -/

/-- Rewrites the resize of a group. -/
def modResize (i : Nat) (f : Resize → Resize) (s : State) : State := modGroup i (fun g => { g with resize := f g.resize }) s

/-- A resize ends: its timers stop, and the far end's field is read on. -/
def idleResize (r : Resize) : Resize :=
  { r with phase := .idle, own := false, again := none, tPrep := none, tCommit := none, commitSfn := none, oldMap := none }

/-- A pending GROUP_RESIZE of a group ends (R253). -/
def endResizeCommand (i : Nat) (st : Status) (s : State) : State := endLongs (fun k => k == .groupResize i) st [] s

/-- A resize fails: the old map stays, a member that was being added is dropped, the command ends, and RESIZE_FAIL (R244, R253, R260).
Assumption 48. -/
def failResize (i : Nat) (st : Status) (s : State) : State :=
  let r := (groupOf i s).resize
  let s := modResize i idleResize s
  let s := if r.remove then s else dropStream i r.member s
  raise 0x060D srcExpress .minor (handleOf 0x01 i s) (pairHandle i s) (endResizeCommand i st s)

/-- The checks of a resize message body (R252). -/
def resizeBody (m : StageMsg) (s : State) : Option (Nat × Bool × Nat × Nat) :=
  let mem := bodyField m 24 5
  if 16 < mem ∨ m.body.length < 16 then none
  else (groupNumbered (bodyField m 0 10) s).map (fun i => (i, bodyField m 16 1 == 1, mem, bodyField m 32 48))

/-- A resize message: mode 0b01, the checks of R252, and a matching request (R253). -/
def resizeMsg (m : StageMsg) (s : State) (k : Nat → Nat → State → State) : Result :=
  handleMsg [1] m s (fun s =>
    match resizeBody m s with
    | none => discardMsg m s
    | some (i, rm, mem, sfn) =>
      let r := (groupOf i s).resize
      if r.remove == rm && r.member == mem then k i sfn s else s)

/-- RESIZE_PREPARE (R253). -/
def execResizePrepare (msg : StageMsg) (s : State) : Result :=
  resizeMsg msg s (fun i sfn s =>
    let r := (groupOf i s).resize
    if r.phase = .request ∨ r.phase = .farRequest then
      modResize i (fun r => { r with phase := .preparing, prepSfn := sfn, tPrep := none }) s
    else s)

/-- RESIZE_COMMIT: SWITCHED, and the SFN at whose slot 0 the dealing changes; one that has begun gives way to the next superframe boundary
(R253, R254). -/
def execResizeCommit (msg : StageMsg) (s : State) : Result :=
  resizeMsg msg s (fun i sfn s =>
    if (groupOf i s).resize.phase = .ready then
      let now := nowSfn s
      modResize i (fun r => { r with
        phase := .switched, tCommit := none, oldMap := none, commitSfn := some (if sfn ≤ now then now + 1 else sfn) }) s
    else s)

/-- RESIZE_CANCEL (R253). -/
def execResizeCancel (msg : StageMsg) (s : State) : Result :=
  resizeMsg msg s (fun i _ s =>
    let r := (groupOf i s).resize
    if r.phase = .preparing ∨ r.phase = .ready then failResize i .aborted s else s)

/-- T_PREP: the request fails (R253). -/
def execTPrep (group : Nat) (s : State) : Result :=
  match (groupOf group s).resize.tPrep with
  | none => .next s
  | some t => .next (failResize group .timeout (advanceTo t s))

/-- T_COMMIT: the resize fails (R253). -/
def execTCommit (group : Nat) (s : State) : Result :=
  match (groupOf group s).resize.tCommit with
  | none => .next s
  | some t => .next (failResize group .timeout (advanceTo t s))

/-- A frozen grant of the slot gives a member of a group to a sender (R227). -/
def memberGranted (num m tn : Nat) (s : State) : Bool :=
  (List.range 16).any (fun p => (frozenGrants p s.clock.slot s).any (fun g =>
    g.kind == 2 && g.e == 0 && g.dest == num && g.member == m && g.tn == tn))

/-- The conditions of R253 for showing ready. -/
def resizeConditions (g : ExpGroup) (s : State) : Bool :=
  let r := g.resize
  let st := streamOf g r.member
  r.remove || (r.prepSfn ≤ nowSfn s && st.started && !st.lof &&
    memberGranted g.cfg.number r.member g.cfg.farTn s &&
    (match s.join.tn with | some t => memberGranted g.cfg.number r.member t s | none => false))

/-- RESIZE_PREPARED: ready is shown and T_COMMIT starts, once the conditions are met (R253). T_COMMIT's expiry in PREPARING applies
from the same start (R253). -/
def execResizePrepared (group : Nat) (s : State) : Result :=
  let g := groupOf group s
  if g.resize.phase = .preparing ∧ resizeConditions g s = true then
    .next (modResize group (fun r => { r with phase := .ready, tCommit := some (s.clock.now + 64 * superframeCc) }) s)
  else .next s

/-- RESIZE_SWITCHOVER: slot 0 of the COMMIT's SFN: the new map is the group's (R239, R253, R254). -/
def execResizeSwitchover (group : Nat) (s : State) : Result :=
  let r := (groupOf group s).resize
  match r.phase, r.commitSfn, r.oldMap with
  | .switched, some n, none =>
    let s := toSlot (128 * n) s
    .next (modGroup group (fun g => { g with map := newMap g, resize := { g.resize with oldMap := some g.map } }) s)
  | _, _, _ => .next s

/-- RESIZE_DONE: the far end's g equals the new map's count; a removed member sends its end container (R74, R253, R260). -/
def execResizeDone (group : Nat) (s : State) : Result :=
  let g := groupOf group s
  let r := g.resize
  match r.phase, r.commitSfn, r.oldMap with
  | .switched, some n, some _ =>
    if s.clock.slot ≤ 128 * n ∨ r.farG ≠ mapCount g.map then .next s
    else
      let st := streamOf g r.member
      let s := modGroup group (fun g => { g with
        resize := idleResize g.resize
        ending := if r.remove then withBit g.ending r.member true else g.ending
        leaving := if r.remove then withBit g.leaving r.member st.started else g.leaving }) s
      let s := if r.remove then
          st.held.foldl (fun s c => clear c.1 c.2 0 0 s) (modStream group r.member (fun st => { st with held := [] }) s)
        else s
      .next (raise 0x060C srcExpress .info (handleOf 0x01 group s) (pairHandle group s) (endResizeCommand group .ok s))
  | _, _, _ => .next s

end Sys2Proof.Machine
end

