-- ==== Sys2Proof/Machine/Freeze.lean ====
section
/-! DEFINITION. The freeze point of a slot: its effective grants, its reserved lanes, its sequence value, the key rolls, and the
placement of the express groups (R151 to R154, R207, R231, R280, R357 to R361, R364 to R366). -/

namespace Sys2Proof.Machine

/-! ### The burst sequence (R356 to R361) -/

/-- A sequence value not above the last one assigned: SEQ_HALT, and the terminal re-enters cue acquisition (R129, R357). -/
def sequenceRestart (s : State) : State :=
  let s := seqHalt (modSeq (fun q => { q with offset := none }) s)
  if s.join.phase = .offline ∨ s.join.phase = .leaving then s else enterCueAcq (forgetTn s)

/-- Near the permitted limit the write of the next record starts, but not during a Curtain (R359). -/
def startRecord (v : Nat) (s : State) : State :=
  match lastRecord s.sec.seq with
  | none => s
  | some (q, _, _) =>
    if q + 2 ^ 24 - 2 ^ 16 ≤ v && s.sec.seq.writing.isNone && s.power.state != .curtain then
      modSeq (fun x => { x with writing := some (q + 2 ^ 24) }) s
    else s

/-- The last committed record permits a value (R358, R359). -/
def permits (v : Nat) (q : Sequence) : Bool :=
  match lastRecord q with
  | some (r, _, _) => v < r + 2 ^ 24
  | none => false

/-- The sequence value of a slot is assigned, or the slot gets none (R356, R357, R359, R361). Assumption 33. -/
def assignSequence (slot : Nat) (s : State) : State :=
  match s.sec.seq.offset with
  | none => s
  | some d =>
    let v := ((slot : Int) + d).toNat
    if s.sec.seq.disabled then s
    else if 2 ^ 64 - 1 ≤ v then seqHalt (modSeq (fun q => { q with disabled := true }) s)
    else if (match s.sec.seq.last with | some l => decide (v ≤ l) | none => false) then sequenceRestart s
    else
      let s := startRecord v s
      if !permits v s.sec.seq then seqHalt s
      else
        seqResume (modSeq (fun q =>
          { q with last := some v, assigned := tabSet 0 (tabKeep (fun k => s.clock.slot ≤ k + 2) q.assigned) slot v }) s)

/-! ### Keys (R364 to R366, R388) -/

/-- A key's epoch for the slot that begins becomes current (R364, R366, R388). -/
def rollKey (k : Nat) (s : State) : State :=
  match sendEpoch (policyFor s.clock.slot s).limitLog2 s.clock.slot (lineKey k s) with
  | none => s
  | some e =>
    if (lineKey k s).current = some e.num then s
    else raise 0x0A03 1927 .info 0 0 (modKey k (fun x => { x with current := some e.num }) s)

/-! ### Placement (R230, R231, R280) -/

/-- An express member of a live group in a frozen slot: its lane, its group, and whether this terminal receives it. -/
structure Placed where
  lane : Nat
  group : Nat
  recv : Bool
  used : Bool
  e : Nat
deriving DecidableEq, Repr

/-- A grant as a placed member of a group that the terminal sends or receives. -/
def placedOf (lane : Nat) (gr : Grant) (s : State) : Option Placed :=
  if gr.kind ≠ 2 then none
  else
    match groupNumbered gr.dest s with
    | none => none
    | some i =>
      let g := groupOf i s
      let recv := g.cfg.farTn == gr.tn
      if recv || s.join.tn == some gr.tn then some ⟨lane, i, recv, memberUsed gr.member g, gr.e⟩ else none

/-- The placed members of a frozen slot, in lane order. -/
def placedMembers (slot : Nat) (s : State) : List Placed :=
  (List.range 16).flatMap (fun p =>
    let gs := frozenGrants p slot s
    (List.range gs.length).filterMap (fun j => placedOf (64 * p + 2 + j) (gs.getD j grantAbsent) s))

/-- A placement error of a group at a lane (R231). -/
def placementError (i lane : Nat) (s : State) : State := raise 0x0607 lane .minor 0 0 (countGroup i 10 1 s)

/-- `n` placement errors. -/
def placementErrors (i lane n : Nat) (s : State) : State := repeatOn (placementError i lane) n s

/-- The limits that the lane of a member of a group for a PN0832 exceeds: planes P0 to P7 and λ2 to λ31 (R280). -/
def limitsExceeded (g : ExpGroup) (lane : Nat) : Nat :=
  if g.cfg.trib && g.cfg.pn0832 then bitNat (decide (7 < lane / 64)) + bitNat (decide (31 < lane % 64)) else 0

/-- One member: a sheet with a period, a lane whose placement bit is 0, and the lane limits (R230, R231, R280). -/
def checkMember (m : Placed) (s : State) : State :=
  if m.e ≠ 0 then placementError m.group m.lane s
  else
    let bad := m.recv && m.used && !placementBit m.lane s
    placementErrors m.group m.lane (bitNat bad + (if m.recv then limitsExceeded (groupOf m.group s) m.lane else 0)) s

/-- Members of a group for a PN0832 beyond 4 count once, at the group's first lane (R280). -/
def checkCount (ms : List Placed) (i : Nat) (s : State) : State :=
  let g := groupOf i s
  match ms.find? (fun m => m.group == i && m.recv) with
  | none => s
  | some m => if g.cfg.trib && g.cfg.pn0832 && 4 < mapCount g.map then placementError i m.lane s else s

/-- The first lane of a group in a tile. -/
def laneInTile (ms : List Placed) (i t : Nat) : Option Nat := (ms.find? (fun m => m.group == i && m.lane / 128 == t)).map (fun m => m.lane)

/-- The groups of a pair have members on one tile: an error of the protect group for each such tile (R231). -/
def checkPair (ms : List Placed) (w : Nat) (s : State) : State :=
  match tabGet none s.express.pairs w with
  | none => s
  | some p =>
    forEach (fun t s =>
      match laneInTile ms w t, laneInTile ms p.protect t with
      | some _, some r => placementError p.protect r s
      | _, _ => s) (List.range 8) s

/-- The placement of all groups in a frozen slot. Assumptions 33 and 45. -/
def checkPlacement (slot : Nat) (s : State) : State :=
  let ms := placedMembers slot s
  let s := ms.foldl (fun s m => checkMember m s) s
  let s := forEach (checkCount ms) (liveGroups s) s
  forEach (checkPair ms) (s.express.pairs.map (fun e => e.1)) s

/-! ### The freeze point -/

/-- The effective grants of a plane are fixed; a committed entry that contradicts its sheet is an integrity error (R151, R153).
Assumptions 45 and 79. -/
def freezePlane (slot p : Nat) (s : State) : State :=
  let s := lapseSheets p s
  let g := grantsOf p s
  let bad := ((List.range 62).filter (fun j => entryAgainstSheet slot (j + 2) g)).length
  repeatOn (integrityError p) bad
    (modGrants p (fun g => { g with
      frozen := tabSet [] (tabKeep (fun k => s.clock.slot ≤ k + 2) g.frozen) slot (effectiveGrants slot g) }) s)

/-- FREEZE: the freeze point of a slot, one superframe before it (R153, R154, R207). -/
def execFreeze (slot : Nat) (s : State) : Result :=
  if !s.start.railsUp || s.grants.frozenTo == some slot then .next s
  else
    let s := toSlot (slot - 128) s
    let s := forEach (freezePlane slot) (List.range 16) s
    let tns := tabSet 0 (tabKeep (fun k => s.clock.slot ≤ k + 2) s.grants.frozenTn) slot (s.join.tn.elim 0 (fun t => t + 1))
    let s := assignSequence slot { s with grants := { s.grants with frozenTo := some slot, frozenTn := tns } }
    let s := modRx (fun x => { x with
      reserved := tabSet [] (tabKeep (fun k => s.clock.slot ≤ k + 2) x.reserved) slot (reservedLanes slot s) }) s
    let s := forEach rollKey (s.sec.keys.map (fun e => e.1)) s
    .next (checkPlacement slot s)

end Sys2Proof.Machine
end

