-- ==== Sys2Proof/Machine/GrantRows.lean ====
section
/-! DEFINITION. The grant commands 0x0301 to 0x0304 (R165 to R167). -/

namespace Sys2Proof.Machine

/-- Words 63 to 66 of GRANT_VIEW: 2 bits per wavelength, λ2 first (R166). -/
def originWords (gs : List Grant) : List Word :=
  (List.range 4).map (fun i => pack ((List.range 16).map (fun j =>
    (2 * j, if 16 * i + j < 62 then (gs.getD (16 * i + j) grantAbsent).origin else 0))))

/-- GRANT_VIEW (R166, R167). -/
def execGrantView (src : Source) (tag : Nat) (req : List Word) (s : State) : Result :=
  let p := fieldOf (wordAt req 0) 0 4
  let slot := 128 * ((wordAt req 1).toNat + 2 ^ 32 * fieldOf (wordAt req 2) 0 16) + fieldOf (wordAt req 2) 16 7
  command src tag req ⟨3, true, false⟩ (fun s =>
    if slot < s.clock.slot then refuse .badArg s
    else
      match (grantsOf p s).lastTarget with
      | none => refuse .notReady s
      | some t =>
        if t < slot then refuse .notReady s
        else
          let frozen := (match s.grants.frozenTo with | some n => decide (slot ≤ n) | none => false)
          let gs := if frozen then frozenGrants p slot s else effectiveGrants slot (grantsOf p s)
          okay ((List.range 62).map (fun j => entryWord (gs.getD j grantAbsent)) ++ originWords gs ++ [wordOf (bitNat frozen)])
            s) s

/-- Bits 0 to 63 of the record of a sheet (R146). -/
def sheetRecord (id : Nat) (h : Sheet) : Nat :=
  2 ^ 62 + id * 2 ^ 48 + h.kind * 2 ^ 45 + h.wave * 2 ^ 39 + h.tn * 2 ^ 34 + h.k * 2 ^ 29 + bitNat h.mcast * 2 ^ 28 +
    h.dest * 2 ^ 18 + h.member * 2 ^ 13 + h.e * 2 ^ 10 + h.phase * 2 ^ 3

/-- The six words of a sheet in STANDING_READ (R166). -/
def sheetWords (id : Nat) (h : Option Sheet) (slot : Nat) : List Word :=
  match h with
  | none => List.replicate 6 0
  | some h =>
    let n := sheetRecord id h
    let now := sheetCovers slot h && h.committed + 128 ≤ slot
    [highWord n, lowWord n, lowWord h.takeover, wordOf (h.takeover / 2 ^ 32 % 65536), lowWord h.expiry,
      pack [(0, h.expiry / 2 ^ 32 % 65536), (16, 1), (17, bitNat now), (18, bitNat h.late)]]

/-- STANDING_READ (R166, R167). -/
def execStandingRead (src : Source) (tag : Nat) (req : List Word) (s : State) : Result :=
  let p := fieldOf (wordAt req 0) 0 4
  let first := fieldOf (wordAt req 0) 8 8
  let count := fieldOf (wordAt req 0) 16 5
  command src tag req ⟨1, true, false⟩ (fun s =>
    if count = 0 ∨ 16 < count then refuse .badArg s
    else
      let n := min count (256 - first)
      okay (wordOf n :: (List.range n).flatMap (fun i =>
        sheetWords (first + i) (heldSheet (sfnOf s.clock.slot) (first + i) (grantsOf p s)) s.clock.slot)) s) s

/-- REPORT_CONFIG: the value takes effect at the next slot (R162, R166, R167). -/
def execReportConfig (src : Source) (tag : Nat) (req : List Word) (s : State) : Result :=
  let n := fieldOf (wordAt req 0) 0 8
  command src tag req ⟨1, pf0Only src, false⟩ (fun s =>
    if 128 < n then refuse .badArg s else okay [] { s with grants := { s.grants with piggy := piggyNow s, piggyNext := n, piggyAt := s.clock.slot + 1 } }) s

/-- GRANT_COUNTERS (R165 to R167). -/
def execGrantCounters (src : Source) (tag : Nat) (req : List Word) (s : State) : Result :=
  let p := fieldOf (wordAt req 0) 0 4
  let clear := bitOf (wordAt req 0) 8
  command src tag req ⟨1, readOrPf0 src clear, false⟩ (fun s =>
    okay ((grantsOf p s).counters.map wordOf)
      (cleared clear (modGrants p (fun g => { g with counters := List.replicate 9 0 })) s)) s

end Sys2Proof.Machine
end

