-- ==== Sys2Proof/Machine/Mailbox.lean ====
section
/-! DEFINITION. The mailbox rings of a function and the SMBus sideband (R423 to R434, R441 to R445), and the registers that have
no row of their own (R8, R10). -/

namespace Sys2Proof.Machine

/-! ### Rings -/

/-- MBOX_ENABLE: EN changes from 0 to 1 and every index becomes 0; a write while EN is 1 changes nothing (R424). -/
def execMboxEnable (func : Nat) (s : State) : Result :=
  let b := funcBox func s
  if b.en then .next s
  else
    .next (setFunc func { b with
      en := true, cmdPi := 0, cmdCi := 0, rspPi := 0, rspCi := 0, ntfPi := 0, ntfCi := 0, cmdNew := none, rspNew := none,
      ntfNew := none } s)

/-- The source that a function number names. -/
def funcSource (f : Nat) : Source := if f = 0 then .pf0 else .pf1

/-- MBOX_DISABLE: commands are no longer taken, pending long commands end with no response written, and the responses of
commands already taken are discarded (R434). -/
def execMboxDisable (func : Nat) (s : State) : Result :=
  let b := funcBox func s
  .next (dropLongs (funcSource func) (setFunc func { b with en := false, outstanding := [], heldRsp := [] } s))

/-- MBOX_CMD_PI: the doorbell; a value that claims more than 32 slots is ignored and sets PI_BAD (R424). -/
def execMboxCmdPi (func : Nat) (value : Word) (s : State) : Result :=
  let b := funcBox func s
  let v := value.toNat % 64
  if 32 < (v + 64 - b.cmdCi) % 64 then .next (setFunc func (markStat 1 s.clock.now { b with piBad := true }) s)
  else .next (setFunc func { b with cmdPi := v, cmdNew := pushMark ((v + 64 - b.cmdPi) % 64) s.clock.now b.cmdNew } s)

/-- Is a consumer index valid: between the current one and the producer index, counted forward with the wrap bit (R424)? -/
def consumerValid (size v ci pi : Nat) : Bool := (v + 2 * size - ci) % (2 * size) ≤ (pi + 2 * size - ci) % (2 * size)

/-- Indices a producer is ahead of a consumer in a ring of `size` slots. -/
def ahead (size pi ci : Nat) : Nat := (pi + 2 * size - ci) % (2 * size)

/-- MBOX_RSP_CI: frees response slots, or is ignored with CI_BAD (R424, R19). -/
def execMboxRspCi (func : Nat) (value : Word) (s : State) : Result :=
  let b := funcBox func s
  let v := value.toNat % 128
  if consumerValid 64 v b.rspCi b.rspPi then
    .next (popCycle (ahead 64 v b.rspCi) (ahead 64 b.rspPi b.rspCi) b.rspNew (setFunc func { b with rspCi := v } s))
  else .next (setFunc func (markStat 3 s.clock.now { b with ciBad := true }) s)

/-- MBOX_NTF_CI: frees notification slots, or is ignored with CI_BAD (R424, R19). -/
def execMboxNtfCi (func : Nat) (value : Word) (s : State) : Result :=
  let b := funcBox func s
  let v := value.toNat % 512
  if consumerValid 256 v b.ntfCi b.ntfPi then
    .next (popCycle (ahead 256 v b.ntfCi) (ahead 256 b.ntfPi b.ntfCi) b.ntfNew (setFunc func { b with ntfCi := v } s))
  else .next (setFunc func (markStat 3 s.clock.now { b with ciBad := true }) s)

/-! ### Taking a command (R426, R428) -/

/-- Number of commands in each opcode range, 0x01 to 0x10 (the command index after R452). -/
def opcodeCounts : List Nat := [6, 8, 4, 6, 6, 9, 7, 19, 15, 10, 8, 9, 7, 10, 9, 7]

/-- Does a chapter define the opcode (R17)? -/
def opcodeDefined (op : Nat) : Bool :=
  1 ≤ op / 256 && op / 256 ≤ 16 && 1 ≤ op % 256 && op % 256 ≤ opcodeCounts.getD (op / 256 - 1) 0

/-- What follows the taking of a command with this header word: the answer to a repeated tag, BAD_OPCODE, or a task that will
execute it (R428, R17, R447). Assumption 29. -/
def startCommand (src : Source) (header : Word) (os : List Outstanding) (s : State) : Bool × Bool × State :=
  let tag := fieldOf header 16 5
  let op := fieldOf header 0 16
  if os.any (fun o => o.tag == tag) then (true, false, deliver src ⟨tag, statusCode .conflict, true, true, []⟩ s)
  else if !opcodeDefined op then (false, true, respond src tag .badOpcode [] s)
  else (false, false, createTask (commandLevel src) (commandTask src tag) s)

/-- Takes a command slot of a function: CMD_CI advances and the command is outstanding until its final response is written. A
function whose rings are off or halted, which holds a response, or whose ring is empty takes nothing, and none does in a Curtain or while
Zordin does not run (R426, R429, R433, R447, R530). -/
def takeFunc (src : Source) (f : Nat) (slot : List Word) (s : State) : State :=
  let b := funcBox f s
  if !b.en || b.halted || b.heldRsp ≠ [] || b.cmdCi == b.cmdPi || s.power.state == .curtain || !s.start.running then s
  else
    let h := wordAt slot 0
    let o : Outstanding := ⟨fieldOf h 16 5, fieldOf h 0 16⟩
    let isDup := b.outstanding.any (fun x => x.tag == o.tag)
    let s := popCycle 1 ((b.cmdPi + 64 - b.cmdCi) % 64) b.cmdNew s
    let s := setFunc f { b with
        cmdCi := (b.cmdCi + 1) % 64, cntTaken := satAdd 32 b.cntTaken 1,
        outstanding := if isDup then b.outstanding else b.outstanding ++ [o] } s
    let (dup, bad, s) := startCommand src h b.outstanding s
    modFunc f (fun b => { (if dup then markStat 0 s.clock.now b else b) with
        dupTag := b.dupTag || dup, cntDup := satAdd 32 b.cntDup (bitNat dup),
        cntBadOpcode := satAdd 32 b.cntBadOpcode (bitNat bad) }) s

/-- Takes the oldest complete sideband request; up to four may be outstanding (R443). -/
def takeSideband (s : State) : State :=
  let b := s.zordin.sb
  match b.requests with
  | [] => s
  | slot :: rest =>
    if b.heldRsp ≠ [] || 4 ≤ b.outstanding.length then s
    else
      let h := wordAt slot 0
      let o : Outstanding := ⟨fieldOf h 16 5, fieldOf h 0 16⟩
      let isDup := b.outstanding.any (fun x => x.tag == o.tag)
      let s := modSb (fun b => { b with
          requests := rest, cntTaken := satAdd 32 b.cntTaken 1,
          outstanding := if isDup then b.outstanding else b.outstanding ++ [o] }) s
      let (dup, bad, s) := startCommand .sideband h b.outstanding s
      modSb (fun b => { b with cntDup := satAdd 32 b.cntDup (bitNat dup), cntBadOpcode := satAdd 32 b.cntBadOpcode (bitNat bad) }) s

/-- COMMAND_TAKE: one command slot is taken; `slot` is what the DMA read returns, and the sideband takes its oldest complete
request (R426, R430). -/
def execCommandTake (src : Source) (slot : List Word) (s : State) : Result :=
  match src with
  | .pf0 => .next (takeFunc .pf0 0 slot s)
  | .pf1 => .next (takeFunc .pf1 1 slot s)
  | .sideband => .next (takeSideband s)

/-! ### Held responses and notifications -/

/-- RESPONSE_WRITE: the oldest held response is written once a slot is free (R429, R443). -/
def execResponseWrite (src : Source) (s : State) : Result :=
  match src with
  | .sideband =>
    match s.zordin.sb.heldRsp with
    | [] => .next s
    | r :: rs =>
      if 8 ≤ s.zordin.sb.responses.length then .next s
      else
        let (bs, s) := sidebandSlot r s
        .next (modSb (fun b => { b with
          heldRsp := rs, responses := b.responses ++ [bs], outstanding := settle r b.outstanding }) s)
  | src =>
    let f := sourceCode src
    let b := funcBox f s
    match b.heldRsp with
    | [] => .next s
    | r :: rs =>
      if b.halted || !b.en || ringFree 64 b.rspPi b.rspCi == 0 then .next s
      else .next (writeResponse f r (setFunc f { b with heldRsp := rs } s))

/-- Writes one entry into a function's next notification slot, words 1 to 7 first and word 0 last (R431). Assumption 70. -/
def writeNotification (f : Nat) (ws : Nat → List Word) (s : State) : State :=
  let b := funcBox f s
  let a := b.ntfBase + 32 * (b.ntfPi % 256)
  let entry := ws (ringPhase 256 b.ntfPi)
  let s := hostWrite (a + 4) (bytesOfWords (entry.drop 1)) s
  let s := hostWrite a (bytesOfWord (wordAt entry 0)) s
  signalVector f 1 (setFunc f { b with ntfPi := (b.ntfPi + 1) % 512, ntfNew := pushMark 1 s.clock.now b.ntfNew } s)

/-- NOTIFICATION_WRITE: the oldest held notice is written once a slot is free, before any event record; a record that finds the
ring full is not written and counts as lost (R432, R478). -/
def execNotificationWrite (func : Nat) (s : State) : Result :=
  let b := funcBox func s
  if !b.en || b.halted then .next s
  else
    match b.notices with
    | n :: ns =>
      if ringFree 256 b.ntfPi b.ntfCi = 0 then .next s
      else .next (writeNotification func (fun p => noticeWords p s.pins.slotId n) (setFunc func { b with notices := ns } s))
    | [] =>
      match b.events with
      | [] => .next s
      | r :: rs =>
        let s := setFunc func { b with events := rs } (popCycle 1 b.events.length b.evtNew s)
        if ringFree 256 b.ntfPi b.ntfCi = 0 then .next (loseRecord func r.sev s)
        else
          .next (modClass func r.sev (fun k => { k with delivered := satAdd 32 k.delivered 1 })
            (writeNotification func (fun p => recordWords p s.pins.slotId r) s))

/-! ### The sideband (R441 to R444) -/

/-- A rejected sideband write sets SB_STATUS bit 4. -/
def rejectWrite (s : State) : State := modSb (fun b => { b with rejected := true }) s

/-- A complete sideband request: a tag above 3 is discarded and sets bit 4 (R443). -/
def acceptRequest (bs : List Byte) (s : State) : State :=
  let ws := wordsOfBytes bs
  let s := modSb (fun b => { b with partialReq := none }) s
  if 3 < fieldOf (wordAt ws 0) 16 5 then rejectWrite s
  else modSb (fun b => { b with requests := b.requests ++ [ws] }) s

/-- A fragment joins the request being assembled (R442). -/
def joinFragment (ix : Nat) (isLast : Bool) (bs : List Byte) (s : State) : State :=
  if isLast then acceptRequest bs s else modSb (fun b => { b with partialReq := some (ix + 1, bs) }) s

/-- SB_REQ: one request fragment. A missing or wrong PEC discards the write; an index that does not follow discards the partial
request; a new index 0 starts a new one (R441, R442). -/
def execSbReq (pec : Option Byte) (bytes : List Byte) (s : State) : Result :=
  match bytes with
  | [] => .next (rejectWrite s)
  | h :: data =>
    if data.isEmpty || 128 < data.length || pec ≠ some (writePec 0x20 bytes s) then .next (rejectWrite s)
    else
      let ix := h.toNat % 4
      let isLast := h.getLsbD 7
      if ix = 0 then .next (joinFragment 0 isLast data s)
      else
        match s.zordin.sb.partialReq with
        | some (want, bs) =>
          if want = ix then .next (joinFragment ix isLast (bs ++ data) s)
          else .next (rejectWrite (modSb (fun b => { b with partialReq := none }) s))
        | none => .next (rejectWrite s)

/-- What an SMBus read of a command code returns: the bytes and then the packet error code, one word a byte; a Block Read has its byte
count in front (R441). -/
def returnBytes (code : Nat) (block : Bool) (bs : List Byte) (s : State) : State :=
  let bytes := if block then BitVec.ofNat 8 bs.length :: bs else bs
  { s with readBack := (bytes ++ [readPec code bytes s]).map (fun b => wordOf b.toNat) }

/-- SB_RSP: one fragment of the oldest response, or one byte 0xFF when none is ready (R441, R442). -/
def execSbRsp (s : State) : Result :=
  match s.zordin.sb.responses with
  | [] => .next (returnBytes 0x21 true [0xFF] s)
  | r :: rs =>
    let i := s.zordin.sb.rspFragment
    let isLast := decide (r.length ≤ 128 * (i + 1))
    let h : Byte := BitVec.ofNat 8 (128 * bitNat isLast + i)
    let s := returnBytes 0x21 true (h :: (r.drop (128 * i)).take 128) s
    if isLast then .next (modSb (fun b => { b with responses := rs, rspFragment := 0 }) s)
    else .next (modSb (fun b => { b with rspFragment := i + 1 }) s)

/-- SB_STATUS: the status byte; the read clears bit 4 (R441). -/
def execSbStatus (s : State) : Result :=
  let b := s.zordin.sb
  let v := bitNat (b.responses ≠ []) + 2 * bitNat (b.ntfs ≠ []) + 4 * bitNat b.partialReq.isSome +
    8 * bitNat s.start.running + 16 * bitNat b.rejected
  .next (modSb (fun b => { b with rejected := false }) (returnBytes 0x22 false [BitVec.ofNat 8 v] s))

/-- SB_NTF: the oldest notification entry is popped, or one byte 0xFF when none waits (R441, R444). -/
def execSbNtf (s : State) : Result :=
  match s.zordin.sb.ntfs with
  | [] => .next (returnBytes 0x23 true [0xFF] s)
  | e :: es => .next (modSb (fun b => { b with ntfs := es }) (returnBytes 0x23 true (bytesOfWords e) s))

/-! ### Registers without a row of their own (R8, R10) -/

/-- A number with its low or high 32 bits replaced. -/
def setHalf (high : Bool) (n v : Nat) : Nat := if high then n % 2 ^ 32 + 2 ^ 32 * v else n / 2 ^ 32 * 2 ^ 32 + v

/-- A write to a ring base register; it keeps its value while EN = 1, and bits 11:0 are reserved (R424). -/
def writeBase (f offset : Nat) (value : Word) (s : State) : State :=
  let b := funcBox f s
  let v := if offset % 8 = 0 then value.toNat / 4096 * 4096 else value.toNat
  let hi := offset % 8 == 4
  if b.en then s
  else if offset / 8 = 1 then setFunc f { b with cmdBase := setHalf hi b.cmdBase v } s
  else if offset / 8 = 2 then setFunc f { b with rspBase := setHalf hi b.rspBase v } s
  else setFunc f { b with ntfBase := setHalf hi b.ntfBase v } s

/-- A write of 1 clears each bit of MBOX_STAT that was not set in the same cycle (R424, R8, R9). -/
def writeStat (f : Nat) (value : Word) (s : State) : State :=
  let b := funcBox f s
  let keep (i : Nat) : Bool := !bitOf value i || (inCycle s.clock.now b.setAt).testBit i
  setFunc f { b with
    dupTag := b.dupTag && keep 0, piBad := b.piBad && keep 1, rspHeld := b.rspHeld && keep 2, ciBad := b.ciBad && keep 3 } s

/-- A write to a word of the MSI-X table; an unmasked vector with its pending bit set sends its message (R481). -/
def writeVector (f offset : Nat) (value : Word) (s : State) : State :=
  let b := funcBox f s
  let v := offset / 16
  let x := tabGet vectorReset b.msix v
  let x' :=
    match offset % 16 / 4 with
    | 0 => { x with addrLo := value }
    | 1 => { x with addrHi := value }
    | 2 => { x with data := value }
    | _ => { x with masked := bitOf value 0 }
  let s := setFunc f { b with msix := tabSet vectorReset b.msix v x' } s
  if x'.pending && !x'.masked then sendMessage f v s else s

/-- QUARANTINE_EXPIRY: the 1 s quarantine of an index ends, in output time, and it can be reused (R15, R439). Assumption 68. -/
def execQuarantineExpiry (type index : Nat) (s : State) : Result :=
  let c := chanSlot type index s
  if c.quarantined then .next (setChan type index { c with quarantined := false, quarEnd := 0 } (advanceToOut c.quarEnd s))
  else .next s

end Sys2Proof.Machine
end

