-- ==== Sys2Proof/Machine/HostRows.lean ====
section
/-! DEFINITION. The doorbells of queue pairs, the descriptors that the terminal takes, slow-path delivery, and the commands 0x0C01 to
0x0C09 (R433, R454 to R471). -/

namespace Sys2Proof.Machine

/-! ### Doorbells (R454, R457) -/

/-- A doorbell page answers in the owner's BAR0 while the pair is live; writes act while the pair runs and its function is not
halted (R454, R466). -/
def doorbellOpen (func n : Nat) (s : State) : Bool :=
  let q := pairOf n s
  (chanSlot 0x05 n s).live && q.func == func && q.running && !pairHalted q s

/-- DMA_ERROR: a ring DMA of the function, of its mailbox or of one of its queue pairs, completes with an error and its engine halts
(R433, R470). Assumption 54. -/
def execDmaError (func : Nat) (pair : Option Nat) (s : State) : Result :=
  match pair with
  | none => .next (haltFunc func s)
  | some n => .next (haltFunc func (modPair n (fun q => { q with haltCause := 6, haltIndex := q.txCi }) s))

/-- HQ_TX_PI: a value that claims more descriptors than the ring holds is malformed (R457, R458). -/
def execHqTxPi (func pair : Nat) (value : Word) (s : State) : Result :=
  let q := pairOf pair s
  let v := value.toNat % 65536 % 2 ^ (q.txLog2 + 1)
  if !doorbellOpen func pair s || q.txLog2 = 0 then .next s
  else if 2 ^ q.txLog2 < posted q.txLog2 v q.txCi then .next (haltPair pair 5 q.txCi s)
  else .next (modPair pair (fun q => { q with txPi := v }) s)

/-- HQ_RX_PI (R457, R465). -/
def execHqRxPi (func pair : Nat) (value : Word) (s : State) : Result :=
  let q := pairOf pair s
  let v := value.toNat % 65536 % 2 ^ (q.rxLog2 + 1)
  if !doorbellOpen func pair s || q.rxLog2 = 0 then .next s
  else if 2 ^ q.rxLog2 < posted q.rxLog2 v q.rxCi then .next (haltPair pair 5 q.rxCi s)
  else .next (modPair pair (fun q => { q with rxPi := v }) s)

/-- HQ_CQ_CI: frees completion slots; a value beyond HQ_CQ_PI is malformed (R457, R463). A stopped pair's completions are still
consumed (assumption 24). -/
def execHqCqCi (func pair : Nat) (value : Word) (s : State) : Result :=
  let q := pairOf pair s
  let v := value.toNat % 65536 % 2 ^ (q.cqLog2 + 1)
  if !(chanSlot 0x05 pair s).live || q.func != func || pairHalted q s then .next s
  else if !consumerValid (2 ^ q.cqLog2) v q.cqCi q.cqPi then .next (haltPair pair 5 q.cqCi s)
  else .next (modPair pair (fun q => { q with cqCi := v }) s)

/-- CQ_RESUME: the oldest held completion is written once a slot is free; after the last one a QP_STOP that waits is answered (R463,
R471). -/
def execCqResume (pair : Nat) (s : State) : Result :=
  let q := pairOf pair s
  match q.held with
  | [] => .next s
  | c :: cs =>
    if pairHalted q s || ringFree (2 ^ q.cqLog2) q.cqPi q.cqCi == 0 then .next s
    else
      let s := writeCompletion pair c (modPair pair (fun q => { q with held := cs }) s)
      .next (if cs.isEmpty then answerStop pair s else s)

/-! ### Transmit descriptors (R455, R457, R459) -/

/-- The cause for which a transmit descriptor is malformed (R457, R470). -/
def malformedTx (ws : List Word) (s : State) : Option Nat :=
  let kind := fieldOf (wordAt ws 0) 0 4
  let len := fieldOf (wordAt ws 1) 0 14
  let t := (wordAt ws 4).toNat
  if kind ≠ 1 ∧ kind ≠ 2 then some 1
  else if len < 60 ∨ 10236 < len then some 2
  else if kind = 2 ∧ (!s.queues.pf0Tokens.contains t ∨ tokenPool t < 5 ∨ !(chanSlot 0x0C (tokenPool t) s).live) then some 3
  else none

/-- The frame of a descriptor with its FCS. -/
def frameWithFcs (len : Nat) (frame : List Byte) : List Byte :=
  let body := frame.take len ++ List.replicate (len - frame.length) 0
  body ++ bytesOfWord (crc32 body)

/-- A frame injected into the pipeline of a port is treated as one received there: the conditions of R289 beside the FCS apply, and
it has no receive timestamp (R459; assumption 24). -/
def injectFrame (port : Nat) (data : List Byte) (s : State) : State :=
  match macCheck (portOf port s).cfg.maxFrame data with
  | some i => countPort port i 1 s
  | none =>
    pushPipeline (port / 16) ⟨port, data, none⟩ (countPort port 1 data.length (countPort port 0 1 s))
where
  /-- As the MAC checks a received frame. -/
  macCheck (maxFrame : Nat) (data : List Byte) : Option Nat :=
    if maxFrame < data.length then some 4
    else if data.getD 12 0 = 0x88 ∧ data.getD 13 0 = 0x08 then some 5
    else none

/-- Sends the frame of a taken descriptor: its status (R459). -/
def sendFrame (ws : List Word) (frame : List Byte) (s : State) : Status × State :=
  let w := wordAt ws 0
  let port := fieldOf w 8 8
  let cls := fieldOf w 16 3
  let len := fieldOf (wordAt ws 1) 0 14
  let off := fieldOf (wordAt ws 1) 16 8
  let inject := bitOf w 7
  let ptp := !inject && (bitOf w 5 || bitOf w 6)
  let x := portOf port s
  let data := frameWithFcs len frame
  if !packetPort port s || (!inject && x.cfg.maxFrame < len + 4) || (ptp && len < off + 34) then (.badArg, s)
  else if inject then
    if 64 ≤ (tabGet [] s.ports.fifos (port / 16)).length then (.noResource, s) else (.ok, injectFrame port data s)
  else if x.phase ≠ .up || x.lf || x.rf then (.notReady, s)
  else
    match allocCells cls ((data.length + 255) / 256) [] s with
    | (none, s) => (.noResource, s)
    | (some ts, s) =>
      let s := modEgress cls (fun e => { e with admitted := satAdd 64 e.admitted 1 }) s
      (.ok, handUnicast port ⟨data, ts, cls, bitOf w 5, bitOf w 6, off, fieldOf (wordAt ws 2) 0 16⟩ s)

/-- A kind 2 token passes to the pair when its descriptor is taken (R340, R459). -/
def takeToken2 (n t : Nat) (s : State) : State :=
  larderShare t 0 (0x200 + n) (modQueues (fun q =>
    { q with pf0Tokens := q.pf0Tokens.erase t, qpTokens := q.qpTokens ++ [(n, t)] }) s)

/-- The token of a descriptor that has ended: returned to its pool when the frame was read, else to the record as held by PF0
(R459). -/
def settleToken (n t : Nat) (ok : Bool) (s : State) : State :=
  let s := modQueues (fun q => { q with qpTokens := q.qpTokens.erase (n, t) }) s
  if ok then ownerDone (0x200 + n) t s
  else larderShare t 0 0x006 (modQueues (fun q => { q with pf0Tokens := q.pf0Tokens ++ [t] }) s)

/-- The descriptor at a place of the round is taken (R457, R459, R462). -/
def takeDescriptor (n : Nat) (ws : List Word) (frame : List Byte) (s : State) : State :=
  let q := pairOf n s
  let t := (wordAt ws 4).toNat
  let isToken := fieldOf (wordAt ws 0) 0 4 == 2
  match malformedTx ws s with
  | some cause => haltPair n cause q.txCi s
  | none =>
    let s := countPair n 0 1 (modPair n (fun q => { q with txCi := nextRing q.txLog2 q.txCi }) s)
    let s := if isToken then takeToken2 n t s else s
    let (st, s) := sendFrame ws frame s
    let s := if isToken then settleToken n t (st == .ok) s else s
    endTransmit n q.txCi (statusCode st) (bitOf (wordAt ws 0) 4) (countPair n (if st = .ok then 1 else 2) 1 s)

/-- TX_DESCRIPTOR: the DMA engine takes the next transmit descriptor of the round; `words` and `frame` are what its reads return
(R458, R459). -/
def execTxDescriptor (words : List Word) (frame : List Byte) (s : State) : Result :=
  match nextPlace s with
  | (none, s) => .next s
  | (some r, s) => .next (takeDescriptor r.pair words frame (modHq (fun h => { h with round := { r with taken := r.taken + 1 } }) s))

/-! ### Slow-path delivery (R464, R465) -/

/-- The queue pair of a frame: its entry of the watched channel, or the pair mapped to its reason (R464). -/
def slowPair (f : SlowFrame) (s : State) : Option Nat :=
  let mapped := tabGet 0 s.hq.map f.reason
  let h := (match f.watch, f.symHash with
    | some c, some x =>
      let e := tabGet 0 s.hq.watch (16 * c + x % 16)
      if 5 ≤ f.reason ∧ e ≠ 0 then e else mapped
    | _, _ => mapped)
  if h = 0 then none
  else
    match checkHandle .queuePair h s with
    | .ok n => some n
    | .error _ => none

/-- The first malformed one of the receive descriptors of a chain: its place and cause (R457). -/
def malformedRx : Nat → List (List Word) → Option (Nat × Nat)
  | _, [] => none
  | i, ws :: rest =>
    if fieldOf (wordAt ws 0) 0 4 ≠ 3 then some (i, 1)
    else if fieldOf (wordAt ws 4) 0 6 ≠ 0 then some (i, 4)
    else malformedRx (i + 1) rest

/-- Writes a frame into the buffers of a chain. -/
def fillBuffers (size : Nat) : List (List Word) → List Byte → State → State
  | [], _, s => s
  | ws :: rest, data, s =>
    fillBuffers size rest (data.drop size)
      (hostWrite ((wordAt ws 4).toNat + 2 ^ 32 * (wordAt ws 5).toNat) (data.take size) s)

/-- Advances the receive ring by a number of descriptors. -/
def useReceive (n k : Nat) (s : State) : State :=
  modPair n (fun q => { q with rxCi := (q.rxCi + k) % 2 ^ (q.rxLog2 + 1) }) s

/-- The completion of a delivered frame (R461). -/
def receiveCompletion (f : SlowFrame) (index nbuf : Nat) : Completion :=
  { ring := 1, index := index, status := 0
    word1 := pack [(0, f.data.length), (16, nbuf), (20, f.cls), (24, f.reason), (27, bitNat f.untrusted), (28, bitNat f.ts.isSome),
      (29, bitNat f.symHash.isSome)]
    word2 := pack [(0, f.port), (16, if f.reason = 0 then 0 else f.epoch)]
    word3 := wordOf (f.ts.getD 0)
    word4 := wordOf (f.symHash.getD 0) }

/-- Delivers a frame to a queue pair, or drops and counts it (R463, R465, R467). -/
def deliverFrame (f : SlowFrame) (n : Nat) (descriptors : List (List Word)) (s : State) : State :=
  let q := pairOf n s
  let size := 2 ^ q.bufLog2
  let k := (f.data.length + size - 1) / size
  let chain := (List.range k).map (fun i => descriptors.getD i [])
  if !q.running || pairHalted q s || !q.held.isEmpty then countPair n 6 1 s
  else if posted q.rxLog2 q.rxPi q.rxCi < k then countPair n 5 1 s
  else
    match malformedRx 0 chain with
    | some (i, cause) =>
      let s := useReceive n i s
      countPair n 6 1 (haltPair n cause (pairOf n s).rxCi s)
    | none =>
      let lastIx := (q.rxCi + k - 1) % 2 ^ (q.rxLog2 + 1)
      let s := useReceive n k (fillBuffers size chain f.data s)
      complete n (receiveCompletion f lastIx k) (countPair n 4 f.data.length (countPair n 3 1 s))

/-- SLOW_PATH_DELIVERY: the oldest frame that passed the policer goes to its queue pair; `descriptors` are the receive descriptors that
the reads of its ring return. The slow path then ends its use of a copy (R342, R464, R465). -/
def execSlowPathDelivery (descriptors : List (List Word)) (s : State) : Result :=
  match s.ports.slowQueue with
  | [] => .next s
  | f :: fs =>
    let s := { s with ports := { s.ports with slowQueue := fs } }
    let s := (match slowPair f s with
      | none => countHq 0 s
      | some n => deliverFrame f n descriptors s)
    .next (freeAll 0x005 f.tokens s)

/-! ### Commands (R470, R471) -/

/-- The pair that a QP_CREATE request asks for. -/
def pairOfRequest (req : List Word) : QueuePair :=
  let a := wordAt req 0
  let b := wordAt req 1
  let base := fun (i : Nat) => (wordAt req i).toNat + 2 ^ 32 * (wordAt req (i + 1)).toNat
  { queuePairReset with
    func := fieldOf a 0 1, txLog2 := fieldOf a 8 4, rxLog2 := fieldOf a 12 4, cqLog2 := fieldOf a 16 4, bufLog2 := fieldOf a 20 4
    weight := if fieldOf b 0 5 = 0 then 1 else fieldOf b 0 5, burst := if fieldOf b 8 7 = 0 then 16 else fieldOf b 8 7
    txBase := base 2, rxBase := base 4, cqBase := base 6 }

/-- A weight and a burst are in range. -/
def schedOk (w b : Nat) : Bool := w ≤ 16 && b ≤ 64

/-- Entries of a ring; none for 0. -/
def ringEntries (log2 : Nat) : Nat := if log2 = 0 then 0 else 2 ^ log2

/-- Every field of the pair is in range (R453, R471). -/
def pairFits (q : QueuePair) : Bool :=
  let ring := fun (k : Nat) => k == 0 || 6 ≤ k
  ring q.txLog2 && ring q.rxLog2 && 6 ≤ q.cqLog2 && 11 ≤ q.bufLog2 && q.bufLog2 ≤ 14 && schedOk q.weight q.burst &&
    (q.txLog2 == 0 || q.txBase % 4096 == 0) && (q.rxLog2 == 0 || q.rxBase % 4096 == 0) && q.cqBase % 4096 == 0 &&
    !(q.txLog2 == 0 && q.rxLog2 == 0) && ringEntries q.txLog2 + ringEntries q.rxLog2 ≤ 2 ^ q.cqLog2

/-- QP_CREATE. -/
def execQpCreate (src : Source) (tag : Nat) (req : List Word) (s : State) : Result :=
  let q := pairOfRequest req
  command src tag req ⟨8, pf0Only src, false⟩ (fun s =>
    if !pairFits q then refuse .badArg s
    else if (q.func == 1 && q.txLog2 != 0) || pairHalted q s then refuse .conflict s
    else
      match nextIndex .queuePair s with
      | none => refuse .noResource s
      | some n =>
        let s := openChan .queuePair n (modPair n (fun _ => q) s)
        okay [handleOf 0x05 n s] s) s

/-- The slow-path map or a watch table names a handle. -/
def handleNamed (h : Word) (s : State) : Bool := s.hq.map.any (fun e => e.2 == h) || s.hq.watch.any (fun e => e.2 == h)

/-- QP_DESTROY. -/
def execQpDestroy (src : Source) (tag : Nat) (req : List Word) (s : State) : Result :=
  let h := wordAt req 0
  command src tag req ⟨1, pf0Only src, false⟩ (fun s =>
    withHandle .queuePair h s (fun n =>
      if (pairOf n s).running || handleNamed h s then refuse .conflict s
      else okay [] (closeChan .queuePair n (modPair n (fun _ => queuePairReset) (answerStop n s))))) s

/-- PF1 may start and stop the pairs that it owns (R471). -/
def ownsPair (src : Source) (h : Word) (s : State) : Bool :=
  src == .pf0 || (src == .pf1 && (match checkHandle .queuePair h s with | .ok n => (pairOf n s).func == 1 | .error _ => false))

/-- QP_START (R466). -/
def execQpStart (src : Source) (tag : Nat) (req : List Word) (s : State) : Result :=
  let h := wordAt req 0
  command src tag req ⟨1, ownsPair src h s, false⟩ (fun s =>
    withHandle .queuePair h s (fun n =>
      let q := pairOf n s
      if !(funcBox q.func s).en || pairHalted q s then refuse .notReady s
      else if q.running then refuse .conflict s
      else
        okay [] (modPair n (fun q =>
          { q with
            running := true, txPi := 0, txCi := 0, rxPi := 0, rxCi := 0, cqPi := 0, cqCi := 0, held := [], uncovered := 0,
            haltCause := 0, haltIndex := 0 }) (answerStop n s)))) s

/-- QP_STOP: it takes effect after the frames of its cycle, and its response follows the last ABORTED completion (R466, R467, R471). -/
def execQpStop (src : Source) (tag : Nat) (req : List Word) (s : State) : Result :=
  let h := wordAt req 0
  command src tag req ⟨1, ownsPair src h s, false⟩ (fun s =>
    withHandle .queuePair h s (fun n =>
      if !(pairOf n s).running then refuse .conflict s
      else
        let s := stopPair n (lands s)
        if (pairOf n s).held.isEmpty then okay [] s else (.later, modPair n (fun q => { q with stopper := some (src, tag) }) s))) s

/-- QP_STATUS. -/
def execQpStatus (src : Source) (tag : Nat) (req : List Word) (s : State) : Result :=
  command src tag req ⟨1, true, false⟩ (fun s =>
    withHandle .queuePair (wordAt req 0) s (fun n =>
      let q := pairOf n s
      okay [pack [(0, bitNat q.running), (2, bitNat (!q.held.isEmpty)), (3, bitNat (pairHalted q s)), (4, q.haltCause),
          (16, q.haltIndex)],
        pack [(0, q.txCi), (16, q.rxCi)], pack [(0, q.cqPi)]] s)) s

/-- QP_SCHED (R458). -/
def execQpSched (src : Source) (tag : Nat) (req : List Word) (s : State) : Result :=
  let w := fieldOf (wordAt req 1) 0 5
  let b := fieldOf (wordAt req 1) 8 7
  command src tag req ⟨2, pf0Only src, false⟩ (fun s =>
    withHandle .queuePair (wordAt req 0) s (fun n =>
      if !schedOk w b then refuse .badArg s
      else okay [] (modPair n (fun q => { q with next := some (if w = 0 then 1 else w, if b = 0 then 16 else b) }) s))) s

/-- A handle that a map or table may hold: null, or a live pair with a receive ring. -/
def receiverCheck (h : Word) (s : State) : Option Status :=
  if h = 0 then none
  else
    match checkHandle .queuePair h s with
    | .error e => some e
    | .ok n => if (pairOf n s).rxLog2 = 0 then some .conflict else none

/-- The status of a list of handles: a failed handle check before a conflict, in word order (R436). -/
def receiversCheck (hs : List Word) (s : State) : Option Status :=
  let es := hs.filterMap (fun h => receiverCheck h s)
  match es.find? (fun e => e != .conflict) with
  | some e => some e
  | none => es.head?

/-- SLOWPATH_MAP (R464). -/
def execSlowpathMap (src : Source) (tag : Nat) (req : List Word) (s : State) : Result :=
  let h := wordAt req 1
  command src tag req ⟨2, pf0Only src, false⟩ (fun s =>
    match receiversCheck [h] s with
    | some e => refuse e s
    | none => okay [] (modHq (fun q => { q with map := tabSet 0 q.map (fieldOf (wordAt req 0) 0 3) h }) s)) s

/-- WATCH_SET (R464). -/
def execWatchSet (src : Source) (tag : Nat) (req : List Word) (s : State) : Result :=
  let hs := (req.drop 1).take 16
  command src tag req ⟨17, pf0Only src, false⟩ (fun s =>
    match receiversCheck hs s with
    | some e => refuse e s
    | none => okay [] (modHq (fun q => { q with watch := tabSetList 0 q.watch (16 * fieldOf (wordAt req 0) 0 4) hs }) s)) s

/-- QP_COUNTERS (R469). -/
def execQpCounters (src : Source) (tag : Nat) (req : List Word) (s : State) : Result :=
  let clear := bitOf (wordAt req 1) 0
  command src tag req ⟨2, readOrPf0 src clear, false⟩ (fun s =>
    if wordAt req 0 = 0 then
      okay (counterWords 16 s.hq.globals) (cleared clear (modHq (fun h => { h with globals := [0, 0, 0] })) s)
    else
      withHandle .queuePair (wordAt req 0) s (fun n =>
        okay (counterWords 16 (pairOf n s).counters)
          (cleared clear (modPair n (fun q => { q with counters := List.replicate 8 0 })) s))) s

end Sys2Proof.Machine
end

