-- ==== Sys2Proof/Machine/JoinTimers.lean ====
section
/-! DEFINITION. The timers of the terminal and plane machines and what happens at superframe boundaries (R120, R126 to R131). Each
row takes place at its deadline: the time advances to it. -/

namespace Sys2Proof.Machine

/-- A stage message of joining, by its type (R138). -/
def joinMessage (m : StageMsg) (s : State) : Result :=
  if m.type = 0x0280 then execDiscoveryOpen m s
  else if m.type = 0x0281 then execDiscoveryAck m s
  else if m.type = 0x0282 then execTnAssign m s
  else if m.type = 0x0283 then execReject m s
  else if m.type = 0x0284 then execRangeWindow m s
  else if m.type = 0x0285 then execRangeResult m s
  else if m.type = 0x0286 then execActivate m s
  else if m.type = 0x0287 then execFineCorrect m s
  else if m.type = 0x0288 then execDeregister m s
  else .next s

/-- The messages of joining that have arrived are handled, in their order (R131). Assumption 46. -/
def handleMessages : List StageMsg → State → State
  | [], s => s
  | m :: ms, s =>
    match joinMessage m s with
    | .next u => handleMessages ms u
    | .fault _ => s
    | .refused _ => s

/-- Runs a timer's action at its deadline; nothing happens when the timer does not run. Messages that have reached the machines by then
are handled first, and a timer that they stop or start afresh does not fire (R131). Assumption 28. -/
def atDeadline (timer : State → Option Nat) (s : State) (k : State → State) : Result :=
  match timer s with
  | none => .next s
  | some t =>
    let s := advanceTo t s
    let s := handleMessages s.cue.inbox s
    if timer s = some t then .next (k s) else .next s

/-- The same at the start of the slot after the one that a limit names. Assumption 28. -/
def afterSlot (limit : State → Option Nat) (s : State) (k : State → State) : Result :=
  match limit s with
  | none => .next s
  | some n =>
    let s := toSlot (n + 1) s
    let s := handleMessages s.cue.inbox s
    if limit s = some n then .next (k s) else .next s

/-- T_CUE: JOIN_CUE, a pending JOIN_START ends with TIMEOUT, and T_CUE starts again (R129). -/
def execTCue (s : State) : Result :=
  atDeadline (fun s => s.join.tCue) s (fun s =>
    let s := endJoinStart .timeout (raise 0x020D 1920 .major 0 0 s)
    { s with join := { s.join with tCue := some (s.clock.now + secCc) } })

/-- JOIN_NO_WINDOW: 1 s in DISC_WAIT without an accepted window (R129). -/
def execJoinNoWindow (s : State) : Result :=
  atDeadline (fun s => s.join.tNoWindow) s (fun s =>
    let s := raise 0x020E 1920 .minor 0 0 s
    { s with join := { s.join with tNoWindow := some (s.clock.now + secCc) } })

/-- DISCOVERY_TIMEOUT: the answer is lost; W doubles, the round steps, and from round 8 on the event is raised (R120, R129). -/
def execDiscoveryTimeout (s : State) : Result :=
  afterSlot (fun s => if s.join.phase = .discSent then s.join.discovery.map (fun d => d.2.2) else none) s (fun s =>
    let late := 8 ≤ s.join.round
    let s := { s with join := { s.join with delayRange := min (2 * s.join.delayRange) 256, round := min 255 (s.join.round + 1) } }
    enterDiscWait (if late then raise 0x020F 1920 .minor 0 0 s else s))

/-- Back to DISC_WAIT with W at 16 (R129). -/
def retryDiscovery (s : State) : State := enterDiscWait { s with join := { s.join with delayRange := 16 } }

/-- T_ID (R129). -/
def execTId (s : State) : Result :=
  atDeadline (fun s => s.join.tId) s (fun s => retryDiscovery (raise 0x0210 1920 .minor 0 0 s))

/-- REGISTRATION_LOST: 10 s without a plane ACTIVE or SUSPENDED (R129). -/
def execRegistrationLost (s : State) : Result :=
  atDeadline (fun s => s.join.tNoPlane) s (fun s => enterCueAcq (raise 0x0213 1920 .major 0 0 (forgetTn s)))

/-- REJECT_HOLDOFF: the hub's hold-off ends (R129). -/
def execRejectHoldoff (s : State) : Result := atDeadline (fun s => s.join.tReject) s retryDiscovery

/-- T_LEAVE: the TN is forgotten and JOIN_LEAVE ends with OK (R129). -/
def execTLeave (s : State) : Result :=
  atDeadline (fun s => s.join.tLeave) s (fun s => endLongs (fun k => k == .joinLeave) .ok [] (enterOffline (forgetTn s)))

/-- T_RWIN of a plane: MINOR for the first 19 expiries in a row, MAJOR from the 20th (R130). Assumption 9. -/
def execTRwin (plane : Nat) (s : State) : Result :=
  atDeadline (fun s => (planeOf plane s).tRwin) s (fun s =>
    let n := (planeOf plane s).rwinRun + 1
    let s := modPlane plane (fun m => { m with rwinRun := n, tRwin := some (s.clock.now + 50 * msCc) }) s
    rangingEvent plane (if 20 ≤ n then .major else .minor) s)

/-- RANGING_TIMEOUT: no result 4 superframes after the window's last slot (R130). -/
def execRangingTimeout (plane : Nat) (s : State) : Result :=
  afterSlot (fun s => (planeOf plane s).resultBy) s (rangingFailure plane)

/-- A plane loses RT_p and EqD_p and waits for a window (R130). -/
def restartRanging (plane : Nat) (s : State) : State :=
  modPlane plane (fun m => waitWindow s.clock.now { m with rt := 0, eqd := 0, load := none }) s

/-- T_ACT of a plane (R130). -/
def execTAct (plane : Nat) (s : State) : Result :=
  atDeadline (fun s => (planeOf plane s).tAct) s (fun s => restartRanging plane (rangingEvent plane .minor s))

/-- T_SKEW of a plane (R130). -/
def execTSkew (plane : Nat) (s : State) : Result := atDeadline (fun s => (planeOf plane s).tSkew) s (restartRanging plane)

/-- T_SUSP of a plane (R130). -/
def execTSusp (plane : Nat) (s : State) : Result :=
  atDeadline (fun s => (planeOf plane s).tSusp) s (fun s => watchPlanes (modPlane plane planeDown (rangingEvent plane .major s)))

/-- A plane's receive slot reference lies inside the alignment window; with no plane active it sets the window (R63). A plane
that no cue lane serves has none (assumption 15). -/
def insideWindow (p : Nat) (s : State) : Bool :=
  let m := planeOf p s
  if m.refHub.isNone then false
  else if !anyActive s then true
  else
    match s.join.alignRef with
    | none => true
    | some r => decide (-16 ≤ m.refCycle - r ∧ m.refCycle - r < 16)

/-- The first plane that becomes ACTIVE registers an ASSIGNED terminal and ends a pending JOIN_START with OK (R129). Assumption 46. -/
def registerOnActive (s : State) : State :=
  if s.join.phase = .assigned then
    let s := endJoinStart .ok { s with join := { s.join with phase := .registered } }
    noteRegistered (raise 0x0212 1920 .info 0 0 s)
  else s

/-- The plane becomes ACTIVE; the first one since none was active sets the window (R63, R129, R130). Assumption 46. -/
def activatePlane (p : Nat) (s : State) : State :=
  let ref := if anyActive s then s.join.alignRef else some (planeOf p s).refCycle
  let s := modPlane p (fun m => { stopTimers m with phase := .active, actSfn := none }) s
  let s := watchPlanes { s with join := { s.join with alignRef := ref } }
  registerOnActive (rangingEvent p .info s)

/-- PLANE_ACTIVATION: slot 0 of the noted SFN (R126, R130). Assumption 15. -/
def execPlaneActivation (plane : Nat) (s : State) : Result :=
  match (planeOf plane s).phase, (planeOf plane s).actSfn with
  | .equalised, some n =>
    let s := toSlot (128 * n) s
    if insideWindow plane s then .next (activatePlane plane s)
    else
      .next (raise 0x020C (srcPlane plane 6) .major 0 0
        (modPlane plane (fun m =>
          { stopTimers m with phase := .skewed, actSfn := none, tSkew := some (s.clock.now + secCc) }) s))
  | _, _ => .next s

/-- EqD_p as its 26 bits hold it; the spec does not say what they hold of a sum outside their span, which is then free (R106, R109;
assumption 75). -/
def heldEqd (e : Int) (s : State) : Int × State :=
  if -(2 ^ 25) ≤ e ∧ e < 2 ^ 25 then (e, s)
  else
    let (v, s) := takeFree s
    (signedOf 26 v.toNat, s)

/-- FINE_CORRECT_APPLY: slot 0 of the earliest SFN for which corrections of the plane are noted (R127). Assumption 75. -/
def execFineCorrectApply (plane : Nat) (s : State) : Result :=
  match (planeOf plane s).fine with
  | [] => .next s
  | (n, _, _) :: rest =>
    let n := rest.foldl (fun a f => min a f.1) n
    let s := toSlot (128 * n) s
    let due := (planeOf plane s).fine.filter (fun f => f.1 == n)
    let (eqd, s) := heldEqd (due.foldl (fun a f => a + f.2.1) (planeEqd plane s)) s
    let s := modPlane plane (fun m =>
      { m with rt := planeRt plane s, eqd := eqd, load := none, fine := m.fine.filter (fun f => f.1 != n) }) s
    .next (modPlane plane (fun m => { m with counters := bump 3 (due.filter (fun f => f.2.2)).length m.counters }) s)

/-- PLANE_HOLD_APPLY: at the superframe boundary a pending hold takes effect; the plane sends no more and its timers stop
(R130). -/
def execPlaneHoldApply (plane : Nat) (s : State) : Result :=
  if !(planeOf plane s).holdPending then .next s
  else
    let s := toSlot (nextBoundary s) s
    let s := modPlane plane (fun m => { stopTimers m with phase := .held, holdPending := false, actSfn := none }) s
    .next (watchPlanes { s with join := { s.join with answers := s.join.answers.filter (fun a => a.plane != plane) } })

end Sys2Proof.Machine
end

