-- ==== Sys2Proof/Machine/SendOps.lean ====
section
/-! DEFINITION. What decides a burst of the terminal: its own grants, the stops of R157, keys, and report units (R157 to R164, R353 to
R366, R531). -/

namespace Sys2Proof.Machine

/-- An own grant: its wavelength, its transmitter, and the frozen grant. -/
structure OwnGrant where
  wave : Nat
  x : Nat
  grant : Grant
deriving DecidableEq, Repr

/-- The frozen grant of wavelength `j + 2` as an own grant of a terminal: kinds PACKET, EXPRESS and REPORT that name its TN. In a QUIET
grant the TN is the one being ranged, and k is no transmitter (R142, R157; assumption 83). -/
def ownGrant (p own j : Nat) (g : Grant) : Option OwnGrant :=
  if (g.kind == 1 || g.kind == 2 || g.kind == 3) && g.tn == own then some ⟨j + 2, 32 * p + g.k, g⟩ else none

/-- The TN whose grants are the terminal's own: its own, or, once that is forgotten, the one that it had at the freeze point of the slot
(R157). -/
def grantTn (slot : Nat) (s : State) : Option Nat :=
  match s.join.tn with
  | some tn => some tn
  | none => (match tabGet 0 s.grants.frozenTn slot with | 0 => none | n + 1 => some n)

/-- The own grants of a plane in a slot, in ascending wavelength (R157). Assumption 83. -/
def ownGrants (p slot : Nat) (s : State) : List OwnGrant :=
  match grantTn slot s with
  | none => []
  | some tn =>
    let gs := frozenGrants p slot s
    (List.range gs.length).filterMap (fun j => ownGrant p tn j (gs.getD j grantAbsent))

/-- A sheet governs the grant (R151, R166). -/
def isStanding (g : Grant) : Bool := g.origin == 2

/-! ### The stops of R157 -/

/-- The plane sends in a slot: a TN is held, and it is ACTIVE, or EQUALISED with an activation that comes no later than the slot and will
find it inside the window, not contested, with no TN_CLASH stop, and with no hold that comes first (R124, R126, R130, R135). -/
def planeSends (p slot : Nat) (s : State) : Bool :=
  let m := planeOf p s
  s.join.tn.isSome && !s.join.clash && m.own != .contested && !(m.holdPending && nextBoundary s ≤ slot) &&
    (m.phase == .active || (m.phase == .equalised && m.actSfn.any (fun n => 128 * n ≤ slot) && insideWindow p s))

/-- The root allows a burst: any while it is LOCKED, those of standing sheets in HOLDOVER (R85). -/
def rootSends (standing : Bool) (s : State) : Bool :=
  match s.cue.root.phase with
  | .locked => true
  | .holdover => standing
  | _ => false

/-- What a Curtain lets an own grant send (R530, R531): the call planned for it, or an express burst of this superframe or the next. -/
def curtainSends (c : Curtain) (p slot : Nat) (o : OwnGrant) (s : State) : Bool :=
  if o.grant.kind = 3 then isStanding o.grant && c.calls.contains (p, slot)
  else
    o.grant.kind == 2 && c.fromRun && (sfnOf slot == sfnOf c.slot || sfnOf slot == sfnOf c.slot + 1) &&
      decide (lightEnd (launchInstant p slot s) ≤ ((c.at_ + callLimit : Nat) : Int))

/-- Another own grant of the slot names the same transmitter and is standing, or is on a lower wavelength (R157). Assumption 83. -/
def hasTwin (own : List OwnGrant) (o : OwnGrant) : Bool :=
  own.any (fun q => q.wave != o.wave && q.x == o.x && (isStanding q.grant || q.wave < o.wave))

/-- The stops of R157 in their order, and last a plan that holds no burst (R177). -/
inductive Stop where
  | plane
  | root
  | curtain
  | lane
  | twin
  | plan
deriving DecidableEq, Repr

/-- The plan that was made for a slot when the slot before started holds the wavelength of an own grant (R177). Where no LAUNCH of the slot
before has made one, none stands against it (assumption 84). -/
def planAllows (slot : Nat) (o : OwnGrant) (s : State) : Bool :=
  match (txOf o.x s).plan with
  | some (n, w) => n != slot || w == o.wave
  | none => true

/-- The first stop of R157 and R177 that matches an own grant. Assumption 84. -/
def stopOf (own : List OwnGrant) (p slot : Nat) (o : OwnGrant) (s : State) : Option Stop :=
  if !planeSends p slot s then some .plane
  else if !rootSends (isStanding o.grant) s then some .root
  else if (match s.power.curtain with | some c => !curtainSends c p slot o s | none => false) then some .curtain
  else if !laneReady o.x s then some .lane
  else if hasTwin own o then some .twin
  else if !planAllows slot o s then some .plan
  else none

/-- A dark own grant: counted on the plane and on the transmitter (R165, R193). -/
def countDark (p x : Nat) (s : State) : State := countTx x 2 1 (countGrant p 8 1 s)

/-- A stop takes effect: a dark own grant, DARK_GRANT for a transmitter that is not lane-ready or was not when the plan was made
(assumption 84), an integrity error for a second grant of one transmitter (R157, R192). -/
def tellStop (p x : Nat) (why : Stop) (s : State) : State :=
  let s := countDark p x s
  match why with
  | .lane => raise 0x0408 (srcTx x) .minor 0 0 s
  | .plan => raise 0x0408 (srcTx x) .minor 0 0 s
  | .twin => integrityError p s
  | .plane => s
  | .root => s
  | .curtain => s

/-! ### Express members that are sent (R157, R228, R230) -/

/-- The live group whose member an own grant sends: it has e = 0, and the member is in the map, is being added, or owes its end container.
-/
def sendingGroup (g : Grant) (s : State) : Option Nat :=
  if g.e ≠ 0 then none
  else
    match groupNumbered g.dest s with
    | none => none
    | some i =>
      let q := groupOf i s
      if memberActive g.member q || maskBit q.ending g.member then some i else none

/-- The destroyed group whose member still owes its end container (R74). -/
def endedGroup (g : Grant) (s : State) : Option EndedGroup :=
  if g.e ≠ 0 then none
  else (tabGet none s.express.ended g.dest).filter (fun e => maskBit e.members g.member)

/-- The far TN of what an express grant sends, an end container that is owed first; none when the member is not configured for sending. -/
def expressFar (g : Grant) (s : State) : Option Nat :=
  match endedGroup g s with
  | some e => some e.farTn
  | none => (sendingGroup g s).map (fun i => (groupOf i s).cfg.farTn)

/-! ### Keys (R353, R364 to R366, R582) -/

/-- The key of a destination TN: the self key toward the terminal itself, the hub key toward a hub. -/
def tnKey (dest : Nat) (s : State) : Nat :=
  if s.join.tn = some dest then selfKey else if 30 ≤ dest then hubKey else dest

/-- The key of what an own grant would send; none for an express grant that is not configured for sending. -/
def grantKey (g : Grant) (s : State) : Option Nat :=
  if g.kind = 2 then (expressFar g s).map (fun d => tnKey d s)
  else if g.kind = 3 then some hubKey
  else some (if g.mcast then groupKeyNo g.dest else tnKey g.dest s)

/-- The epoch of a key for a slot (R364, R366). -/
def epochFor (k slot : Nat) (s : State) : Option KeyEpoch := sendEpoch (policyFor slot s).limitLog2 slot (lineKey k s)

/-- The key of an own grant is at its cap with no standby, or has no epoch (R157, R366). -/
def keyAtCap (g : Grant) (slot : Nat) (s : State) : Bool :=
  match grantKey g s with
  | none => false
  | some k => (epochFor k slot s).isNone

/-- KEY_CAP of a plane, counted (R366, R388, R389). -/
def tellKeyCap (p dest : Nat) (s : State) : State := raise 0x0A01 (srcPlane p 7) .minor (wordOf dest) 0 (countSec 8 1 s)

/-- The sequence value of a slot; none where it was assigned none or encrypted sending is disabled (R157, R357, R361, R380). -/
def slotSequence (slot : Nat) (s : State) : Option Nat :=
  if sendingDisabled s || tabGet 0 s.sec.seq.assigned slot == 0 then none else some (tabGet 0 s.sec.seq.assigned slot)

/-! ### Report units (R159 to R164) -/

/-- The 16-bit floating encoding of a number of bytes (R160). -/
def encodeBytes (n : Nat) : Nat :=
  match (List.range 32).find? (fun e => (n + 2 ^ e - 1) / 2 ^ e ≤ 2047) with
  | some e => 2048 * e + (n + 2 ^ e - 1) / 2 ^ e
  | none => 65535

/-- Bytes of the key segments that wait for a hub, headers included (R159, R370). -/
def waitingBytes (q : List KeySegment) : Nat := (q.map (fun k => k.data.length + 12)).sum

/-- The cue status of a report: 128 bits, as the last evaluation point before the launch has left it (R104, R159; assumption 85). -/
def cueStatus (s : State) : List (Nat × Nat × Nat) :=
  (List.range 16).flatMap (fun q => [(96 + 8 * q, 4, cueNibble .a q s), (100 + 8 * q, 4, cueNibble .b q s)])

/-- The fields of a report unit of plane `p` sent in a slot, by offset and width (R159). Assumption 85. -/
def reportFields (p slot : Nat) (s : State) : List (Nat × Nat × Nat) :=
  [(0, 16, 0x5E01), (16, 16, 608), (32, 48, sfnOf slot), (80, 7, slotNoOf slot), (87, 1, bitNat (s.join.phase == .leaving))] ++
  cueStatus s ++
  (List.range 512).map (fun x => (224 + x, 1, bitNat (laneReady x s))) ++
  (List.range 8).map (fun c => (736 + 16 * c, 16, encodeBytes (rxCredit c s))) ++
  (List.range 248).map (fun i => (864 + 16 * i, 16, encodeBytes (occupancy (i / 8) (i % 8) p s))) ++
  [(4832, 16, encodeBytes (waitingBytes s.sec.hubQueueA)), (4848, 16, encodeBytes (waitingBytes s.sec.hubQueueB))]

/-- A report unit of 608 bytes (R159). -/
def reportUnit (p slot : Nat) (s : State) : List Byte := bytesBE 608 (packBits 4864 (reportFields p slot s))

/-- A report unit that was sampled before takes the cue status of now (R161). -/
def freshReport (bs : List Byte) (s : State) : List Byte := bs.take 12 ++ (bytesBE 28 (packBits 224 (cueStatus s))).drop 12 ++ bs.drop 28

/-- A report is due on a plane by piggy-back (R162). -/
def piggyDue (p slot : Nat) (s : State) : Bool :=
  piggyNow s != 0 && (match (grantsOf p s).lastReport with | some n => decide (n + piggyNow s ≤ slot) | none => true)

/-- Sets the slot of a plane's last report. -/
def setLastReport (p : Nat) (n : Option Nat) (s : State) : State := modGrants p (fun g => { g with lastReport := n }) s

end Sys2Proof.Machine
end

