-- ==== Sys2Proof/Machine/Select.lean ====
section
/-! DEFINITION. The selection window: filling an own PACKET burst by deficit round robin, splits, jumbo frames, key segments, and the return
of what a stopped burst had selected (R171 to R176, R327 to R331, R371). -/

namespace Sys2Proof.Machine

/-! ### DRR state (R327) -/

/-- The DRR state of a flow on a plane, and a state rewritten. -/
def drrKey (d group p : Nat) : Nat := flowKey d group * 16 + p
def drrOf (d group p : Nat) (s : State) : Drr := tabGet drrReset s.queues.drrs (drrKey d group p)
def modDrr (d group p : Nat) (g : Drr → Drr) (s : State) : State :=
  modQueues (fun q => { q with drrs := tabMod drrReset q.drrs (drrKey d group p) g }) s

/-- The deficit of a class, and a deficit rewritten. -/
def deficitOf (c : Nat) (r : Drr) : Nat := r.deficits.getD c 0
def setDeficit (c v : Nat) (r : Drr) : Drr := { r with deficits := r.deficits.set c v }

/-- The pointer moves on to the next class (R328). -/
def nextClass (c : Nat) (r : Drr) : Drr := { r with ptr := (c + 1) % 8, fresh := true }

/-! ### Filling (R328) -/

/-- The tier of a class: 0 committed, 1 excess, 2 held (R328). -/
def tierOf (d c : Nat) (s : State) : Nat :=
  match shaperCode (voqOf d c s).shaper s with
  | 1 => 0
  | 3 => 2
  | _ => 1

/-- What a fill works for: the flow, the tiers as the window opened, and whether R174 and R309 let this burst end in a head. -/
structure FillPlan where
  dest : Nat
  group : Nat
  plane : Nat
  mcast : Bool
  name : Nat
  slot : Nat
  tiers : List Nat
  maySplit : Bool
deriving DecidableEq, Repr

/-- A fill on its way: the machine, what has been placed, and where the next unit starts. -/
structure FillRun where
  m : State
  skipped : List Nat
  firstSkip : Option Nat
  units : List PayloadUnit
  taken : List (Nat × QFrame)
  next : Nat
  fill : Nat
  tailOut : Option Tail
  done : Bool

/-- The next multiple of 8 (R172). -/
def align8 (n : Nat) : Nat := (n + 7) / 8 * 8

/-- Bytes of the unit area. -/
def unitArea : Nat := 6409

/-- The plane queue of a class. -/
def fillKey (e : FillPlan) (c : Nat) : Nat := queueKey e.dest e.group c e.plane

/-- The quantum of a class (R327, R349). -/
def fillQuantum (e : FillPlan) (c : Nat) (s : State) : Nat := (voqConfig e.dest c s).quantum

/-- A class may be looked at in a run: the first run takes committed classes alone. -/
def inTier (e : FillPlan) (second : Bool) (c : Nat) : Bool := e.tiers.getD c 2 ≤ bitNat second

/-- A class has a frame, lies in the tier, and is not passed over. -/
def classOpen (e : FillPlan) (second : Bool) (r : FillRun) (c : Nat) : Bool :=
  !(planeQueue (fillKey e c) r.m).isEmpty && inTier e second c && !r.skipped.contains c

/-- Frames at the head of the flow's queues with a cell in a retired stack go (R345). -/
def dropRetired (e : FillPlan) (s : State) : State :=
  forEach (fun c s => dropRetiredHeads (fillKey e c) (planeQueue (fillKey e c) s).length s) (List.range 8) s

/-- A frame leaves its queue for the burst: the shaper is charged and the VOQ counts it (R328, R331, R348). -/
def placeFrame (e : FillPlan) (c : Nat) (f : QFrame) (s : State) : State :=
  countVoq e.dest c 2 1 (chargeShaper (voqOf e.dest c s).shaper f.data.length (popFrame (fillKey e c) s))

/-- A whole-frame unit (R171). -/
def wholeUnit (c : Nat) (f : QFrame) : PayloadUnit := ⟨1, c, f.data.length, f.port, f.data⟩

/-- Places the head frame of a class as a whole-frame unit (R328). -/
def placeWhole (e : FillPlan) (c : Nat) (f : QFrame) (r : FillRun) : FillRun :=
  let n := f.data.length
  let s := placeFrame e c f r.m
  let s := modDrr e.dest e.group e.plane (fun d => setDeficit c (deficitOf c d - n) d) s
  let s := if (planeQueue (fillKey e c) s).isEmpty then modDrr e.dest e.group e.plane (setDeficit c 0) s else s
  { r with
    m := s, units := r.units ++ [wholeUnit c f], taken := r.taken ++ [(fillKey e c, f)], next := align8 (r.next + 8 + n),
    fill := r.next + 8 + n }

/-- A frame of `n` bytes may be split at an offset: the burst may end in a head, the head has a byte, and the rest fits in a tail
(R174). -/
def splitFits (e : FillPlan) (n next : Nat) : Bool := e.maySplit && next + 8 < unitArea && n + next + 8 ≤ unitArea + 6401

/-- Places the head unit of a frame up to the end of the unit area; its tail goes with the next burst, and the fill is over (R174,
R328). -/
def placeHead (e : FillPlan) (c : Nat) (f : QFrame) (r : FillRun) : FillRun :=
  let n := f.data.length
  let seg := unitArea - (r.next + 8)
  let s := modDrr e.dest e.group e.plane (fun d => setDeficit c (deficitOf c d - n) d) (placeFrame e c f r.m)
  { r with
    m := s, units := r.units ++ [⟨2, c, n, f.port, f.data.take seg⟩], taken := r.taken ++ [(fillKey e c, f)], next := unitArea,
    fill := unitArea, done := true
    tailOut := some ⟨e.slot + 1, e.mcast, e.name, c, f.port, n, f.data.drop seg, f.tokens⟩ }

/-- The frame at the head of class `c` is within its deficit: it is placed whole, split, or its class is passed over (R175, R328). -/
def offerFrame (e : FillPlan) (c : Nat) (f : QFrame) (r : FillRun) : FillRun :=
  let n := f.data.length
  if r.next + 8 + n ≤ unitArea then placeWhole e c f r
  else if splitFits e n r.next then placeHead e c f r
  else { r with skipped := r.skipped ++ [c], firstSkip := some (r.firstSkip.getD c) }

/-- One pass of the loop of R328 at the class that the pointer names. -/
def fillStep (e : FillPlan) (second : Bool) (r : FillRun) : FillRun :=
  let d := drrOf e.dest e.group e.plane r.m
  let c := d.ptr
  if !classOpen e second r c then { r with m := modDrr e.dest e.group e.plane (nextClass c) r.m }
  else
    let d := if d.fresh then { setDeficit c (deficitOf c d + fillQuantum e c r.m) d with fresh := false } else d
    let s := modDrr e.dest e.group e.plane (fun _ => d) r.m
    match planeQueue (fillKey e c) s with
    | [] => r
    | f :: _ =>
      if deficitOf c d < f.data.length then { r with m := modDrr e.dest e.group e.plane (nextClass c) s }
      else offerFrame e c f { r with m := s }

/-- The procedure `fill` of R328, within a number of passes. -/
def fillLoop (e : FillPlan) (second : Bool) : Nat → FillRun → FillRun
  | 0, r => r
  | n + 1, r =>
    let r := { r with m := dropRetired e r.m }
    if r.done || !(List.range 8).any (classOpen e second r) then r else fillLoop e second n (fillStep e second r)

/-- More passes than any fill takes: a head of 10,240 bytes waits for at most 160 quanta of 64 bytes, 16 passes each, for each of the at
most 97 frames that are placed or passed over. -/
def fillPasses : Nat := 262144

/-- Both runs of R328, and the pointer after them. -/
def runFill (e : FillPlan) (start fill : Nat) (s : State) : FillRun :=
  let r : FillRun := ⟨s, [], none, [], [], start, fill, none, false⟩
  let r := fillLoop e true fillPasses (fillLoop e false fillPasses r)
  match r.firstSkip with
  | none => r
  | some c => { r with m := modDrr e.dest e.group e.plane (fun d => { d with ptr := c, fresh := false }) r.m }

/-! ### Jumbo frames (R175) -/

/-- The head of a class is a jumbo frame that has waited too long, and the transmitter that passed it over last. -/
def jumboDue (e : FillPlan) (c : Nat) (s : State) : Option (QFrame × Nat) :=
  match planeQueue (fillKey e c) s with
  | [] => none
  | f :: _ =>
    match f.headAt, f.passedBy with
    | some t, some x =>
      if 6401 < f.data.length ∧ t + s.tx.cfg.jumboWait * superframeCc ≤ s.clock.now then some (f, x) else none
    | _, _ => none

/-- Drops the jumbo frames of the flow that have waited jumbo_wait superframes (R175, R193). -/
def dropJumbos (e : FillPlan) (s : State) : State :=
  forEach (fun c s =>
    match jumboDue e c s with
    | none => s
    | some (f, x) => countTx x 7 1 (forEach (ownerDone 0x002) f.tokens (popFrame (fillKey e c) s))) (List.range 8) s

/-- The frames at the heads of the classes passed over have been passed over by this burst. -/
def markPassed (e : FillPlan) (x : Nat) (skipped : List Nat) (s : State) : State :=
  forEach (fun c s => modPlaneQueue (fillKey e c) (fun fs =>
    match fs with
    | [] => []
    | f :: rest => { f with passedBy := some x } :: rest) s) skipped s

/-! ### Splits (R174, R309) -/

/-- The next slot grants the transmitter an own PACKET burst to the same destination, and no other own PACKET burst of this slot and plane
to that destination lies on a higher wavelength (R174, R309). -/
def splitAllowed (own : List OwnGrant) (p slot : Nat) (o : OwnGrant) (s : State) : Bool :=
  s.tx.cfg.splitEnable &&
    (ownGrants p (slot + 1) s).any (fun q => q.x == o.x && q.grant.kind == 1 && q.grant.mcast == o.grant.mcast && q.grant.dest == o.grant.dest) &&
    !own.any (fun q => o.wave < q.wave && q.grant.kind == 1 && q.grant.mcast == o.grant.mcast && q.grant.dest == o.grant.dest)

/-! ### Key segments (R371) -/

/-- The bytes of a segment as a unit carries them: its header of 12 bytes and its data, filled with 0 to at least 64 (R370, R371). -/
def segmentBytes (k : KeySegment) (s : State) : List Byte :=
  let hd := packBits 96 [(0, 16, k.recKind), (16, 5, s.join.tn.getD 0), (24, 5, k.toTn), (32, 16, k.recId), (48, 4, k.index), (52, 4, k.total),
    (56, 12, k.data.length)]
  let bs := bytesBE 12 hd ++ k.data
  bs ++ List.replicate (64 - bs.length) 0

/-- Places whole segments in queue order while they fit: the units, the segments taken, the end of the last unit, and those left. -/
def placeSegments (s : State) : Nat → Nat → List KeySegment → List PayloadUnit × List KeySegment × Nat × List KeySegment
  | _, fill, [] => ([], [], fill, [])
  | start, fill, k :: ks =>
    let bs := segmentBytes k s
    let e := start + 8 + bs.length
    if unitArea < e then ([], [], fill, k :: ks)
    else
      let (us, taken, fill, left) := placeSegments s (align8 e) e ks
      (⟨1, 0, bs.length, 0, bs⟩ :: us, k :: taken, fill, left)

/-- Replaces a hub's queue; firmware fills the room (R371). -/
def setHubQueue (toB : Bool) (q : List KeySegment) (s : State) : State :=
  if toB then
    let all := q ++ s.sec.backlogB
    { s with sec := { s.sec with hubQueueB := all.take 64, backlogB := all.drop 64 } }
  else
    let all := q ++ s.sec.backlogA
    { s with sec := { s.sec with hubQueueA := all.take 64, backlogA := all.drop 64 } }

def hubQueue (toB : Bool) (s : State) : List KeySegment := if toB then s.sec.hubQueueB else s.sec.hubQueueA

/-! ### What a stopped burst returns (R173, R176) -/

/-- Frames return to the head of a plane queue, in their order. -/
def returnToQueue (now : Nat) (fs q : List QFrame) : List QFrame :=
  match fs ++ q with
  | [] => []
  | f :: rest => { f with headAt := some (f.headAt.getD now) } :: rest.map (fun g => { g with headAt := none, passedBy := none })

/-- The frames of one plane queue return; the deficits charged are restored, and the shapers' charges taken back (R173, R328). -/
def returnQueue (k : Nat) (fs : List QFrame) (s : State) : State :=
  let c := keyClass k
  let n := queueBytes fs
  let s := modPlaneQueue k (returnToQueue s.clock.now fs) s
  let s := unchargeShaper (voqOf (keyDest k) c s).shaper n s
  modQueues (fun q => { q with drrs := tabMod drrReset q.drrs (k / 128 * 16 + keyPlane k) (fun d => setDeficit c (deficitOf c d + n) d) }) s

/-- Every frame of a selection returns, queue by queue. -/
def returnFrames (taken : List (Nat × QFrame)) (s : State) : State :=
  forEach (fun k s => returnQueue k ((taken.filter (fun e => e.1 == k)).map (fun e => e.2)) s) (taken.map (fun e => e.1)).eraseDups s

/-- A tail is discarded: a split frame lost on the transmitter, and its cells freed (R176). -/
def discardTail (x : Nat) (t : Tail) (s : State) : State := forEach (ownerDone 0x002) t.tokens (countTx x 4 1 s)

/-- The tail that a transmitter owes for a slot no later than `slot` is discarded (R176). -/
def discardDueTail (x slot : Nat) (s : State) : State :=
  match (txOf x s).tail with
  | none => s
  | some t => if t.slot ≤ slot then discardTail x t (modTx x (fun t => { t with tail := none }) s) else s

/-- What a selection holds goes back: frames to their queues, segments to the hub's queue, the tail is discarded, the report dropped (R173,
R176). -/
def returnSelection (x : Nat) (s : State) : State :=
  match (txOf x s).sel with
  | none => s
  | some l =>
    let s := modTx x (fun t => { t with sel := none }) s
    let s := returnFrames l.taken s
    let s := if l.segs.isEmpty then s else setHubQueue l.toB (l.segs ++ hubQueue l.toB s) s
    let s := if l.report then setLastReport (x / 32) l.prevReport s else s
    match l.tailIn with
    | none => s
    | some t => discardTail x t s

/-! ### The selection (R172, R173) -/

/-- The report unit as a payload unit (R171). -/
def reportPayload (p slot : Nat) (s : State) : PayloadUnit := ⟨5, 0, 608, 0, reportUnit p slot s⟩

/-- Stores what a window has selected. -/
def setSelection (x : Nat) (l : Selection) (s : State) : State := modTx x (fun t => { t with sel := some l }) s

/-- The units that come first: the tail due and the report due, and the selection with them (R172). -/
def openSelection (p slot : Nat) (o : OwnGrant) (s : State) : Selection × State :=
  let tail := (txOf o.x s).tail.filter (fun t => t.slot == slot)
  let s := modTx o.x (fun t => { t with tail := if tail.isSome then none else t.tail }) s
  let tu := (match tail with | none => [] | some t => [⟨3, t.cls, t.frameLen, t.port, t.data⟩])
  let tend := (match tail with | none => 0 | some t => 8 + t.data.length)
  let due := piggyDue p slot s
  let l := { selectionReset with
    slot := slot, wave := o.wave, packet := true, tailIn := tail, report := due, prevReport := (grantsOf p s).lastReport,
    units := tu ++ (if due then [reportPayload p slot s] else []), fill := if due then align8 tend + 608 else tend }
  (l, if due then setLastReport p (some slot) s else s)

/-- The selection of a burst to a hub: its queue's segments (R371). -/
def selectSegments (p slot : Nat) (o : OwnGrant) (s : State) : State :=
  let toB := o.grant.dest == 31
  let (l, s) := openSelection p slot o s
  let (us, taken, fill, left) := placeSegments s (align8 l.fill) l.fill (hubQueue toB s)
  setSelection o.x { l with units := l.units ++ us, segs := taken, toB := toB, fill := fill } (setHubQueue toB left s)

/-- The selection of a burst of frames (R173 to R175, R328). Assumption 40. -/
def selectFrames (e : FillPlan) (p slot : Nat) (o : OwnGrant) (s : State) : State :=
  let (l, s) := openSelection p slot o s
  let r := runFill e (align8 l.fill) l.fill s
  let s := dropJumbos e (markPassed e o.x r.skipped r.m)
  setSelection o.x { l with units := l.units ++ r.units, taken := r.taken, tailOut := r.tailOut, fill := r.fill } s

/-- What a fill for an own grant works for. -/
def fillPlan (own : List OwnGrant) (p slot : Nat) (o : OwnGrant) (s : State) : FillPlan :=
  let d := if o.grant.mcast then 30 else o.grant.dest
  { dest := d, group := (if o.grant.mcast then o.grant.dest else 0), plane := p, mcast := o.grant.mcast, name := o.grant.dest,
    slot := slot, tiers := (List.range 8).map (fun c => tierOf d c s), maySplit := splitAllowed own p slot o s }

/-- A class outside held has a frame (R328). -/
def framesWait (e : FillPlan) (s : State) : Bool :=
  (List.range 8).any (fun c => e.tiers.getD c 2 != 2 && !(planeQueue (fillKey e c) s).isEmpty)

/-- The transmitter owes a tail in a slot (R174). -/
def tailDue (x slot : Nat) (s : State) : Bool := (txOf x s).tail.any (fun t => t.slot == slot)

/-- The window of one own PACKET grant that no stop prevents: it opens with a tail due, frames queued or segments waiting (R157, R173). -/
def selectGrant (own : List OwnGrant) (p slot : Nat) (o : OwnGrant) (s : State) : State :=
  if !o.grant.mcast && 30 ≤ o.grant.dest then
    if (hubQueue (o.grant.dest == 31) s).isEmpty && !tailDue o.x slot s then s else selectSegments p slot o s
  else
    let e := fillPlan own p slot o s
    let s := dropJumbos e (dropRetired e s)
    if !framesWait e s && !tailDue o.x slot s then s else selectFrames e p slot o s

/-- The window of one own grant. What an earlier burst has left unsent goes first. Assumption 40. -/
def windowGrant (own : List OwnGrant) (p slot : Nat) (s : State) (o : OwnGrant) : State :=
  let s := if (txOf o.x s).sel.any (fun l => l.slot != slot) then returnSelection o.x s else s
  let s := if (txOf o.x s).tail.any (fun t => t.slot < slot) then discardDueTail o.x (slot - 1) s else s
  if o.grant.kind ≠ 1 ∨ (stopOf own p slot o s).isSome ∨ keyAtCap o.grant slot s ∨ (txOf o.x s).sel.isSome then s
  else selectGrant own p slot o s

/-- SELECTION_WINDOW: 896 cc before the launch instant of a slot on a plane the content of its own PACKET bursts is selected, in ascending
wavelength (R173, R329). -/
def execSelectionWindow (slot plane : Nat) (s : State) : Result :=
  let s := advanceTo (launchInstant plane slot s - 896).toNat s
  let own := ownGrants plane slot s
  .next (own.foldl (windowGrant own plane slot) s)

/-- The header fields CI, CO, RP and fill of a selection (R72, R173). -/
def headerFields (l : Selection) : Bool × Bool × Bool × Nat := (l.tailIn.isSome, l.tailOut.isSome, l.report, l.fill)

/-- The header fields of a slot's selection are fixed. Assumption 40. -/
def closeSelection (slot x : Nat) (s : State) : State :=
  modTx x (fun t => { t with sel := t.sel.map (fun l => if l.slot = slot then { l with fixed := some (headerFields l) } else l) }) s

/-- SELECTION_CLOSE: 448 cc before the launch instant CI, CO, RP and fill are fixed (R173). -/
def execSelectionClose (slot plane : Nat) (s : State) : Result :=
  .next (forEach (closeSelection slot) (planeTxs plane) (advanceTo (launchInstant plane slot s - 448).toNat s))

end Sys2Proof.Machine
end

