-- ==== Sys2Proof/Machine/SendExpress.lean ====
section
/-! DEFINITION. The containers that the terminal sends, and the sender's T (R74, R234 to R240, R253, R256, R265, R269). -/

namespace Sys2Proof.Machine

/-- The rsz field of a group's containers (R253). -/
def sentRsz (r : Resize) : Nat :=
  match r.phase with
  | .request => 1
  | .preparing => bitNat r.own
  | .ready => 2
  | .switched => 2
  | .idle => 0
  | .farRequest => 0
  | .withdrawn => 0

/-- The group whose port feeds a group: its working group for a protect group (R256). -/
def feederOf (i : Nat) (s : State) : Nat := (pairOfGroup i s).getD i

/-- AIS and the group stream that a group sends in a slot: what was chosen for it, else AIS with T_nom zeros (R234, R256, R263); a
tributary group has no client of its own (R265). -/
def sentStream (slot i : Nat) (s : State) : Bool × BitRun :=
  let g := groupOf i s
  let n := tnomFor g (mapCount (mapAt slot g))
  if g.cfg.trib then (false, ⟨n, 0⟩)
  else
    let lost := (true, (⟨n, 0⟩ : BitRun))
    if g.bridged then (chosenAt slot (groupOf (feederOf i s) s).chosen).getD lost else lost

/-- The container overhead of a group in a slot (R236, R248, R253). -/
def sentOverhead (slot i : Nat) (ends : Bool) (s : State) : Nat :=
  let g := groupOf i s
  let (ais, b) := sentStream slot i s
  let rsz := sentRsz g.resize
  writeOverhead
    { mfi := slot % 256, count := b.len, g := mapCount (mapAt slot g), ais := ais, rdi := g.rdiOut, ends := ends, rsz := rsz,
      remove := rsz != 0 && g.resize.remove, member := (if rsz = 0 then 0 else g.resize.member), crcOk := true }

/-- A member's container of a slot carries client bits: the member is in the slot's map (R74, R239). Assumption 93. -/
def carriesBits (slot m : Nat) (g : ExpGroup) : Bool := maskBit (mapAt slot g) m

/-- The client-area words of a member of an express group: its share of the group stream, or zeros (R239). Assumption 93. -/
def sentWords (slot i m : Nat) (s : State) : Tab Word :=
  let g := groupOf i s
  let map := mapAt slot g
  if carriesBits slot m g then dealMember (sentStream slot i s).2 (mapCount map) ((mapMembers map).idxOf m) else []

/-- The payload of a member of a live group, with the tag of the member's previous container; its end container carries no client bits (R73,
R74, R236). Assumption 42. -/
def memberPayload (slot i m : Nat) (s : State) : Payload × State :=
  let g := groupOf i s
  let ends := !memberActive m g
  let ptv := ends || maskBit g.sentBits m
  let tag := if ptv then tabGet 0 g.sentTags m else 0
  if ends then (.express g.cfg.number m ptv tag (sentOverhead slot i true s) [], s)
  else if g.cfg.trib then
    let (ts, s) := sendSlots slot g.cfg.number m (List.range 10) s
    (.express g.cfg.number m ptv tag (sentOverhead slot i false s) (if carriesBits slot m g then tribArea ts else []), s)
  else (.express g.cfg.number m ptv tag (sentOverhead slot i false s) (sentWords slot i m s), s)

/-- The end container of a member of a destroyed group, with the tag of its last container (R74, R263). Assumption 42. -/
def endPayload (slot num m : Nat) (e : EndedGroup) : Payload :=
  .express num m true (tabGet 0 e.tags m) (writeOverhead ⟨slot % 256, e.count, e.g, false, false, true, 0, false, 0, true⟩) []

/-- The payload of an express grant that is configured for sending, an end container that is owed first; none otherwise (R74, R157). -/
def expressPayload (slot : Nat) (gr : Grant) (s : State) : Option (Payload × State) :=
  match endedGroup gr s with
  | some e => some (endPayload slot gr.dest gr.member e, s)
  | none => (sendingGroup gr s).map (fun i => memberPayload slot i gr.member s)

/-! ### What a container sent leaves behind (R74, R261) -/

/-- A destroyed group owes one end container fewer. -/
def settleEnded (num m : Nat) (s : State) : State :=
  match tabGet none s.express.ended num with
  | none => s
  | some e =>
    let ms := withBit e.members m false
    modExpress (fun x => { x with ended := tabSet none x.ended num (if ms = 0 then none else some { e with members := ms }) }) s

/-- What is sent in a slot is known: RATE_CONTROL has chosen for the slot, or nothing is chosen for the group. -/
def streamKnown (slot i : Nat) (s : State) : Bool :=
  let g := groupOf i s
  g.cfg.trib || !g.bridged || (chosenAt slot (groupOf (feederOf i s) s).chosen).isSome

/-- A container is sent: counted, with AIS as well; what the next container's PTV needs is noted, and an end container settled. -/
def containerSent (slot num m overhead : Nat) (s : State) : State :=
  let o := readOverhead overhead
  if (tabGet none s.express.ended num).any (fun e => maskBit e.members m) then settleEnded num m s
  else
  match groupNumbered num s with
  | none => s
  | some i =>
    let s := countGroup i 1 (bitNat (o.ais && streamKnown slot i s)) (countGroup i 0 1 s)
    modGroup i (fun g =>
      if o.ends then { g with sentBits := withBit g.sentBits m false, ending := withBit g.ending m false }
      else { g with sentBits := withBit g.sentBits m (carriesBits slot m g) }) s

/-! ### Burst line bits and container tags (R73, R168) -/

/-- The tag of a container that a member sends, for the header of its next one (R73). -/
def noteTag (num m tag : Nat) (s : State) : State :=
  match groupNumbered num s with
  | none => s
  | some i => modGroup i (fun g => { g with sentTags := tabSet 0 g.sentTags m tag }) s

/-- The planned burst of a transmitter as line bits, which its open gate sends (R168, R169, R355). -/
def emitBurst (x : Nat) (s : State) : State :=
  let t := txOf x s
  match t.burst with
  | none => s
  | some b =>
    let holder := keyHolder b.mcast b.dest
    let s := modTx x (fun t => { t with line := burstLine t.key holder b }) s
    match b.payload with
    | .express num m _ _ _ _ => noteTag num m (burstTag t.key holder b) s
    | .idle => s
    | .packet _ _ _ _ _ => s
    | .report _ => s
    | .ranging _ _ _ _ _ _ _ _ _ _ _ _ => s

/-! ### The sender's T (R234, R240, R269) -/

/-- The port of a circuit is up with every lane aligned. -/
def circuitUp (p : Nat) (s : State) : Bool := (portOf p s).phase == .up && (portOf p s).los == 0

/-- A choice is kept as long as the planes' launch instants of one slot can lie apart (R106). Assumption 41. -/
def keepChoice (c : Nat × Bool × BitRun) (cs : List (Nat × Bool × BitRun)) : List (Nat × Bool × BitRun) :=
  (c :: cs.filter (fun d => d.1 != c.1)).take 128

/-- A container that is planned or being sent takes the stream that its slot has been given, and counts AIS when it is being sent.
Assumption 41. -/
def refreshGroup (slot i x : Nat) (s : State) : State :=
  match (txOf x s).burst with
  | none => s
  | some b =>
    match b.payload with
    | .express num m ptv tag o ws =>
      if b.slot = slot ∧ groupNumbered num s = some i then
        let ends := (readOverhead o).ends
        let p := Payload.express num m ptv tag (sentOverhead slot i ends s) (if ends then ws else sentWords slot i m s)
        let s := modTx x (fun t => { t with burst := some { b with payload := p } }) s
        if (txOf x s).gateOpen then emitBurst x (countGroup i 1 (bitNat (sentStream slot i s).1) s) else s
      else s
    | _ => s

/-- The tributary slots of a client area. -/
def areaSlots (ws : Tab Word) : List TribSlot :=
  let ds := areaDescs (descArea ws)
  (List.range 10).map (fun i => ⟨ds.getD i 0, slotWords ws i⟩)

/-- The slots of a member that a circuit feeds take its parts (R269). -/
def refreshSlot (slot circ num m ts : Nat) (t : TribSlot) (s : State) : TribSlot :=
  match (pageAt slot s).find? (fun e => entryValid e.2 && !dstIsPart e.2 && entryDst e.2 == (num, m, ts)) with
  | none => t
  | some (_, e) => if srcIsPart e && laneTributary (entrySrc e).1 s == some circ then partSlot slot circ (entrySrc e).2.2 s else t

/-- A tributary container that is planned or being sent takes the parts of a circuit. Assumption 41. -/
def refreshTrib (slot circ x : Nat) (s : State) : State :=
  match (txOf x s).burst with
  | none => s
  | some b =>
    match b.payload with
    | .express num m ptv tag o ws =>
      if b.slot = slot ∧ !ws.isEmpty ∧ (groupNumbered num s).any (fun i => (groupOf i s).cfg.trib) then
        let ts := (areaSlots ws).zipIdx.map (fun e => refreshSlot slot circ num m e.2 e.1 s)
        let s := modTx x (fun t => { t with burst := some { b with payload := .express num m ptv tag o (tribArea ts) } }) s
        if (txOf x s).gateOpen then emitBurst x s else s
      else s
    | _ => s

/-- The groups that a group's port feeds: itself, and the protect group of its pair (R256). -/
def fedGroups (i : Nat) (s : State) : List Nat :=
  i :: (match tabGet none s.express.pairs i with | some p => [p.protect] | none => [])

/-- RATE_CONTROL: at cycle 90, before the overhead of a slot's containers is sent, the sender of a group or a tributary chooses T. `lanes`
is what the port's lanes deliver in the count window that begins there, part of which the slot's containers carry (R233, R234, R240, R269;
assumption 90). A tributary group has no client of its own (R264). Assumption 41. -/
def execRateControl (trib : Bool) (index slot : Nat) (lanes : List ClientFeed) (s : State) : Result :=
  let xs := s.tx.txs.map (fun e => e.1)
  if trib then
    let c := tribOf index s
    let (landing, out) := chooseBits slot (tribTnom c.ttype) 16 1 (circuitUp c.lane s) lanes c.landing
    let s := modTrib index (fun c => { c with landing := landing, chosen := keepChoice out c.chosen }) s
    .next (forEach (refreshTrib slot index) xs s)
  else if (groupOf index s).cfg.trib then .next s
  else
    let g := groupOf index s
    let (landing, out) := chooseBits slot (clientTnom g.cfg.ctype) 64 (clientLanes g.cfg.ctype) (circuitUp g.cfg.port s) lanes g.landing
    let s := modGroup index (fun g => { g with landing := landing, chosen := keepChoice out g.chosen }) s
    .next (forEach (fun i s => if (groupOf i s).bridged then forEach (refreshGroup slot i) xs s else s) (fedGroups index s) s)

end Sys2Proof.Machine
end

