-- ==== Sys2Proof/Machine/Launch.lean ====
section
/-! DEFINITION. LAUNCH: what each own grant of a slot sends, and the RANGING answers (R114 to R119, R157, R168 to R170, R176, R531,
R533). -/

namespace Sys2Proof.Machine

/-- A burst is planned on a transmitter with its key and its launch timing; its light and its counts follow at the locker check (R106, R169,
R178, R182). -/
def planBurst (x : Nat) (b : Burst) (key : BitVec 256) (edge : Int) (s : State) : State :=
  modTx x (fun t => { t with burst := some b, key := key, edge := edge }) s

/-- The launch timing of the bursts of a slot on a plane (R106). -/
def ownEdge (p slot : Nat) (s : State) : Int := launchSixteenth p slot (planeLead p s) s

/-- What was selected for a burst that is not sent as a PACKET burst goes back, and the tail due is discarded (R173, R176).
Assumption 40. -/
def dropSelected (x slot : Nat) (s : State) : State := discardDueTail x slot (returnSelection x s)

/-- An IDLE burst (R170). -/
def idleBurst (slot : Nat) (o : OwnGrant) (s : State) : Burst :=
  { type := 6, noTn := false, tn := s.join.tn.getD 0, x := o.x, wave := o.wave, mcast := false, dest := 30, keyEpoch := 0, seq := 0,
    slot := slot, payload := .idle }

/-- A grant that nothing fills: IDLE, but a dark own grant during a Curtain (R157, R531). -/
def planIdle (p slot : Nat) (o : OwnGrant) (s : State) : State :=
  let s := dropSelected o.x slot s
  if s.power.curtain.isSome then countDark p o.x s else planBurst o.x (idleBurst slot o s) 0 (ownEdge p slot s) s

/-- M and dest of a burst: those of its grant, and of an EXPRESS burst the far terminal of its group (R70, R142). -/
def burstDest (g : Grant) (s : State) : Nat := if g.kind = 2 then (expressFar g s).getD 0 else g.dest

/-- A burst that uses an IV (R70, R71, R356, R364). -/
def cipherBurst (type slot epoch seq : Nat) (o : OwnGrant) (p : Payload) (s : State) : Burst :=
  { type := type, noTn := false, tn := s.join.tn.getD 0, x := o.x, wave := o.wave, mcast := o.grant.mcast,
    dest := burstDest o.grant s, keyEpoch := epoch, seq := seq, slot := slot, payload := p }

/-- A unit with the cue status of now, when it is a report unit (R161). Assumption 85. -/
def freshUnit (s : State) (u : PayloadUnit) : PayloadUnit := if u.ukind = 5 then { u with data := freshReport u.data s } else u

/-- What an own grant sends that uses an IV: a type, its payload, and the machine after it is built; none when it is filled with IDLE
(R157). -/
def grantContent (p slot : Nat) (o : OwnGrant) (s : State) : Option (Nat × Payload × State) :=
  if o.grant.kind = 1 then
    match (txOf o.x s).sel with
    | none => none
    | some l =>
      if l.slot = slot ∧ l.packet then
        let (ci, co, rp, fill) := l.fixed.getD (headerFields l)
        some (1, .packet ci co rp fill (l.units.map (freshUnit s)), s)
      else none
  else if o.grant.kind = 2 then (expressPayload slot o.grant s).map (fun e => (2, e.1, e.2))
  else
    match s.power.curtain with
    | some c => some (5, .report c.message, s)
    | none => some (3, .report (reportUnit p slot s), s)

/-- An own grant whose burst needs an IV; the epoch of its key is at hand. -/
def planCipher (p slot type : Nat) (epoch : KeyEpoch) (o : OwnGrant) (pl : Payload) (s : State) : State :=
  match slotSequence slot s with
  | none => dropSelected o.x slot (countDark p o.x s)
  | some v =>
    let s := if type = 1 then s else dropSelected o.x slot s
    planBurst o.x (cipherBurst type slot epoch.num v o pl s) epoch.tx (ownEdge p slot s) s

/-- What an own grant that no stop prevents sends (R157). -/
def launchContent (p slot : Nat) (o : OwnGrant) (s : State) : State :=
  match grantKey o.grant s with
  | none => planIdle p slot o s
  | some k =>
    match epochFor k slot s with
    | none => planIdle p slot o (tellKeyCap p o.grant.dest s)
    | some e =>
      match grantContent p slot o s with
      | none => planIdle p slot o s
      | some (type, pl, s) => planCipher p slot type e o pl s

/-- One own grant at launch (R157). Assumption 38. -/
def launchGrant (own : List OwnGrant) (p slot : Nat) (s : State) (o : OwnGrant) : State :=
  match stopOf own p slot o s with
  | some why => dropSelected o.x slot (tellStop p o.x why s)
  | none => launchContent p slot o s

/-! ### RANGING answers (R114 to R125) -/

/-- The answers scheduled for a slot of a plane. -/
def dueAnswers (p slot : Nat) (s : State) : List Answer := s.join.answers.filter (fun a => a.plane == p && a.slot == slot)

/-- The kind field of an answer (R117). -/
def answerCode : AnswerKind → Nat
  | .discovery => 1
  | .identity => 2
  | .ranging => 3

/-- The bytes of the identity blob that a segment carries (R117). -/
def identityData (i : Nat) (s : State) : List Byte := (s.sec.identity.drop (6336 * i)).take 6336

/-- The RANGING burst of an answer (R115, R117, R119, R125). -/
def answerBurst (x : Nat) (a : Answer) (s : State) : Burst :=
  let own := if a.kind = .ranging then s.join.tn else none
  let data := if a.kind = .identity then identityData a.segIndex s else []
  { type := 4, noTn := a.kind != .ranging, tn := own.getD 0, x := x, wave := a.wave, mcast := false, dest := a.dest, keyEpoch := 0,
    seq := 0, slot := a.label
    payload := .ranging (answerCode a.kind) a.round a.delay a.segIndex a.segTotal s.serial (identityLen s) (idPart % 65536) (own.getD 0)
      (sfnOf a.label) (slotNoOf a.label) data }

/-- The launch timing of an answer: RT 0, or the coarse RT of an identity answer, and EqD 0 (R115). -/
def answerEdge (a : Answer) (s : State) : Int := launchSixteenth a.plane a.slot a.rt s

/-- An answer has what it sends: an identity answer needs the Strongroom's identity, which R379 can delay (R122). -/
def answerAtHand (a : Answer) (s : State) : Bool := a.kind != .identity || !s.sec.identity.isEmpty

/-- One answer at launch: it needs a quiet slot, and is counted as withheld without one; it goes out on the lowest lane-ready transmitter.
A contested plane sends nothing (R85, R114, R119, R124, R135). Assumption 38. -/
def launchAnswer (s : State) (a : Answer) : State :=
  let s := { s with join := { s.join with answers := s.join.answers.filter (fun b => b != a) } }
  if s.join.clash || s.power.curtain.isSome || !rootSends false s || (planeOf a.plane s).own == .contested || !answerAtHand a s then s
  else if (frozenGrant a.plane a.slot a.wave s).kind ≠ 4 then countPlane a.plane 0 s
  else
    match lowestReady a.plane s with
    | none => s
    | some x => planBurst x (answerBurst x a s) 0 (answerEdge a s) s

/-- When a slot is launched on a plane: as RT_p and EqD_p say, or for an answer as its own RT says (R106, R115). Assumption 38. -/
def launchTime (p slot : Nat) (s : State) : Int :=
  match dueAnswers p slot s with
  | [] => launchInstant p slot s
  | a :: _ => answerEdge a s / 512

/-! ### The plan of the next slot (R177) -/

/-- The wavelength that the transmitter is to have in a slot: that of its own grant that no stop prevents, and else park. Assumption 84. -/
def planOf (own : List OwnGrant) (p slot x : Nat) (s : State) : Nat :=
  match own.find? (fun o => o.x == x && (stopOf own p slot o s).isNone) with
  | some o => o.wave
  | none => 64

/-- The plan of a slot is fixed for a plane's transmitters when the slot before it starts. Assumption 84. -/
def fixPlans (p slot : Nat) (s : State) : State :=
  let own := ownGrants p slot s
  forEach (fun x s => modTx x (fun t => { t with plan := some (slot, planOf own p slot x s) }) s)
    ((planeTxs p).filter (fun x => (txOf x s).phase != .off)) s

/-- LAUNCH: at the launch instant of a slot on a plane the last burst has ended and what waits for the boundary takes effect; the tests of
R157 decide what each frozen own grant sends, quiet slots carry the answers due, and the plan of the next slot is fixed (R114, R157, R177,
R189). Assumption 38. -/
def execLaunch (slot plane : Nat) (s : State) : Result :=
  let s := advanceTo (launchTime plane slot s).toNat s
  let s := forEach (fun x s => txBoundary x (modTx x (fun t => { t with burst := none }) s)) (planeTxs plane) s
  let own := ownGrants plane slot s
  let s := own.foldl (launchGrant own plane slot) s
  let s := forEach (fun x s => if (txOf x s).burst.isNone then dropSelected x slot s else s) (planeTxs plane) s
  .next (fixPlans plane (slot + 1) ((dueAnswers plane slot s).foldl launchAnswer s))

end Sys2Proof.Machine
end

