-- ==== Sys2Proof/Machine/PortEvents.lean ====
section
/-! DEFINITION. The events of client ports: training, alignment, loss, faults and CREF (R37, R287, R288), and the frames that a port
receives (R289, R290). -/

namespace Sys2Proof.Machine

/-- T_TRAIN of a port (R287). -/
def execTTrain (port : Nat) (s : State) : Result :=
  match (portOf port s).tTrain with
  | none => .next s
  | some t =>
    let s := advanceTo t s
    let n := (portOf port s).trainFails + 1
    let s := modPort port (fun x => { x with trainFails := n, tTrain := some (s.clock.now + 3 * secCc) }) s
    .next (if n % 3 = 0 then raise 0x0803 (srcLane port) .minor 0 0 s else s)

/-- TRAINING_COMPLETE: every lane of the port reports training complete (R287). -/
def execTrainingComplete (port : Nat) (s : State) : Result :=
  if (portOf port s).phase ≠ .training then .next s
  else .next (modPort port (fun x => { x with phase := .aligning, trainFails := 0, tTrain := none }) s)

/-- LINK_UP: lock on every lane of an ALIGNING port; none reaches UP without CREF or with LOS (R37, R287). -/
def execLinkUp (port : Nat) (s : State) : Result :=
  let x := portOf port s
  if x.phase ≠ .aligning || !s.pins.cref || x.los ≠ 0 then .next s
  else .next (raise 0x0801 (srcLane port) .info 0 0 (modPort port (fun x => { x with phase := .up }) s))

/-- LINK_DOWN: LOS, loss of lock or a high symbol-error state of a port that is UP (R287, R288). -/
def execLinkDown (port : Nat) (s : State) : Result :=
  if (portOf port s).phase ≠ .up then .next s else .next (linkLost port s)

/-- REMOTE_FAULT: link fault signalling of a port that is UP: received remote fault and local fault, as they now stand. While either
holds the port sends no frames, and those that wait are dropped (R287, R288, R292). -/
def execRemoteFault (port : Nat) (rf lf : Bool) (s : State) : Result :=
  if (portOf port s).phase ≠ .up then .next s
  else
    let s := modPort port (fun x => { x with rf := rf, lf := lf }) s
    let s := holdIf rf 0x0804 (srcLane port) .minor 0 0 s
    .next (if rf || lf then flushPort port s else s)

/-- LANE_LOS: loss of signal begins or ends on a client lane; a port that is UP goes down (R287, R288). -/
def execLaneLos (lane : Nat) (present : Bool) (s : State) : Result :=
  match portOfLane lane s with
  | none => .next s
  | some p =>
    let bit := 2 ^ (lane - p)
    let los := (portOf p s).los
    let los' := if present then (if maskBit los (lane - p) then los else los + bit) else if maskBit los (lane - p) then los - bit else los
    let s := holdIf present 0x0805 (srcLane lane) .minor 0 0 (modPort p (fun x => { x with los := los' }) s)
    .next (if present && (portOf p s).phase == .up then linkLost p s else s)

/-- CREF_LOSS: every lane of an enabled port raises CREF_MISSING, and ports that are UP go down. Where the receiver of CREF is off, no port
is up and nothing is raised until it works again (R37, R55). -/
def execCrefLoss (s : State) : Result :=
  let s := { s with pins := { s.pins with cref := false } }
  let s := if crefSeen s then forEach tellCref (enabledPorts s) s else s
  .next (forEach (fun p s => if (portOf p s).phase = .up then linkLost p s else s) (enabledPorts s) s)

/-- CREF_RETURN (R37, R55). -/
def execCrefReturn (s : State) : Result :=
  let s := { s with pins := { s.pins with cref := true } }
  .next (if crefSeen s then forEach tellCref (enabledPorts s) s else s)

/-! ### The MAC (R289, R290, R406, R407) -/

/-- The FCS at the end of a frame is correct: the CRC-32 of R577 over the bytes before it, low byte first. -/
def fcsOk (data : List Byte) : Bool :=
  let n := data.length - 4
  4 ≤ data.length && data.drop n == bytesOfWord (crc32 (data.take n))

/-- The condition of R289 that a frame fails first, as its port counter. Assumption 24. -/
def macCheck (maxFrame : Nat) (data : List Byte) : Option Nat :=
  if !fcsOk data then some 2
  else if data.length < 64 then some 3
  else if maxFrame < data.length then some 4
  else if data.getD 12 0 = 0x88 ∧ data.getD 13 0 = 0x08 then some 5
  else none

/-- The receive timestamp of a frame whose timestamp point passed `back` core cycles ago, on a port with a timestamping channel
(R396, R406, R407). -/
def receiveStamp (port back : Nat) (s : State) : Option Nat :=
  match tsChanOf port s with
  | none => none
  | some i =>
    let ch := tabGet tsChannelReset s.time.tsPorts i
    let t := (s.clock.outTime : Int) - back * timeIncrement s.clock.rate -
      psUnits ((Config.pmaLatency (2 * (portOf port s).cfg.ptype) : Int) + ch.ingress)
    some (outNs t.toNat % 2 ^ 32)

/-- CLIENT_FRAME: a packet-mode port that is UP has received a whole frame, whose timestamp point passed `back` cycles ago. It is
dropped and counted under the first failing condition, or accepted; one that finds its pipeline's 64-frame FIFO full is dropped
(R289, R290). -/
def execClientFrame (port : Nat) (data : List Byte) (back : Nat) (s : State) : Result :=
  let x := portOf port s
  if !packetPort port s || x.phase ≠ .up then .next s
  else
    match macCheck x.cfg.maxFrame data with
    | some i => .next (countPort port i 1 s)
    | none =>
      let s := countPort port 1 data.length (countPort port 0 1 s)
      let i := port / 16
      if 64 ≤ (tabGet [] s.ports.fifos i).length then .next (countPort port 6 1 s)
      else .next (pushPipeline i ⟨port, data, receiveStamp port back s⟩ s)

end Sys2Proof.Machine
end

