-- ==== Sys2Proof/Machine/PortRows.lean ====
section
/-! DEFINITION. The port and classification commands 0x0801 to 0x0813 (R283 to R323). -/

namespace Sys2Proof.Machine

/-! ### Ports (R283 to R285, R320, R321) -/

/-- The configuration that a PORT_CONFIG request asks for. -/
def portConfigOf (req : List Word) : PortConfig :=
  let a := wordAt req 0
  let b := wordAt req 1
  { ptype := fieldOf a 8 3, circuit := bitOf a 11, iface := fieldOf a 12 2, rsfec := bitOf a 14, txPol := fieldOf b 0 8,
    rxPol := fieldOf b 8 8, maxFrame := if fieldOf b 16 14 = 0 then 10240 else fieldOf b 16 14 }

/-- Every field is in range for a port number (R321). -/
def portConfigOk (p : Nat) (c : PortConfig) : Bool :=
  let l := typeLanes c.ptype
  c.ptype ≤ 6 && c.iface ≤ 2 && p % l == 0 && p + l ≤ 256 && !(5 ≤ c.ptype && (!c.circuit || c.iface != 0)) &&
    !(c.rsfec && c.ptype != 5) && 1518 ≤ c.maxFrame && c.maxFrame ≤ 10240

/-- The configuration of a disabled port breaks R284: a shared lane, or two lane rates in one transmit group. -/
def laneConflict (p : Nat) (c : PortConfig) (s : State) : Bool :=
  (enabledPorts s).any (fun q =>
    let d := (portOf q s).cfg
    let l := typeLanes c.ptype
    let m := typeLanes d.ptype
    (p < q + m && q < p + l) ||
      (typeRate c.ptype != typeRate d.ptype && p / 8 ≤ (q + m - 1) / 8 && q / 8 ≤ (p + l - 1) / 8))

/-- A port is reconfigured: client AIS that a destroyed group left on its lanes ends (R263). -/
def endPortAis (p n : Nat) (s : State) : State :=
  { s with express := { s.express with aisLanes := s.express.aisLanes.filter (fun l => l < p || p + n ≤ l) } }

/-- PORT_CONFIG (R284, R285, R287, R320, R321). -/
def execPortConfig (src : Source) (tag : Nat) (req : List Word) (s : State) : Result :=
  let p := fieldOf (wordAt req 0) 0 8
  let c := portConfigOf req
  command src tag req ⟨2, pf0Only src, false⟩ (fun s =>
    let x := portOf p s
    if !portConfigOk p c then refuse .badArg s
    else if x.cfg.ptype = 0 then
      if c.ptype = 0 then okay [] s
      else if laneConflict p c s then refuse .conflict s
      else okay [] (endPortAis p (typeLanes c.ptype) (startPort p (modPort p (fun x => { x with cfg := c, los := 0 }) s)))
    else if c.ptype = 0 then
      if x.carriers ≠ 0 then refuse .conflict s else okay [] (endPortAis p (typeLanes x.cfg.ptype) (disablePort p s))
    else if (c.ptype, c.circuit, c.iface) ≠ (x.cfg.ptype, x.cfg.circuit, x.cfg.iface) then refuse .conflict s
    else okay [] (endPortAis p (typeLanes c.ptype) (modPort p (fun x => { x with cfg := c }) s))) s

/-- The number of a port state (R320). -/
def portCode : PortPhase → Nat
  | .disabled => 0
  | .training => 1
  | .aligning => 2
  | .up => 3
  | .powerDown => 4

/-- PORT_STATUS (R320, R321). Assumption 37. -/
def execPortStatus (src : Source) (tag : Nat) (req : List Word) (s : State) : Result :=
  let p := fieldOf (wordAt req 0) 0 8
  command src tag req ⟨1, true, false⟩ (fun s =>
    let x := portOf p s
    if !portEnabled p s then refuse .badArg s
    else okay [pack [(0, portCode x.phase), (3, bitNat x.lf), (4, bitNat x.rf), (8, x.los), (16, min 255 x.trainFails)]] s) s

/-- PORT_COUNTERS (R319 to R321). -/
def execPortCounters (src : Source) (tag : Nat) (req : List Word) (s : State) : Result :=
  let p := fieldOf (wordAt req 0) 0 8
  let clear := bitOf (wordAt req 0) 16
  command src tag req ⟨1, readOrPf0 src clear, false⟩ (fun s =>
    if !portEnabled p s then refuse .badArg s
    else
      okay (counterWords 26 (portOf p s).counters)
        (cleared clear (modPort p (fun x => { x with counters := List.replicate 13 0 })) s)) s

/-! ### Graphs and rule sets (R296 to R302, R316 to R318) -/

/-- Rewrites the ports part. -/
def modPorts (g : Ports → Ports) (s : State) : State := { s with ports := g s.ports }

/-- Sets a graph image, and a rule set. -/
def setGraph (i : Nat) (g : GraphImage) (s : State) : State :=
  modPorts (fun p => { p with graphs := tabSet graphImageReset p.graphs i g }) s
def setRuleSet (i : Nat) (r : RuleSet) (s : State) : State :=
  modPorts (fun p => { p with ruleSets := tabSet ruleSetReset p.ruleSets i r }) s

/-- GRAPH_CREATE: every node unwritten (R320, R321). -/
def execGraphCreate (src : Source) (tag : Nat) (req : List Word) (s : State) : Result :=
  command src tag req ⟨0, pf0Only src, false⟩ (fun s =>
    match nextIndex .parseGraph s with
    | none => refuse .noResource s
    | some i =>
      let s := openChan .parseGraph i (setGraph i graphImageReset s)
      okay [handleOf 0x06 i s] s) s

/-- NODE_WRITE (R297, R318, R320, R321). -/
def execNodeWrite (src : Source) (tag : Nat) (req : List Word) (s : State) : Result :=
  let n := fieldOf (wordAt req 1) 0 8
  let record := (req.drop 2).take 32
  command src tag req ⟨34, pf0Only src, false⟩ (fun s =>
    withHandle .parseGraph (wordAt req 0) s (fun i =>
      let g := tabGet graphImageReset s.ports.graphs i
      if !recordFits record then refuse .badArg s
      else if g.locked then refuse .conflict s
      else okay [] (setGraph i { g with nodes := tabSet [] g.nodes n record } s))) s

/-- RULESET_CREATE: no rule in use, actions as the built-in set (R320, R321). -/
def execRulesetCreate (src : Source) (tag : Nat) (req : List Word) (s : State) : Result :=
  command src tag req ⟨0, pf0Only src, false⟩ (fun s =>
    match nextIndex .ruleSet s with
    | none => refuse .noResource s
    | some i =>
      let s := openChan .ruleSet i (setRuleSet i ruleSetReset s)
      okay [handleOf 0x07 i s] s) s

/-- The policer word of a rule names no live meter (R321). -/
def policerBad (h : Word) (s : State) : Bool := h != 0 && (policerOf h s).isNone

/-- RULE_WRITE (R300, R318, R320, R321). -/
def execRuleWrite (src : Source) (tag : Nat) (req : List Word) (s : State) : Result :=
  let n := fieldOf (wordAt req 1) 0 12
  let record := (req.drop 2).take 40
  command src tag req ⟨42, pf0Only src, false⟩ (fun s =>
    withHandle .ruleSet (wordAt req 0) s (fun i =>
      let r := ruleSetOf i s
      if fieldOf (wordAt record 37) 8 2 = 3 || policerBad (wordAt record 38) s then refuse .badArg s
      else if r.locked then refuse .conflict s
      else okay [] (setRuleSet i { r with rules := tabSet [] r.rules n record } s))) s

/-- The index that a handle or the null handle names (R13, R14). -/
def handleOrNull (t : ChanType) (h : Word) (s : State) : Except Status (Option Nat) :=
  if h = 0 then .ok none
  else
    match checkHandle t h s with
    | .ok i => .ok (some i)
    | .error e => .error e

/-- Request words of RULESET_PARAM by what it sets (R320). -/
def paramWords (what : Nat) : Nat :=
  match what with
  | 0 => 5
  | 1 => 4
  | 2 => 20
  | _ => 2

/-- The parameter of a request is in range (R321). -/
def paramOk (what ix : Nat) (req : List Word) : Bool :=
  match what with
  | 0 => fieldOf (wordAt req 2) 8 2 != 3
  | 1 => fieldOf (wordAt req 2) 0 10 ≤ 560
  | 2 => ix < 8
  | _ => false

/-- A rule set with a parameter written (R320). -/
def writeParam (what ix : Nat) (req : List Word) (r : RuleSet) : RuleSet :=
  match what with
  | 0 => { r with action := wordAt req 2, policer := wordAt req 3, missSlow := bitOf (wordAt req 4) 0 }
  | 1 =>
    let w := wordAt req 3
    { r with comparators := tabSet comparatorReset r.comparators ix ⟨fieldOf (wordAt req 2) 0 10, fieldOf w 0 16, fieldOf w 16 16⟩ }
  | _ => { r with profiles := tabSet 0 r.profiles ix (vectorOfWords ((req.drop 2).take 18)) }

/-- RULESET_PARAM; the policer of the actions is a handle under R14 (R301, R308, R318, R320, R321). -/
def execRulesetParam (src : Source) (tag : Nat) (req : List Word) (s : State) : Result :=
  let what := fieldOf (wordAt req 1) 0 2
  let ix := fieldOf (wordAt req 1) 8 6
  command src tag req ⟨paramWords what, pf0Only src, false⟩ (fun s =>
    withHandle .ruleSet (wordAt req 0) s (fun i =>
      let r := ruleSetOf i s
      match (if what = 0 then handleOrNull .meter (wordAt req 3) s else .ok none) with
      | .error st => refuse st s
      | .ok _ =>
        if !paramOk what ix req then refuse .badArg s
        else if r.locked then refuse .conflict s
        else okay [] (setRuleSet i (writeParam what ix req r) s))) s

/-- A rule set or graph is sealed when it is first activated, and its use of L4 is fixed (R302, R318). -/
def sealRuleSet (i : Option Nat) (s : State) : State :=
  match i with
  | none => s
  | some i =>
    let r := ruleSetOf i s
    if r.locked then s else setRuleSet i { r with locked := true, usesL4 := usesL4 r } s
def sealGraph (i : Option Nat) (s : State) : State :=
  match i with
  | none => s
  | some i => setGraph i { tabGet graphImageReset s.ports.graphs i with locked := true } s

/-- CLASSIFY_ACTIVATE (R316 to R318, R320, R321). Assumption 51. -/
def execClassifyActivate (src : Source) (tag : Nat) (req : List Word) (s : State) : Result :=
  command src tag req ⟨2, pf0Only src, false⟩ (fun s =>
    match handleOrNull .parseGraph (wordAt req 0) s, handleOrNull .ruleSet (wordAt req 1) s with
    | .error e, _ => refuse e s
    | _, .error e => refuse e s
    | .ok g, .ok r =>
      if (graphNodes g s 0).isNone then refuse .badArg s
      else if (olderEpoch s).isSome then refuse .busy s
      else
        let s := sealGraph g (sealRuleSet r s)
        let n := (s.ports.epoch + 1) % 65536
        let s := modPorts (fun p => { p with older := some (p.graph, p.ruleSet), drainBy := s.clock.now + 2 * usCc, graph := g, ruleSet := r, epoch := n }) s
        okay [wordOf n] (raise 0x0807 1923 .info (wordOf n) 0 s)) s

/-- CLASSIFY_DESTROY (R318, R320, R321). -/
def execClassifyDestroy (src : Source) (tag : Nat) (req : List Word) (s : State) : Result :=
  let h := wordAt req 0
  command src tag req ⟨1, pf0Only src, false⟩ (fun s =>
    if fieldOf h 26 6 = 0x06 then
      withHandle .parseGraph h s (fun i =>
        if s.ports.graph = some i then refuse .conflict s
        else if ((olderEpoch s).map (fun o => o.1)) = some (some i) then refuse .busy s
        else okay [] (closeChan .parseGraph i (setGraph i graphImageReset s)))
    else
      withHandle .ruleSet h s (fun i =>
        if s.ports.ruleSet = some i then refuse .conflict s
        else if ((olderEpoch s).map (fun o => o.2)) = some (some i) then refuse .busy s
        else okay [] (closeChan .ruleSet i (setRuleSet i ruleSetReset s)))) s

/-! ### The destination table (R305 to R307, R320, R321) -/

/-- The lookup key of two request words, when its other bits are 0 and its VLAN identifier is not 4,095. -/
def fibKey (lo hi : Word) : Option Nat :=
  if bitOf hi 31 then
    if fieldOf lo 20 12 ≠ 0 ∨ fieldOf hi 0 31 ≠ 0 then none else some (mplsKey (fieldOf lo 0 20))
  else if fieldOf hi 28 3 ≠ 0 ∨ fieldOf hi 16 12 = 4095 then none
  else some (etherKey (fieldOf hi 0 16 * 2 ^ 32 + lo.toNat) (fieldOf hi 16 12))

/-- Entries in the stash. -/
def stashed (s : State) : Nat := (s.ports.fib.filter (fun e => match e.2 with | some (_, b) => b | none => false)).length

/-- Where a new key goes (R305): into the ways, into the stash, or nowhere. Which places are candidates of a key is not stated, so
with four or more entries in the ways a free value decides whether a place or a path is found (assumption 23). -/
def placeKey (s : State) : Option Bool × State :=
  if s.ports.fib.length - stashed s < 4 then (some false, s)
  else
    let (v, s) := takeFree s
    if v.getLsbD 0 then (some false, s)
    else if stashed s < 64 then (some true, s)
    else (none, s)

/-- Sets an entry. -/
def setFib (k : Nat) (e : Option (Nat × Bool)) (s : State) : State := modPorts (fun p => { p with fib := tabSet none p.fib k e }) s

/-- FIB_INSERT (R305, R320, R321). -/
def execFibInsert (src : Source) (tag : Nat) (req : List Word) (s : State) : Result :=
  let r := fieldOf (wordAt req 2) 0 23
  command src tag req ⟨3, pf0Only src, false⟩ (fun s =>
    match fibKey (wordAt req 0) (wordAt req 1) with
    | none => refuse .badArg s
    | some k =>
      if r / 1024 % 2 = 0 ∧ 29 < r % 1024 then refuse .badArg s
      else
        match tabGet none s.ports.fib k with
        | some (_, b) => okay [] (lands (setFib k (some (r, b)) s))
        | none =>
          if 1048576 ≤ s.ports.fib.length then refuse .noResource s
          else
            match placeKey s with
            | (some b, s) => okay [] (lands (setFib k (some (r, b)) s))
            | (none, s) => refuse .noResource s) s

/-- After a place has come free, a stash entry that has it as a candidate moves into it; which one, if any, is a free value (R321;
assumption 23). -/
def drainStash (s : State) : State :=
  match s.ports.fib.filter (fun e => match e.2 with | some (_, b) => b | none => false) with
  | [] => s
  | es =>
    let (v, s) := takeFree s
    match es.drop (v.toNat % (es.length + 1)) with
    | (k, some (r, _)) :: _ => setFib k (some (r, false)) s
    | _ => s

/-- FIB_DELETE (R320, R321). -/
def execFibDelete (src : Source) (tag : Nat) (req : List Word) (s : State) : Result :=
  command src tag req ⟨2, pf0Only src, false⟩ (fun s =>
    match fibKey (wordAt req 0) (wordAt req 1) with
    | none => refuse .badArg s
    | some k =>
      match tabGet none s.ports.fib k with
      | none => okay [] s
      | some (_, true) => okay [] (lands (setFib k none s))
      | some (_, false) => okay [] (lands (drainStash (setFib k none s)))) s

/-- FIB_READ: a key that no insert could hold is absent (R320, R321). -/
def execFibRead (src : Source) (tag : Nat) (req : List Word) (s : State) : Result :=
  command src tag req ⟨2, true, false⟩ (fun s =>
    let r := (fibKey (wordAt req 0) (wordAt req 1)).bind (fun k => fibGet k s)
    okay [wordOf (r.getD 0), wordOf (bitNat r.isSome), wordOf s.ports.fib.length] s) s

/-! ### Spreading, slow path and counters -/

/-- The plane of entry `i` of an INDIRECTION_WRITE request (R320). -/
def planeNibble (req : List Word) (i : Nat) : Nat := fieldOf (wordAt req (1 + i / 8)) (4 * (i % 8)) 4

/-- Writes `n` entries of an indirection table from `first` on. -/
def writeIndirection (req : List Word) (t first : Nat) : Nat → Tab (Option Nat) → Tab (Option Nat)
  | 0, x => x
  | n + 1, x =>
    let p := planeNibble req n
    let i := first + n
    writeIndirection req t first n (tabSet none x (256 * t + i) (if p = i % 16 then none else some p))

/-- INDIRECTION_WRITE (R309, R310, R320, R321). -/
def execIndirectionWrite (src : Source) (tag : Nat) (req : List Word) (s : State) : Result :=
  let t := fieldOf (wordAt req 0) 0 5
  let first := fieldOf (wordAt req 0) 8 8
  let count := fieldOf (wordAt req 0) 16 9
  command src tag req ⟨1 + (min count 256 + 7) / 8, pf0Only src, false⟩ (fun s =>
    if 30 < t ∨ count = 0 ∨ 256 < first + count then refuse .badArg s
    else okay [] (modPorts (fun p => { p with indirection := writeIndirection req t first count p.indirection }) s)) s

/-- SLOW_PATH_CONFIG: the bucket is refilled (R315, R320, R321). -/
def execSlowPathConfig (src : Source) (tag : Nat) (req : List Word) (s : State) : Result :=
  let rate := fieldOf (wordAt req 0) 0 10
  let burst := fieldOf (wordAt req 1) 0 25
  command src tag req ⟨2, pf0Only src, false⟩ (fun s =>
    if 1000 < rate ∨ burst < 10240 ∨ 16777216 < burst then refuse .badArg s
    else okay [] (modPorts (fun p => { p with slow := ⟨rate, burst, burst * 140, s.clock.now⟩ }) s)) s

/-- CLASSIFY_COUNTERS (R319 to R321). -/
def execClassifyCounters (src : Source) (tag : Nat) (req : List Word) (s : State) : Result :=
  let clear := bitOf (wordAt req 0) 0
  command src tag req ⟨1, readOrPf0 src clear, false⟩ (fun s =>
    okay (counterWords 34 s.ports.counters)
      (cleared clear (modPorts (fun p => { p with counters := List.replicate 17 0 })) s)) s

/-! ### Flow bindings (R312, R313, R322, R323) -/

/-- Sets a binding. -/
def setBinding (i : Nat) (b : FlowBinding) (s : State) : State :=
  modPorts (fun p => { p with bindings := tabSet flowBindingReset p.bindings i b }) s

/-- FLOW_BIND_CREATE. -/
def execFlowBindCreate (src : Source) (tag : Nat) (req : List Word) (s : State) : Result :=
  let t := fieldOf (wordAt req 0) 0 5
  let plane := fieldOf (wordAt req 0) 8 4
  let h := (wordAt req 1).toNat
  command src tag req ⟨2, pf0Only src, false⟩ (fun s =>
    if 30 < t then refuse .badArg s
    else if (bindingOf t h s).isSome then refuse .conflict s
    else
      match nextIndex .flowBinding s with
      | none => refuse .noResource s
      | some i =>
        let s := openChan .flowBinding i (setBinding i ⟨t, plane, h, 0⟩ s)
        okay [handleOf 0x03 i s] (lands s)) s

/-- FLOW_BIND_DESTROY. -/
def execFlowBindDestroy (src : Source) (tag : Nat) (req : List Word) (s : State) : Result :=
  command src tag req ⟨1, pf0Only src, false⟩ (fun s =>
    withHandle .flowBinding (wordAt req 0) s (fun i =>
      okay [] (lands (closeChan .flowBinding i (setBinding i flowBindingReset s))))) s

/-- FLOW_BIND_STATUS. -/
def execFlowBindStatus (src : Source) (tag : Nat) (req : List Word) (s : State) : Result :=
  let clear := bitOf (wordAt req 1) 0
  command src tag req ⟨2, readOrPf0 src clear, false⟩ (fun s =>
    withHandle .flowBinding (wordAt req 0) s (fun i =>
      let b := tabGet flowBindingReset s.ports.bindings i
      let away := (planeOf b.plane s).phase != .active
      okay [pack [(0, b.table), (8, b.plane), (16, bitNat away)], wordOf b.hash, lowWord b.frames, highWord b.frames]
        (cleared clear (setBinding i { b with frames := 0 }) s))) s

end Sys2Proof.Machine
end

