-- ==== Sys2Proof/Machine/SenseEvents.lean ====
section
/-! DEFINITION. The events of the Stagehand island: outputs of the chain, the RC oscillator, fallback, the wait of its core, and the
console (R490 to R509). -/

namespace Sys2Proof.Machine

/-- The end of an output: a dwell that ends moves the multiplexer on, but an OPEN last sample of an input that is not in fault extends
it by one output, up to twice; configuration applies at a switch (R495, R504, R512). -/
def endOutput (isOpen : Bool) (s : State) : State :=
  let c := s.island.chain
  if 1 < c.left then modChain (fun c => { c with left := c.left - 1 }) s
  else if isOpen && !(inputOf c.input s).fault && c.extended < 2 then
    modChain (fun c => { c with left := 1, extended := c.extended + 1 }) s
  else
    let cfg := s.island.cfg
    modIsland (fun x => { x with
      inForce := cfg, chain := switchTo (nextInput cfg.counts ((c.input + 1) % 16)) cfg.counts x.chain }) s

/-- The chain starts (R495, R502). -/
def startChain (s : State) : State :=
  if s.island.chain.started then s
  else
    let cfg := s.island.cfg
    modIsland (fun x => { x with
      inForce := cfg, chain := { switchTo (nextInput cfg.counts 0) cfg.counts x.chain with started := true } }) s

/-- One output of the chain at a grid instant of a time source: the modulator's bits pass the filters, a change of source and a step
mark outputs UNSETTLED, and the sample is formed and delivered (R496 to R504). Assumption 56. -/
def chainOutput (time : Nat) (island : Bool) (bits : List Bool) (leads : Nat) (overload : Bool) (s : State) : State :=
  let c := s.island.chain
  let i := c.input
  let c := if island == c.island then c else { c with island := island, unsettled := 6 }
  let before := if c.since = 0 then none else c.hist.head?
  let (ys, c) := chainBits bits c
  let c := if anyStep i (s.island.inForce.steps.getD i 0) before ys then { c with unsettled := 6 } else c
  let (lo, hi) := senseRange i
  let v := Config.senseScale i (resample c)
  let v := if overload then (if lo + hi ≤ 2 * v then hi else lo) else clampInt lo hi v
  let u := decide (c.unsettled ≠ 0)
  let w := sampleWord time i u (leads != 0) overload island v
  let s := modChain (fun _ => { c with
    unsettled := c.unsettled - 1, pos := (c.pos + posStep c) % 2 ^ 32, lastOut := some s.clock.now }) s
  deliverSample i w u overload leads s

/-- SENSE_OUTPUT: the next grid instant. `bits` left the modulator since the previous one, `leads` are those outside their window in
the open-wire check, and `overload` says that the modulator was overloaded (R497 to R506). Assumption 56. -/
def execSenseOutput (bits : List Bool) (leads : Nat) (overload : Bool) (s : State) : Result :=
  if !chainOn s then .next (modChain (fun c => { c with started := false }) s)
  else
    let s := startChain s
    let (t, time) := nextGrid s
    let island := !gridIsOutput s
    let s := advanceTo t s
    let leads := leads % 16
    let s := chainOutput time island bits leads overload s
    .next (applySwap time (endOutput (leads != 0) s))

/-- RC_PERIOD_CAPTURE: `elapsed` ns have passed over 1,024 samples at 8 kHz. Beyond 5 % of 125 µs P stays and RC_RANGE is raised; it
clears after 8 measurements in a row within the limit (R498). -/
def execRcPeriodCapture (elapsed : Nat) (s : State) : Result :=
  if 6400000 < ((elapsed : Int) - 128000000).natAbs then
    .next (hold 0x0E06 1991 .minor 0 0 (modChain (fun c => { c with rcRun := 0 }) s))
  else
    let s := modChain (fun c => { c with
      period := ((c.period : Int) + ((elapsed * 2 ^ 22 : Nat) - (c.period : Int)) / 8).toNat, rcRun := min 8 (c.rcRun + 1) }) s
    .next (if 8 ≤ s.island.chain.rcRun then clear 0x0E06 1991 0 0 s else s)

/-- SENSE_FALLBACK: 2 s have passed after the TIME of an input's last good sample; its consumer falls back (R505). Fallback takes the
die sensors or the last good value of input 5 from then on, where the consumer reads them. -/
def execSenseFallback (input : Nat) (s : State) : Result :=
  match (inputOf input s).goodAt with
  | none => .next s
  | some t =>
    if input < 2 || 6 < input || fallenBack (input - 1) s then .next s
    else
      let s := advanceTo (t + 2 * secCc) s
      let s := modIsland (fun x => { x with fallback := x.fallback.set (input - 2) true }) s
      .next (hold 0x0E03 (srcInput input) .major 0 (wordOf (input - 1)) s)

/-! ### The wait of the island core (R490 to R492) -/

/-- ISLAND_WAIT: the core requests LOW in STANDBY with standby_scan 0, NORMAL otherwise, and executes its wait; with a wake pending it
does not wait, and MODE stays NORMAL. Assumption 57. -/
def execIslandWait (s : State) : Result :=
  let low := s.power.state == .standby && !s.island.cfg.scan
  if s.island.wakePending || s.power.heldWake.isSome then
    .next (modIsland (fun x => { x with wakePending := false, modeReq := bitNat low }) s)
  else .next (modIsland (fun x => { x with modeReq := bitNat low, waiting := true, low := low }) s)

/-- The diagnostic monitor takes a character: a line ended by a carriage return is answered, and nothing else changes (R549). -/
def monitorTake (s : State) (b : Byte) : State :=
  let c := s.island.console
  if b = 13 then
    let text := Config.monitorText c.line s.free
    modIsland (fun x => { x with console := { c with line := [], answer := some (s.clock.now, text) } }) { s with free := s.free + 1 }
  else modIsland (fun x => { x with console := { c with line := c.line ++ [b] } }) s

/-- While the island core runs, the monitor takes what the console's FIFO holds (R507, R549). -/
def drainConsole (s : State) : State :=
  if s.island.waiting then s
  else s.island.console.fifo.foldl monitorTake (modIsland (fun x => { x with console := { x.console with fifo := [] } }) s)

/-- The regulator returns to NORMAL and the core resumes (R492). Assumption 57. -/
def wakeIsland (s : State) : State :=
  if s.island.waiting then drainConsole (modIsland (fun x => { x with waiting := false, low := false }) s)
  else modIsland (fun x => { x with wakePending := true }) s

/-- ISLAND_WAKE (R492). -/
def execIslandWake (s : State) : Result := .next (wakeIsland s)

/-- SMBUS_ADDRESS_MATCH: the module's own address wakes the island, which holds SMB_CLK low until it is in NORMAL; another address is not
the module's (R44, R492). -/
def execSmbusAddressMatch (address : Nat) (s : State) : Result :=
  if address = smbusAddress s then .next (wakeIsland s) else .next s

/-! ### The console (R507, R549) -/

/-- Counts on the console: characters, false starts, framing errors, breaks, overruns (R510). Assumption 58. -/
def countConsole (k : Nat) (c : Console) : Console := { c with counters := c.counters.modify k (fun n => satAdd 32 n 1) }

/-- The lineMajority of three samples from tick `t` on. -/
def lineMajority (xs : List Bool) (t : Nat) : Bool :=
  decide (2 ≤ bitNat (xs.getD t true) + bitNat (xs.getD (t + 1) true) + bitNat (xs.getD (t + 2) true))

/-- A character reaches the 64-byte FIFO, or is an overrun; the monitor takes it from there (R507). Assumption 58. -/
def takeCharacter (b : Byte) (s : State) : State :=
  let c := countConsole 0 s.island.console
  if 64 ≤ c.fifo.length then modIsland (fun x => { x with console := countConsole 4 c }) s
  else drainConsole (modIsland (fun x => { x with console := { c with fifo := c.fifo ++ [b] } }) s)

/-- UART_CHARACTER: `samples` are the line's levels at ticks counted from 0 at the detected start, sixteen to a bit (R507).
Assumption 58. -/
def execUartCharacter (samples : List Bool) (s : State) : Result :=
  let put := fun c => Host.Outcome.next (modIsland (fun x => { x with console := c }) s)
  let c := s.island.console
  if c.inBreak || s.island.low then .next s
  else if lineMajority samples 7 then put (countConsole 1 c)
  else
    let bits := (List.range 8).map (fun k => lineMajority samples (16 * (k + 1) + 7))
    let b : Byte := BitVec.ofNat 8 (maskOf (fun k => bits.getD k false) 8)
    if lineMajority samples 151 then .next (takeCharacter b s)
    else if bits.any id then put (countConsole 2 c)
    else put { countConsole 3 (countConsole 2 c) with inBreak := true }

/-- UART_BREAK_END: the line reads 1 and the receiver arms (R507). -/
def execUartBreakEnd (s : State) : Result := .next (modIsland (fun x => { x with console := { x.console with inBreak := false } }) s)

end Sys2Proof.Machine
end

