-- ==== Sys2Proof/Machine/PowerEvents.lean ====
section
/-! DEFINITION. The events of power states, heat and the HOLD store (R46, R48, R514 to R529). -/

namespace Sys2Proof.Machine

/-! ### Wakes (R48, R516) -/

/-- A wake: in STANDBY it starts the power-up or is held, in DORMANT it leads to wake_target, and elsewhere, and while a transition runs, it
is ignored (R48, R516). Assumption 60. -/
def wake (kind : Nat) (s : State) : State :=
  match s.power.state with
  | .standby => wakeStandby kind s
  | .dormant =>
    if s.power.transition.isSome then s
    else
      let s := modPower (fun p => { p with lastWake := kind }) s
      if s.power.cfg.wakeTarget = 2 then s else beginTransition s.power.cfg.wakeTarget s
  | _ => s

/-- WAKE_N (R48, R492). -/
def execWakeN (s : State) : Result :=
  match s.power.state with
  | .standby => .next (wake 1 (wakeIsland s))
  | .dormant => .next (wake 1 (wakeIsland s))
  | _ => .next s

/-- ISLAND_TIMER_WAKE: wake_after has passed (R516). -/
def execIslandTimerWake (s : State) : Result :=
  match s.power.wakeAt with
  | none => .next s
  | some t => .next (wake 3 (wakeIsland (modPower (fun p => { p with wakeAt := none }) (advanceTo t s))))

/-! ### Triggers (R46, R529) -/

/-- VIN_FAIL: VIN below 38 V (R529). -/
def execVinFail (s : State) : Result :=
  .next (trigger 1 (modPower (fun p => { p with vin := false, vinGood := false, store := { p.store with charging := false } }) s))

/-- PWRFAIL_N low for 100 ns (R46). -/
def execPwrfailN (s : State) : Result :=
  .next (trigger 2 (modPower (fun p => { p with vinGood := false }) { s with pins := { s.pins with pwrfailN := false } }))

/-- AUX is gone: it is a trigger, but in STANDBY, where AUX alone holds the module, the module is without power: a power-up that runs ends
and no pad holds a level (R41, R56, R514). -/
def auxGone (s : State) : State :=
  let s := modPower (fun p => { p with aux := false }) s
  if s.power.state != .standby then trigger 4 s
  else
    let s := if s.start.vinGoodAt.isSome || s.start.railsUp then enterStandby s else s
    { s with pins := { s.pins with retained := false, pcieRetained := false } }

/-- AUX_LOSS: AUX below 2.9 V while VIN is present (R529). -/
def execAuxLoss (s : State) : Result := .next (auxGone s)

/-- LOSS_OF_AUX: with VIN present it is a trigger; without VIN the module loses all power, and every pad its retention (R41, R56,
R540). -/
def execLossOfAux (s : State) : Result :=
  if s.power.vin then .next (auxGone s)
  else .next { modPower (fun p => { p with aux := false }) s with pins := { s.pins with retained := false, pcieRetained := false } }

/-! ### Transitions (R514, R515) -/

/-- CORE_WAIT: a Zordin core executes its wait instruction (R492, R515). -/
def execCoreWait (core : Nat) (s : State) : Result :=
  .next { s with zordin := { s.zordin with sched := { s.zordin.sched with
    cores := s.zordin.sched.cores.modify core (fun c => { c with waiting := true }) } } }

/-- The commands of a source that are still outstanding end with ABORTED (R515). -/
def abortOutstanding (src : Source) : List Outstanding → State → State
  | [], s => s
  | o :: os, s => abortOutstanding src os (respond src o.tag .aborted [] s)

/-- CORE_POWER_OFF: on the way to STANDBY the cores lose power once all wait, and no later than 10 ms after the transition began.
POWER_STATE has its final response first; every other command ends with ABORTED (R515, R538). -/
def execCorePowerOff (s : State) : Result :=
  match s.power.transition with
  | none => .next s
  | some t =>
    if t.target != 3 || !s.start.running then .next s
    else
      let s := if s.zordin.sched.cores.all (fun c => c.waiting) then s else advanceTo (t.since + 10 * msCc) s
      let s := endLongs (fun k => k == .powerState) .ok [3] s
      let s := endLongs (fun _ => true) .aborted [] s
      let s := abortOutstanding .pf0 s.zordin.pf0.outstanding s
      let s := abortOutstanding .pf1 s.zordin.pf1.outstanding s
      let s := abortOutstanding .sideband s.zordin.sb.outstanding s
      .next { s with start := { s.start with running := false }, zordin := { s.zordin with sched := schedulerReset } }

/-- A target is reached: the state is entered, and what it powers follows (R513, R514). Assumption 60. -/
def reachTarget (target : Nat) (s : State) : State :=
  let s := modPower (fun p => { p with transition := none }) s
  match target with
  | 0 => resumeRun (powerCueLanes (openForIsland 0 (enterPower .run s)))
  | 1 => powerCueLanes (openForIsland 1 (enterPower .quiet s))
  | 2 =>
    let s := emptyQueues (countPower 6 (framesHeld s) s)
    let s := modStart (fun u => { u with hbm := stacksOff u.hbm }) s
    let s := modPower (fun p =>
      { p with wakeAt := if p.cfg.wakeAfter = 0 then none else some (s.clock.now + p.cfg.wakeAfter * secCc) }) s
    powerCueLanes (enterPower .dormant s)
  | _ => enterStandby s

/-- POWER_TRANSITION_DONE: the planes are HELD, the gates closed or given up, the cores stopped or started as the target asks; the target is
reached and POWER_STATE completes (R514, R515). -/
def execPowerTransitionDone (s : State) : Result :=
  match s.power.transition with
  | none => .next s
  | some t =>
    if s.power.state = .standby then
      if !s.start.running then .next s
      else if t.target = 0 then .next (endLongs (fun k => k == .powerState) .ok [0] (reachTarget 0 s))
      else .next (beginTransition t.target (modPower (fun p => { p with state := .run }) s))
    else
      let s := holdPlanes s
      let s := if t.gaveUp || t.target = 3 then s else closeForIsland (targetGates t.target s) s
      if s.power.transition.any (fun t => !t.waiting.isEmpty) || (t.target == 3 && s.start.running) then .next s
      else .next (endLongs (fun k => k == .powerState) .ok [wordOf t.target] (reachTarget t.target s))

/-- Tells each gate for which the wait is given up (R515). -/
def tellDeferred : List Nat → State → State
  | [], s => s
  | g :: gs, s => tellDeferred gs (raise 0x0F02 1984 .minor 0 (wordOf g) s)

/-- POWER_DEFERRED: 100 ms have passed; the transition completes with the gates as they stand (R515). -/
def execPowerDeferred (s : State) : Result :=
  match s.power.transition with
  | none => .next s
  | some t =>
    if t.waiting.isEmpty then .next s
    else
      let s := tellDeferred t.waiting (advanceTo (t.since + 100 * msCc) s)
      .next (modPower (fun p => { p with transition := some { t with waiting := [], gaveUp := true } }) (countPower 7 1 s))

/-- POWER_STATE_TIMEOUT: the target is not reached within 10 s (R538). -/
def execPowerStateTimeout (s : State) : Result :=
  match s.power.transition with
  | none => .next s
  | some t => .next (endLongs (fun k => k == .powerState) .timeout [] (advanceTo (t.since + 10 * secCc) s))

/-! ### The thermal plant (R520 to R524) -/

/-- LASER_HEATER_FAULT: a heater stood at a limit for 1 s (R520). Assumption 64. -/
def execLaserHeaterFault (x : Nat) (s : State) : Result :=
  let s := modPower (fun p => { p with heaterFault := if p.heaterFault.contains x then p.heaterFault else p.heaterFault ++ [x] }) s
  .next (hold 0x0F09 1987 .minor 0 (wordOf x) s)

/-- LASER_HEATER_FAULT_CLEAR: 1 s with the loop settled; the event clears with the last heater (R520). -/
def execLaserHeaterFaultClear (x : Nat) (s : State) : Result :=
  let s := modPower (fun p => { p with heaterFault := p.heaterFault.filter (fun y => y != x) }) s
  .next (if s.power.heaterFault.isEmpty then clear 0x0F09 1987 0 (wordOf x) s else s)

/-- One demultiplexer loop. -/
def demuxOf (p : Nat) (s : State) : DemuxLoop := s.power.demux.getD p ⟨false, false⟩
def modDemux (p : Nat) (g : DemuxLoop → DemuxLoop) (s : State) : State := modPower (fun x => { x with demux := x.demux.modify p g }) s

/-- DEMUX_SETTLED: the loop of a plane has settled for the first time; plane_enable counts for it from then on (R130, R521). -/
def execDemuxSettled (plane : Nat) (s : State) : Result :=
  .next (tryWaitWindow plane (modDemux plane (fun _ => ⟨true, true⟩) s))

/-- DEMUX_UNSETTLED: an error beyond 0.3 K for 10 ms after the first settling (R521). Assumption 64. -/
def execDemuxUnsettled (plane : Nat) (s : State) : Result :=
  if !(demuxOf plane s).settledOnce then .next s
  else .next (hold 0x0F0A 1988 .major 0 (wordOf plane) (modDemux plane (fun d => { d with settled := false }) s))

/-- DEMUX_SETTLED_AGAIN: settled again for 2 s; the event clears with the last plane (R521). -/
def execDemuxSettledAgain (plane : Nat) (s : State) : Result :=
  let s := modDemux plane (fun d => { d with settled := d.settledOnce }) s
  .next (if s.power.demux.all (fun d => d.settled || !d.settledOnce) then clear 0x0F0A 1988 0 (wordOf plane) s else s)

/-- The coolant in use: a sensor that has fallen back is replaced by the cold-plate sensor `die` less 5 K (R505, R523). Assumption 64. -/
def useCoolant (die : Int) (s : State) : State :=
  let s := modPower (fun p => { p with
    inlet := if fallenBack 3 s then die - 5000 else p.inlet, outlet := if fallenBack 4 s then die - 5000 else p.outlet }) s
  watchCoolant s

/-- The instant at which a condition is to be raised or cleared, when one is due (R522). -/
def watchDue (k : Nat) (w : Watch) : Option Nat :=
  if w.held then w.falling.map (· + 10 * secCc) else w.rising.map (· + coolantRaise k)

/-- One condition at its instant. -/
def applyWatch (k : Nat) (s : State) : State :=
  let w := s.power.watches.getD k watchReset
  match watchDue k w with
  | none => s
  | some t =>
    if s.clock.now < t then s
    else
      let s := modPower (fun p => { p with watches := p.watches.set k { w with held := !w.held } }) (countThrottle s)
      holdIf (!w.held) (coolantEvent k) 1985 (coolantSeverity k) 0 0 s

/-- COOLANT_CONDITION: the condition of R522 that is due next is raised or cleared; `die` is the cold-plate sensor in 0.001 °C. -/
def execCoolantCondition (die : Int) (s : State) : Result :=
  let s := useCoolant die s
  match (s.power.watches.zipIdx.filterMap (fun e => watchDue e.2 e.1)).min? with
  | none => .next s
  | some t => .next (forEach applyWatch [0, 1, 2, 3] (advanceTo t s))

/-- New readings of the 60 junctions in 0.01 °C. Assumption 64. -/
def readJunctions (js : List Int) (s : State) : State := modPower (fun p => { p with junctions := js.take 60 }) (countThrottle s)

/-- JUNCTION_HIGH: a junction above 100 °C (R522). -/
def execJunctionHigh (readings : List Int) (s : State) : Result :=
  let s := readJunctions readings s
  let h := hottest s.power.junctions
  if h.1 ≤ 10000 then .next s
  else .next (hold 0x0F07 1986 .major 0 (wordOf h.2) (modPower (fun p => { p with junctionHigh := true }) s))

/-- JUNCTION_HIGH_CLEAR: every junction at 97 °C or below for 10 s (R522). -/
def execJunctionHighClear (readings : List Int) (s : State) : Result :=
  let s := readJunctions readings s
  if s.power.junctions.any (fun j => decide (9700 < j)) then .next s
  else .next (clear 0x0F07 1986 0 0 (modPower (fun p => { p with junctionHigh := false }) s))

/-- THERMAL_STOP: a junction above 105 °C for 10 ms; a trigger of cause 3 (R522, R524). -/
def execThermalStop (readings : List Int) (s : State) : Result :=
  let s := readJunctions readings s
  if (hottest s.power.junctions).1 ≤ 10500 then .next s
  else .next (trigger 3 (raise 0x0F08 1986 .critical 0 0 (countPower 1 1 s)))

/-! ### The HOLD store (R525 to R528) -/

/-- CHARGE_START: below 11.8 V, in RUN, QUIET and DORMANT with VIN present (R525). -/
def execChargeStart (s : State) : Result :=
  let runs := s.power.state == .run || s.power.state == .quiet || s.power.state == .dormant || s.start.railsUp
  if !runs || !s.power.vin || s.power.trigger.isSome || s.power.curtain.isSome then .next s
  else .next (modStore (fun g => { g with charging := true, chargeAt := s.clock.now, failed := false, checked := false }) s)

/-- C_learn is in its range and within 30 % of c_nom (R526). -/
def capacitanceOk (s : State) : Bool :=
  let c := s.power.store.cLearn
  let n := s.power.cfg.cNom * 100000
  22000000 ≤ c && c ≤ 100000000 && decide (10 * ((c : Int) - n).natAbs ≤ 3 * n)

/-- Holds or clears STORE_MISSING and STORE_FAULT. -/
def setMissing (on : Bool) (s : State) : State := holdIf on 0x0F0B 1989 .major 0 0 (modStore (fun g => { g with missing := on }) s)
def setStoreFault (on : Bool) (s : State) : State := holdIf on 0x0F0C 1989 .major 0 0 (modStore (fun g => { g with fault := on }) s)

/-- CAPACITANCE_MEASURE: a charge has gone from 10.0 V to 11.5 V without a break and took `deltaQ` pC (R526). -/
def execCapacitanceMeasure (deltaQ : Nat) (s : State) : Result :=
  let g := s.power.store
  if !g.charging then .next s
  else
    let meas := deltaQ / 1500
    let learn := if g.measured then ((g.cLearn : Int) + ((meas : Int) - g.cLearn) / 4).toNat else meas
    let missing := decide (s.clock.now ≤ g.chargeAt + 10 * msCc ∨ meas < 5000000)
    let s := modStore (fun g => { g with cLearn := learn, measured := true, checked := true, failed := missing }) s
    let s := if missing then setMissing true s else s
    .next (if capacitanceOk s then s else setStoreFault true s)

/-- CHARGE_COMPLETE: the store has reached 12.0 V; events whose checks the charge has passed clear (R525, R526). -/
def execChargeComplete (s : State) : Result :=
  let g := s.power.store
  if !g.charging then .next s
  else
    let s := modStore (fun g => { g with charging := false }) s
    let s := if g.checked && !g.failed then setMissing false s else s
    .next (if capacitanceOk s && !g.failed then setStoreFault false s else s)

/-- CHARGE_TIMEOUT: 12.0 V not reached within 2 s (R526). -/
def execChargeTimeout (s : State) : Result :=
  if !s.power.store.charging then .next s
  else
    let s := advanceTo (s.power.store.chargeAt + 2 * secCc) s
    .next (setStoreFault true (modStore (fun g => { g with failed := true }) s))

/-- GAUGE_REANCHOR: less than 20 mA for 2 s outside a Curtain; Q := C V_v (R528). Assumption 63. -/
def execGaugeReanchor (s : State) : Result :=
  if s.power.curtain.isSome || 20 ≤ s.power.store.current.natAbs then .next s
  else .next (countPower 8 1 (modStore (fun g => { g with charge := gaugeC s * gaugeV g / 1000 }) s))

/-- GAUGE_SKEW: the estimates have differed by more than 0.15 E_full for 1 s (R528). -/
def execGaugeSkew (s : State) : Result :=
  if 100 * gaugeGap s ≤ 15 * energyFull s then .next s
  else .next (hold 0x0F0D 1989 .minor 0 0 (modStore (fun g => { g with skew := true }) s))

/-- GAUGE_SKEW_CLEAR: they have differed by less than 0.10 E_full for 10 s (R528). -/
def execGaugeSkewClear (s : State) : Result :=
  if energyFull s ≤ 10 * gaugeGap s then .next s
  else .next (clear 0x0F0D 1989 0 0 (modStore (fun g => { g with skew := false }) s))

end Sys2Proof.Machine
end

