-- ==== Sys2Proof/Machine/TimeRows.lean ====
section
/-! DEFINITION. The time commands 0x0B01 to 0x0B08, the TIME registers, the transmit timestamp queue, PPS and PTM (R395, R406 to R417). -/

namespace Sys2Proof.Machine

/-! ### Registers and queue -/

/-- TIME_CAPTURE: the output time of the cycle in which the write lands; each function has its own capture (R395, R422). -/
def execTimeCapture (func : Nat) (s : State) : Result :=
  .next (modTime (fun t => { t with captures := t.captures.set func s.clock.outTime }) s)

/-- TIME_TSQ_HI_READ: pops the transmit timestamp queue and latches its timestamp (R410, R19). -/
def execTimeTsqHiRead (s : State) : Result :=
  match s.time.tsq with
  | [] => .next { s with readBack := [0] }
  | e :: es =>
    let s := popCycle 1 s.time.tsq.length s.time.tsqNew s
    .next { s with
      time := { s.time with tsq := es, tsqLo := e.ts }
      readBack := [pack [(31, 1), (24, es.length), (16, e.port), (0, e.tsId)]] }

/-- TSQ_OVF_CLEAR: clears the flag and the count, but for the discards of the same cycle (R410, R9). -/
def execTsqOvfClear (s : State) : Result :=
  let n := inCycle s.clock.now s.time.tsqLost
  .next (modTime (fun t => { t with tsqOvf := decide (0 < n), tsqDrops := n }) s)

/-- The holding register of a port pushes its entry, one register a cycle; a full queue discards it (R409, R410). -/
def pushHolding (port : Nat) (s : State) : State :=
  match tabGet none s.time.holding port with
  | none => s
  | some e =>
    let s := if (s.time.tsqNew.map Prod.fst) = some s.clock.now then advance 1 s else s
    let full := decide (64 ≤ s.time.tsq.length)
    let s := modTime (fun t => { t with
        holding := tabSet none t.holding port none, tsqNew := pushMark (bitNat (!full)) s.clock.now t.tsqNew }) s
    if full then dropTimestamp s else modTime (fun t => { t with tsq := t.tsq ++ [e] }) s

/-- TSQ_PUSH: the holding registers push in ascending port number, one a cycle, up to that of `port` (R409, R410). -/
def execTsqPush (port : Nat) (s : State) : Result :=
  .next ((List.range (port + 1)).foldl (fun s p => pushHolding p s) s)

/-! ### PPS -/

/-- The time from now to the instant at which the output time, advanced by pps_delay, passes a whole second (R412). -/
def toNextSecond (s : State) : Nat :=
  let u := 10 ^ 9 * 2 ^ 48
  let t := s.clock.outTime + s.time.cfg.ppsDelay * 2 ^ 48
  let gap := u - t % u
  let inc := max 1 (timeIncrement s.clock.rate)
  (gap + inc - 1) / inc

/-- Fewer than 500 ms have passed since the last rise of PPS_OUT (R412). Assumption 55. -/
def pulseEarly (s : State) : Bool :=
  match s.time.ppsRise with
  | some r => decide (s.clock.now - r < 500 * msCc)
  | none => false

/-- PPS_OUT_PULSE: PPS_OUT rises at the whole second, while it is enabled, the servo is TRACKING or HOLDOVER, and
500 ms have passed since its last rise; in retention the pad itself stays low (R412, R57). Assumption 55. -/
def execPpsOutPulse (s : State) : Result :=
  let s := advance (toNextSecond s) s
  let now := s.clock.now
  if !s.time.cfg.ppsOut || s.time.phase == .unset || pulseEarly s then .next s
  else
    .next { s with
      pins := { s.pins with ppsOut := true }
      time := { s.time with ppsRise := some now, ppsFall := some (now + s.time.cfg.ppsWidth * usCc) } }

/-- PPS_OUT_FALL: PPS_OUT falls pps_width after its rise (R412). -/
def execPpsOutFall (s : State) : Result :=
  match s.time.ppsFall with
  | none => .next s
  | some t =>
    let s := advanceTo t s
    .next { s with pins := { s.pins with ppsOut := false }, time := { s.time with ppsFall := none } }

/-- The offset of a time from the nearest whole second, in whole ns (R413). -/
def secondOffset (t : Nat) : Int :=
  let n := outNanos t
  if 500000000 < n then (n : Int) - 1000000000 else n

/-- PPS_IN_EDGE: a rising edge whose pulse stays high for so many ns; one of less than 100 ns, or that comes while the pad is in
retention, is not seen (R40, R57, R413). -/
def execPpsInEdge (highNs : Nat) (s : State) : Result :=
  if highNs < 100 || s.pins.retained then .next s
  else
    let e := secondOffset s.clock.outTime
    let s := modTime (fun t => { t with
      ppsEdge := some s.clock.outTime, ppsOffset := e, ppsEdges := satAdd 32 t.ppsEdges 1 }) s
    if s.time.cfg.ppsinLimit ≠ 0 ∧ s.time.cfg.ppsinLimit < e.natAbs then .next (raise 0x0B07 1928 .minor (wordOfInt e) 0 s)
    else .next s

/-! ### PTM (R414) -/

/-- PTM_DIALOG: a dialog starts ptm_interval after the last, while the host and PTM_CONFIG enable PTM. -/
def execPtmDialog (hostEnabled : Bool) (s : State) : Result :=
  if !hostEnabled || !s.time.ptm.enable then .next s
  else
    let s := (match s.time.ptm.lastAt with
      | some t => advanceTo (t + s.time.ptm.interval * msCc) s
      | none => s)
    .next (modTime (fun t => { t with ptm := { t.ptm with
      running := some s.clock.now, lastAt := some s.clock.now, startedAt := s.clock.outTime } }) s)

/-- PTM_RESPONSE: the ResponseD completes the dialog, and t1, t4, the Master Time and the Propagation Delay are kept. -/
def execPtmResponse (master prop : Nat) (s : State) : Result :=
  match s.time.ptm.running with
  | none => .next s
  | some _ =>
    .next (modTime (fun t => { t with ptm := { t.ptm with
      running := none, t1 := t.ptm.startedAt, t4 := s.clock.outTime, master := master, prop := prop, valid := true } }) s)

/-- PTM_FAIL: no ResponseD within 1 ms. -/
def execPtmFail (s : State) : Result :=
  match s.time.ptm.running with
  | none => .next s
  | some t =>
    let s := advanceTo (t + msCc) s
    .next (raise 0x0B08 1928 .minor 0 0 (modTime (fun t =>
      { t with ptm := { t.ptm with running := none }, ptmFails := satAdd 16 t.ptmFails 1 }) s))

/-! ### Commands -/

/-- A request field in which 0 selects a default. -/
def orDefault (v d : Nat) : Nat := if v = 0 then d else v

/-- The configuration that a TIME_CONFIG request asks for (R416). -/
def timeConfigOf (req : List Word) : TimeConfig :=
  let a := wordAt req 0
  let c := wordAt req 2
  { primary := hubOf (bitOf a 0), revertive := bitOf a 1, kp := orDefault (fieldOf a 8 4) 4, ki := orDefault (fieldOf a 12 4) 10,
    stepLimit := orDefault (fieldOf (wordAt req 1) 0 14) 10, ppsOut := bitOf c 0, ppsWidth := orDefault (fieldOf c 1 19) 1000,
    ppsDelay := fieldOf c 24 8, ppsinLimit := fieldOf (wordAt req 3) 0 20 }

/-- Every field of the configuration is in range (R416, R417). -/
def timeConfigOk (c : TimeConfig) : Bool :=
  1 ≤ c.kp && c.kp ≤ 8 && 2 ≤ c.ki && c.ki ≤ 15 && 2 * c.kp + 1 ≤ c.ki && c.stepLimit ≤ 10000 && c.ppsWidth ≤ 500000

/-- TIME_CONFIG: it applies at the next superframe point (R416, R417). -/
def execTimeConfig (src : Source) (tag : Nat) (req : List Word) (s : State) : Result :=
  let c := timeConfigOf req
  command src tag req ⟨4, pf0Only src, false⟩ (fun s =>
    if !timeConfigOk c then refuse .badArg s else okay [] (modTime (fun t => { t with pendingCfg := some c }) s)) s

/-- A hub's offset in ps as TIME_STATUS shows it (R416). -/
def offsetWord (d : HubTime) : Word :=
  if d.usable then wordOfInt (clampInt (-(2 ^ 31)) (2 ^ 31 - 1) (unitsPs d.offset)) else 0x80000000

/-- The words of TIME_STATUS (R416). Assumption 37. -/
def timeStatusWords (s : State) : List Word :=
  let t := s.time
  let phase := (match t.phase with | .unset => 0 | .tracking => 1 | .holdover => 2)
  [pack [(0, phase), (2, bitNat (t.selected != t.cfg.primary)), (3, hubCode t.cfg.primary), (4, bitNat t.diverge.isSome)],
   offsetWord t.hubA, offsetWord t.hubB, pack [(0, t.hubA.planes), (16, t.hubB.planes)],
   wordOf (maskOf (fun i => (tabGet planeTimeReset t.planes i).outlier) 32), wordOfInt (roundDiv s.clock.rate (2 ^ 32)),
   pack [(0, t.steps), (16, t.switches)], pack [(0, t.holdovers), (16, t.ptmFails)]]

/-- TIME_STATUS (R416, R417). -/
def execTimeStatus (src : Source) (tag : Nat) (req : List Word) (s : State) : Result :=
  let clear := bitOf (wordAt req 0) 0
  command src tag req ⟨1, readOrPf0 src clear, false⟩ (fun s =>
    okay (timeStatusWords s)
      (cleared clear (modTime (fun t => { t with steps := 0, switches := 0, holdovers := 0, ptmFails := 0 })) s)) s

/-- TIME_READ: the output time as the command executes (R416, R417). -/
def execTimeRead (src : Source) (tag : Nat) (req : List Word) (s : State) : Result :=
  command src tag req ⟨0, true, false⟩ (fun s => okay (timeWords s.clock.outTime) s) s

/-- TS_PORT_CREATE (R406, R416, R417). -/
def execTsPortCreate (src : Source) (tag : Nat) (req : List Word) (s : State) : Result :=
  let port := fieldOf (wordAt req 0) 0 8
  command src tag req ⟨3, pf0Only src, false⟩ (fun s =>
    let c := (tabGet portReset s.ports.ports port).cfg
    if c.ptype = 0 then refuse .badArg s
    else if c.circuit || (tsChanOf port s).isSome then refuse .conflict s
    else
      match nextIndex .tsPort s with
      | none => refuse .noResource s
      | some i =>
        let ch : TsChannel := ⟨port, (wordAt req 1).toInt, (wordAt req 2).toInt⟩
        let s := openChan .tsPort i (modTime (fun t => { t with tsPorts := tabSet tsChannelReset t.tsPorts i ch }) s)
        okay [handleOf 0x0A i s] s) s

/-- Destroys a timestamping channel; a pending entry of its port is discarded (R417). -/
def endTsPort (i : Nat) (s : State) : State :=
  let port := (tabGet tsChannelReset s.time.tsPorts i).port
  closeChan .tsPort i (modTime (fun t =>
    { t with holding := tabSet none t.holding port none, tsPorts := tabSet tsChannelReset t.tsPorts i tsChannelReset }) s)

/-- TS_PORT_DESTROY (R417). -/
def execTsPortDestroy (src : Source) (tag : Nat) (req : List Word) (s : State) : Result :=
  command src tag req ⟨1, pf0Only src, false⟩ (fun s =>
    withHandle .tsPort (wordAt req 0) s (fun i => okay [] (endTsPort i s))) s

/-- PTM_CONFIG (R414, R416, R417). -/
def execPtmConfig (src : Source) (tag : Nat) (req : List Word) (s : State) : Result :=
  let w := wordAt req 0
  let n := orDefault (fieldOf w 16 10) 10
  let on := bitOf w 0
  command src tag req ⟨1, pf0Only src, false⟩ (fun s =>
    if 1000 < n then refuse .badArg s
    else
      okay [] (modTime (fun t =>
        let p := if on && !t.ptm.enable then { t.ptm with valid := false, lastAt := none } else t.ptm
        { t with ptm := { p with enable := on, interval := n, running := if on then p.running else none } }) s)) s

/-- Three words of a PTM instant (R416). -/
def ptmWords (t : Nat) : List Word := [wordOf (outNanos t), wordOf (outSeconds t), wordOf (outSeconds t / 2 ^ 32 % 65536)]

/-- PTM_READ (R414, R416, R417). -/
def execPtmRead (src : Source) (tag : Nat) (req : List Word) (s : State) : Result :=
  command src tag req ⟨0, true, false⟩ (fun s =>
    let p := s.time.ptm
    if !p.valid then refuse .notReady s
    else okay (ptmWords p.t1 ++ ptmWords p.t4 ++ [lowWord p.master, highWord p.master, wordOf p.prop, 1]) s) s

/-- PPS_IN_READ (R413, R416, R417). -/
def execPpsInRead (src : Source) (tag : Nat) (req : List Word) (s : State) : Result :=
  command src tag req ⟨0, true, false⟩ (fun s =>
    match s.time.ppsEdge with
    | none => refuse .notReady s
    | some t => okay (timeWords t ++ [wordOfInt s.time.ppsOffset, wordOf s.time.ppsEdges]) s) s

end Sys2Proof.Machine
end

