-- ==== Sys2Proof/Machine/Registers.lean ====
section
/-! DEFINITION. What a write to BAR0 does, and what a read of it returns, register by register (R8, R10, R421): the `Read returns` column
of R8 over the blocks MBOX, MSIX, ID, JOIN, TIME, SEC, HQ and EVT. No row of the table reads a register but TIME_TSQ_HI_READ and
ALM_STATE_READ, whose reads act; the value of every other read is this function of State. -/

namespace Sys2Proof.Machine

/-- A write to a register of MBOX (R424): those with rows of their own act as these rows do, the indices of the terminal are read-only. -/
def writeMbox (func offset : Nat) (value : Word) (s : State) : Result :=
  match offset with
  | 0x00 => if bitOf value 0 then execMboxEnable func s else execMboxDisable func s
  | 0x20 => execMboxCmdPi func value s
  | 0x2C => execMboxRspCi func value s
  | 0x34 => execMboxNtfCi func value s
  | 0x38 => .next (writeStat func value s)
  | _ => .next (if 0x8 ≤ offset ∧ offset < 0x20 then writeBase func offset value s else s)

/-- A write to a doorbell page of a live queue pair, in its owner's BAR0 (R454). -/
def writeHq (func offset : Nat) (value : Word) (s : State) : Result :=
  match offset % 0x400 with
  | 0 => execHqTxPi func (offset / 0x400) value s
  | 4 => execHqRxPi func (offset / 0x400) value s
  | 8 => execHqCqCi func (offset / 0x400) value s
  | _ => .next s

/-- REGISTER_WRITE: a write of a word to BAR0. The registers that take one are those of MBOX, the MSI-X table, TIME_CTRL, which latches the
output time, TIME_TSQ_STAT of PF0, and the doorbells; every other register is read-only to the host or reserved, and the write is ignored
(R8, R10, R395, R410, R421, R424, R454). Assumption 105. -/
def execRegisterWrite (func offset : Nat) (value : Word) (s : State) : Result :=
  if offset % 4 ≠ 0 then .next s
  else if offset < 0x10000 then writeMbox func offset value s
  else if offset < 0x10000 + 16 * 258 then .next (writeVector func (offset - 0x10000) value s)
  else if offset = 0x31000 then (if bitOf value 0 then execTimeCapture func s else .next s)
  else if offset = 0x31028 then (if func = 0 && bitOf value 0 then execTsqOvfClear s else .next s)
  else if 0x40000 ≤ offset ∧ offset < 0x80000 then writeHq func (offset - 0x40000) value s
  else .next s

/-- The low and the high 32 bits of a 64-bit register pair. -/
def halfWord (high : Bool) (n : Nat) : Word := wordOf (if high then n / 2 ^ 32 else n % 2 ^ 32)

/-- MBOX (R424). -/
def readMbox (b : FuncBox) (offset : Nat) : Word :=
  match offset with
  | 0x00 => pack [(0, bitNat b.en), (1, bitNat b.halted)]
  | 0x08 => halfWord false b.cmdBase
  | 0x0C => halfWord true b.cmdBase
  | 0x10 => halfWord false b.rspBase
  | 0x14 => halfWord true b.rspBase
  | 0x18 => halfWord false b.ntfBase
  | 0x1C => halfWord true b.ntfBase
  | 0x20 => wordOf b.cmdPi
  | 0x24 => wordOf b.cmdCi
  | 0x28 => wordOf b.rspPi
  | 0x2C => wordOf b.rspCi
  | 0x30 => wordOf b.ntfPi
  | 0x34 => wordOf b.ntfCi
  | 0x38 => pack [(0, bitNat b.dupTag), (1, bitNat b.piBad), (2, bitNat b.rspHeld), (3, bitNat b.ciBad)]
  | _ => 0

/-- MSIX: the table of 258 vectors, and the pending bits from offset 0x8000 on (R481). -/
def readMsix (b : FuncBox) (offset : Nat) : Word :=
  if offset < 16 * 258 then
    let x := tabGet vectorReset b.msix (offset / 16)
    match offset % 16 with
    | 0 => x.addrLo
    | 4 => x.addrHi
    | 8 => x.data
    | _ => wordOf (bitNat x.masked)
  else if 0x8000 ≤ offset ∧ offset < 0x8000 + 4 * 9 then
    wordOf (maskOf (fun i =>
      let v := 8 * (offset - 0x8000) + i
      decide (v < 258) && (tabGet vectorReset b.msix v).pending) 32)
  else 0

/-- ID (R422). -/
def readId (func offset : Nat) (s : State) : Word :=
  match offset with
  | 0 => wordOf idPart
  | 4 => pack [(0, s.pins.slotId), (6, bitNat s.pins.strapFault), (8, func)]
  | 8 => wordOf 0x0201
  | _ => 0

/-- JOIN: RT, EqD, ASYM and TINT of plane p (R108 to R111). -/
def readJoin (offset : Nat) (s : State) : Word :=
  let p := offset % 64 / 4
  match offset / 64 with
  | 4 => wordOf ((planeOf p s).rt % 2 ^ 26)
  | 5 => wordOf (unsignedOf 26 (planeOf p s).eqd)
  | 6 => wordOf (unsignedOf 24 (tabGet 0 s.join.cfg.asym p))
  | 7 => wordOf (Config.tint p).toNat
  | _ => 0

/-- TIME: a function's own capture, the transmit timestamp queue in PF0, and the receive latencies; PF1 reads all ones from the queue (R395,
R397, R410, R421). A read of TIME_TSQ_HI is the row of its own. -/
def readTime (func offset : Nat) (s : State) : Word :=
  let cap := s.time.captures.getD func 0
  if 0x100 ≤ offset ∧ offset < 0x140 then wordOf (Config.rxLat ((offset - 0x100) / 4)).toNat
  else if 0x20 ≤ offset ∧ offset < 0x2C ∧ func ≠ 0 then 0xFFFFFFFF
  else
    match offset with
    | 0x04 => wordOf (outFrac cap)
    | 0x08 => wordOf (outNanos cap)
    | 0x0C => wordOf (outSeconds cap)
    | 0x10 => wordOf (outSeconds cap / 2 ^ 32 % 65536)
    | 0x24 => wordOf s.time.tsqLo
    | 0x28 => pack [(0, bitNat s.time.tsqOvf), (8, s.time.tsqDrops)]
    | _ => 0

/-- SEC: the gates that the secure world owns, and the 64 firewall rules (R381, R383). -/
def readSec (offset : Nat) (s : State) : Word :=
  if offset < 0x20 then wordOf (maskOf (fun i => s.sec.owned.contains (8 * offset + i)) 32)
  else if 0x100 ≤ offset ∧ offset < 0x100 + 12 * 64 then
    let r := tabGet fwRuleReset s.sec.rules ((offset - 0x100) / 12)
    match (offset - 0x100) % 12 with
    | 0 => r.base
    | 4 => r.limit
    | _ => wordOf (fieldOf r.flags 0 8)
  else 0

/-- HQ: the doorbell page of a live queue pair in its owner's BAR0 (R454). -/
def readHq (func offset : Nat) (s : State) : Word :=
  let n := offset / 0x400
  let q := pairOf n s
  if !(chanSlot 0x05 n s).live || q.func != func then 0
  else
    match offset % 0x400 with
    | 0x00 => wordOf q.txPi
    | 0x04 => wordOf q.rxPi
    | 0x08 => wordOf q.cqCi
    | 0x0C => wordOf q.txCi
    | 0x10 => wordOf q.rxCi
    | 0x14 => wordOf q.cqPi
    | 0x18 => pack [(0, bitNat q.running), (2, bitNat (q.held ≠ []))]
    | _ => 0

/-- EVT: word 0 of an alarm entry is live; words 1 to 3 are those of the function's latch (R475). The load of the latch is a row of its
own. -/
def readEvt (func offset : Nat) (s : State) : Word :=
  if 0x8000 ≤ offset then 0
  else if offset % 16 = 0 then wordAt (alarmWords (alarmEntry (offset / 16) s)) 0
  else wordAt (funcBox func s).latch (offset % 16 / 4 - 1)

/-- What a read of the 32-bit register at a BAR0 offset of a function returns (R421); write-only fields, reserved fields and every other
address read 0 (R8, R10). Assumption 105. -/
def readRegister (func offset : Nat) (s : State) : Word :=
  if offset % 4 ≠ 0 then 0
  else if offset < 0x10000 then readMbox (funcBox func s) offset
  else if offset < 0x20000 then readMsix (funcBox func s) (offset - 0x10000)
  else if offset < 0x21000 then readId func (offset - 0x20000) s
  else if offset < 0x30000 then 0
  else if offset < 0x31000 then readJoin (offset - 0x30000) s
  else if offset < 0x32000 then readTime func (offset - 0x31000) s
  else if offset < 0x33000 then readSec (offset - 0x32000) s
  else if offset < 0x40000 then 0
  else if offset < 0x80000 then readHq func (offset - 0x40000) s
  else if offset < 0x100000 then readEvt func (offset - 0x80000) s
  else 0

end Sys2Proof.Machine
end

