-- ==== Sys2Proof/Machine/SecRows.lean ====
section
/-! DEFINITION. The security commands 0x0A01 to 0x0A0A (R389 to R391). -/

namespace Sys2Proof.Machine

/-- The hub key has an installed epoch. -/
def hubKeyHeld (s : State) : Bool := (lineKey hubKey s).epochs != []

/-- PEER_KEY_CREATE (R375, R390, R391). -/
def execPeerKeyCreate (src : Source) (tag : Nat) (req : List Word) (s : State) : Result :=
  let peer := fieldOf (wordAt req 0) 0 5
  command src tag req ⟨1, pf0Only src, false⟩ (fun s =>
    if 29 < peer ∨ s.join.tn = some peer then refuse .badArg s
    else if s.join.tn.isNone ∨ !hubKeyHeld s ∨ s.sec.entropy ≠ .running then refuse .notReady s
    else if (assocWith peer s).isSome then refuse .conflict s
    else
      match nextIndex .peerKey s with
      | none => refuse .noResource s
      | some i =>
        let s := setAssoc i { associationReset with peer := peer } (openChan .peerKey i s)
        (.accepted, sendOffer i 0 (startLong src tag (.peerKeyCreate i) s))) s

/-- PEER_KEY_DESTROY (R375, R391). -/
def execPeerKeyDestroy (src : Source) (tag : Nat) (req : List Word) (s : State) : Result :=
  command src tag req ⟨1, pf0Only src, false⟩ (fun s =>
    withHandle .peerKey (wordAt req 0) s (fun i => okay [] (endAssoc i s))) s

/-- The index of the association that a handle names; the null handle selects the hub key (R390). -/
def assocOfHandle (h : Word) (s : State) : Except Status Nat := if h = 0 then .ok 64 else checkHandle .peerKey h s

/-- The number of an association's state (R390). -/
def assocCode : AssocPhase → Nat
  | .idle => 0
  | .offered => 1
  | .withdrawn => 2

/-- The words of PEER_KEY_STATUS (R390). -/
def peerKeyWords (i : Nat) (s : State) : List Word :=
  let a := assocOf i s
  let k := lineKey (assocKey i s) s
  let cur := (activeEpoch s.clock.slot k).getD keyEpochReset
  let sby := standbyEpoch s.clock.slot k
  let act := (sby.getD keyEpochReset).act
  [pack [(0, assocCode a.phase), (2, cur.num), (4, bitNat sby.isSome), (8, a.peer)], lowWord cur.act,
    wordOf (cur.act / 2 ^ 32 % 65536), lowWord act, wordOf (act / 2 ^ 32 % 65536)]

/-- PEER_KEY_STATUS (R390, R391). -/
def execPeerKeyStatus (src : Source) (tag : Nat) (req : List Word) (s : State) : Result :=
  command src tag req ⟨1, true, false⟩ (fun s =>
    match assocOfHandle (wordAt req 0) s with
    | .error st => refuse st s
    | .ok i => okay (peerKeyWords i s) s) s

/-- KEY_ROLL (R375, R390, R391). -/
def execKeyRoll (src : Source) (tag : Nat) (req : List Word) (s : State) : Result :=
  command src tag req ⟨1, pf0Only src, false⟩ (fun s =>
    match assocOfHandle (wordAt req 0) s with
    | .error st => refuse st s
    | .ok i =>
      if i = 64 ∧ (s.join.tn.isNone ∨ !hubKeyHeld s) then refuse .notReady s
      else if (assocOf i s).phase ≠ .idle ∨ (standbyEpoch s.clock.slot (lineKey (assocKey i s) s)).isSome then refuse .busy s
      else (.accepted, sendOffer i 0 (startLong src tag (.keyRoll 0 i) s))) s

/-- KEY_POLICY: 0 keeps a value; it applies from the next slot (R390, R391). -/
def execKeyPolicy (src : Source) (tag : Nat) (req : List Word) (s : State) : Result :=
  let w := wordAt req 0
  let limit := if fieldOf w 0 6 = 0 then s.sec.policyNext.limitLog2 else fieldOf w 0 6
  let roll := if fieldOf w 8 6 = 0 then s.sec.policyNext.rollLog2 else fieldOf w 8 6
  command src tag req ⟨1, pf0Only src, false⟩ (fun s =>
    if limit < 24 ∨ 40 < limit ∨ roll < 20 ∨ 34 < roll ∨ limit ≤ roll then refuse .badArg s
    else
      okay [] { s with sec := { s.sec with
        policy := policyFor s.clock.slot s, policyNext := ⟨limit, roll, bitOf w 16, bitOf w 17⟩, policyAt := s.clock.slot + 1 } }) s

/-- The sequence value that the next freeze assigns, while an offset is set (R356, R357). -/
def nextSequence (s : State) : Option Nat :=
  let slot := match s.grants.frozenTo with | some n => n + 1 | none => s.clock.slot + 128
  s.sec.seq.offset.map (fun d => ((slot : Int) + d).toNat)

/-- A 64-bit value, or a free value where the spec states none. Assumption 17. -/
def valueOrFree (v : Option Nat) (s : State) : List Word × State :=
  match v with
  | some n => ([lowWord n, highWord n], s)
  | none =>
    let (a, s) := takeFree s
    let (b, s) := takeFree s
    ([a, b], s)

/-- SEQ_STATUS: before an offset is set there is no next value, and without a valid record no last one; each is then a free value
(R390, R391; assumption 17). -/
def execSeqStatus (src : Source) (tag : Nat) (req : List Word) (s : State) : Result :=
  command src tag req ⟨0, true, false⟩ (fun s =>
    let (a, s) := valueOrFree (nextSequence s) s
    let (b, s) := valueOrFree ((lastRecord s.sec.seq).map (fun r => r.1)) s
    okay (a ++ b ++ [pack [(0, bitNat s.sec.seq.disabled), (1, bitNat s.sec.seq.halted)]]) s) s

/-- IDENTITY_READ (R390, R391). -/
def execIdentityRead (src : Source) (tag : Nat) (req : List Word) (s : State) : Result :=
  let off := fieldOf (wordAt req 0) 0 16
  command src tag req ⟨1, true, false⟩ (fun s =>
    okay
      ([lowWord s.serial, highWord s.serial, lowWord (s.serial / 2 ^ 64), highWord (s.serial / 2 ^ 64), wordOf (s.certLen % 65536)] ++
        (List.range 64).map (fun i => wordOf (leNat ((List.range 4).map (fun j => certByte s (off + 4 * i + j)))))) s) s

/-- The number of the entropy source's state (R390). -/
def entropyCode : EntropyPhase → Nat
  | .running => 0
  | .startupTest => 1
  | .failed => 2

/-- ENTROPY_STATUS (R390, R391). -/
def execEntropyStatus (src : Source) (tag : Nat) (req : List Word) (s : State) : Result :=
  command src tag req ⟨0, true, false⟩ (fun s =>
    okay [wordOf (entropyCode s.sec.entropy), wordOf s.sec.entropyFailures] s) s

/-- SEC_GATE_OWN_n (R381). -/
def gateOwnWord (n : Nat) (s : State) : Word := wordOf (maskOf (fun i => s.sec.owned.contains (32 * n + i)) 32)

/-- GATE_STATUS (R390, R391). -/
def execGateStatus (src : Source) (tag : Nat) (req : List Word) (s : State) : Result :=
  let n := fieldOf (wordAt req 0) 0 3
  command src tag req ⟨1, true, false⟩ (fun s =>
    okay [gateOwnWord n s, wordOf (maskOf (fun i => (tabGet none s.sec.deferred (32 * n + i)).isSome) 32)] s) s

/-- SEC_COUNTERS (R389 to R391). -/
def execSecCounters (src : Source) (tag : Nat) (req : List Word) (s : State) : Result :=
  let clear := bitOf (wordAt req 0) 0
  command src tag req ⟨1, readOrPf0 src clear, false⟩ (fun s =>
    okay (s.sec.counters.map wordOf)
      (cleared clear (fun s => { s with sec := { s.sec with counters := List.replicate 12 0 } }) s)) s

end Sys2Proof.Machine
end

