-- ==== Sys2Proof/Machine/SecEvents.lean ====
section
/-! DEFINITION. Key records and segments, the timers of key agreement, the entropy source, debug authorisation and the interconnect
firewall (R364 to R385). -/

namespace Sys2Proof.Machine

/-! ### Key records -/

/-- The record of a kind that has been reassembled from an originator under an identity. -/
def completeRecord (kind fromTn recId : Nat) (s : State) : Option KeyRecord :=
  s.sec.complete.find? (fun r => r.kind == kind && r.fromTn == fromTn && r.recId == recId)

/-- A record has been handled: it leaves the reassembled ones, and is counted as accepted or rejected (R389). -/
def closeRecord (r : KeyRecord) (accepted : Bool) (s : State) : State :=
  countSec (if accepted then 4 else 6) 1 { s with sec := { s.sec with complete := s.sec.complete.erase r } }

/-- A record whose signature fails: rejected, with KEY_AGREE_FAIL (R372, R388). -/
def badSignature (r : KeyRecord) (s : State) : State := raise 0x0A04 1927 .major 0 0 (closeRecord r false s)

/-- The peer's offer is answered, and its epoch is installed as standby (R374, R375). -/
def answerOffer (i : Nat) (r : KeyRecord) (s : State) : State :=
  let n := s.sec.nextRecId
  let (bs, keys, s) := answerRecord r s
  let s := sendRecord 0x0A02 r.fromTn n bs { s with sec := { s.sec with nextRecId := (n + 1) % 65536 } }
  installEpoch (assocKey i s) { num := offerEpoch r, act := offerAct r, inst := 0, tx := keys.1, rx := keys.2 } (closeRecord r true s)

/-- An OFFER of an association, by its state; the lower TN's offer stands, and the withdrawn one is made again 64 superframes
after the peer's epoch is installed (R375; assumption 16). -/
def offerTo (i : Nat) (r : KeyRecord) (s : State) : State :=
  let a := assocOf i s
  match a.phase with
  | .idle => answerOffer i r s
  | .offered =>
    if a.peer < s.join.tn.getD 0 then
      setAssoc i { assocOf i s with phase := .withdrawn, tAns := none, reofferAt := some (s.clock.slot + 64 * 128) }
        (answerOffer i r s)
    else closeRecord r false s
  | .withdrawn => closeRecord r false s

/-- An OFFER: from a peer without association one is opened when auto_answer is set (R375). -/
def takeOffer (r : KeyRecord) (s : State) : State :=
  if s.join.tn.isNone ∨ 29 < r.fromTn then closeRecord r false s
  else
    match assocWith r.fromTn s with
    | some i => offerTo i r s
    | none =>
      match nextIndex .peerKey s with
      | some i =>
        if (policyFor s.clock.slot s).autoAnswer then
          offerTo i r (setAssoc i { associationReset with peer := r.fromTn } (openChan .peerKey i s))
        else closeRecord r false s
      | none => closeRecord r false s

/-- An answer to the offer of an association: in time its epoch is installed, otherwise it is late and the offer is made again
(R374, R375). -/
def answerTo (i : Nat) (r : KeyRecord) (s : State) : State :=
  let a := assocOf i s
  if a.phase ≠ .offered ∨ answerRec r ≠ a.recId ∨ answerEpoch r ≠ a.offer.num then closeRecord r false s
  else if s.clock.slot + 256 < 128 * a.offer.act then
    concludeOffer i (offerKeys (offerKind i) a.offer.num a.offer.act a.secret r s) (closeRecord r true s)
  else
    let s := countSec 7 1 (closeRecord r true s)
    sendOffer i 0 (setAssoc i { a with phase := .idle, tAns := none } s)

/-- An ANSWER (R372, R375). Assumption 16. -/
def takeAnswer (r : KeyRecord) (s : State) : State :=
  match assocWith r.fromTn s with
  | none => closeRecord r false s
  | some i => answerTo i r s

/-- A HUB_ANSWER: it answers the offer that the identity carried, whose epoch 0 counts from the SFN of the frame with the ACK, or an
offer of a later epoch (R373 to R375). -/
def takeHubAnswer (r : KeyRecord) (s : State) : State :=
  let a := s.sec.hubAssoc
  if a.phase = .idle ∧ !hubKeyHeld s then
    if s.sec.identity.isEmpty ∨ answerEpoch r ≠ 0 then closeRecord r false s
    else
    let keys := offerKeys 1 0 a.offer.act a.secret r s
    installEpoch hubKey { num := 0, act := a.offer.act, inst := 0, tx := keys.1, rx := keys.2 } (closeRecord r true s)
  else answerTo 64 r s

/-- A GROUP_KEY: taken only when it was wrapped for the current TN, and unwraps under a KEK of the hub key (R372, R376). Assumption 74. -/
def takeGroupKey (r : KeyRecord) (s : State) : State :=
  if s.join.tn ≠ some (groupAddressee r) ∨ 1023 < groupField r then closeRecord r false s
  else
    match unwrapUnder (lineKey hubKey s).epochs.reverse (groupWrapped r) s with
    | (none, s) => closeRecord r false s
    | (some k, s) =>
      installEpoch (groupKeyNo (groupField r)) { num := groupEpoch r, act := groupAct r, inst := 0, tx := k, rx := k } (closeRecord r true s)

/-- A record whose signatures verify is processed by its kind (R372). Assumption 32. -/
def processRecord (r : KeyRecord) (s : State) : State :=
  if r.kind = 0x0A01 then takeOffer r s
  else if r.kind = 0x0A02 then takeAnswer r s
  else if r.kind = 0x0A03 then takeHubAnswer r s
  else takeGroupKey r s

/-- A reassembled record reaches the Strongroom's firmware: its signatures are checked, and while R379 blocks the DRBG key agreement and
the masked engine wait (R372, R379). Assumption 32. -/
def handleRecord (kind fromTn recId : Nat) (s : State) : Result :=
  match completeRecord kind fromTn recId s with
  | none => .next s
  | some r =>
    if !recordVerifies r then .next (badSignature r s)
    else if s.sec.entropy ≠ .running then
      .next { s with sec := { s.sec with waitingRecords := s.sec.waitingRecords ++ [r] } }
    else .next (processRecord r s)

/-- OFFER (R372, R375). -/
def execOffer (fromTn recId : Nat) (s : State) : Result := handleRecord 0x0A01 fromTn recId s

/-- ANSWER (R372, R375). -/
def execAnswer (fromTn recId : Nat) (s : State) : Result := handleRecord 0x0A02 fromTn recId s

/-- HUB_ANSWER (R373, R375). -/
def execHubAnswer (fromTn recId : Nat) (s : State) : Result := handleRecord 0x0A03 fromTn recId s

/-- GROUP_KEY (R372, R376). -/
def execGroupKey (fromTn recId : Nat) (s : State) : Result := handleRecord 0x0A04 fromTn recId s

/-! ### Key segments (R370, R371) -/

/-- The fields of a key segment that starts at a bit of a message body: record kind, originator, addressee, record, index, total,
length, and its data. -/
structure Segment where
  recKind : Nat
  fromTn : Nat
  toTn : Nat
  recId : Nat
  index : Nat
  total : Nat
  data : List Byte
  len : Nat
deriving DecidableEq, Repr

/-- Reads a segment (R370). -/
def readSegment (m : StageMsg) (off : Nat) : Segment :=
  let len := bodyField m (off + 56) 12
  { recKind := bodyField m off 16, fromTn := bodyField m (off + 16) 5, toTn := bodyField m (off + 21) 5,
    recId := bodyField m (off + 32) 16, index := bodyField m (off + 48) 4, total := bodyField m (off + 52) 4, len := len,
    data := (m.body.drop ((off + 96) / 8)).take len }

/-- A segment passes the checks of R370; before a TN is held no addressee can be checked. -/
def segmentOk (g : Segment) (tn : Option Nat) : Bool :=
  0x0A01 ≤ g.recKind && g.recKind ≤ 0x0A04 && (tn == none || tn == some g.toTn) && 1 ≤ g.total && g.total ≤ 8 &&
    g.index < g.total && 1 ≤ g.len && g.len ≤ 4064 && g.data.length == g.len

/-- The data of all segments of a record, in the order of their indices. -/
def segmentsInOrder (total : Nat) (segs : List (Nat × List Byte)) : List Byte :=
  (List.range total).flatMap (fun i => ((segs.find? (fun e => e.1 == i)).map (fun e => e.2)).getD [])

/-- A segment joins its partial record, which is kept 16 superframes; the last one completes it (R370). Assumption 32. -/
def joinSegment (g : Segment) (s : State) : State :=
  let mine (q : PartialRecord) : Bool := q.fromTn == g.fromTn && q.recId == g.recId
  let old := (s.sec.partials.find? mine).getD ⟨g.recKind, g.fromTn, g.recId, g.total, [], s.clock.slot + 16 * 128⟩
  let new := { old with segs := old.segs.filter (fun e => e.1 != g.index) ++ [(g.index, g.data)] }
  let others := s.sec.partials.filter (fun q => !mine q)
  if new.total ≤ new.segs.length then
    { s with sec := { s.sec with
        partials := others, complete := s.sec.complete ++ [⟨new.kind, g.fromTn, g.recId, segmentsInOrder new.total new.segs⟩] } }
  else { s with sec := { s.sec with partials := others ++ [new] } }

/-- KEY_SEG (R370, R371). -/
def execKeySeg (msg : StageMsg) (s : State) : Result :=
  handleMsg [1, 3] msg s (fun s =>
    if msg.mode = 3 ∧ !ownSerial msg s then s
    else
      let g := readSegment msg (if msg.mode = 3 then 128 else 0)
      if segmentOk g s.join.tn then joinSegment g s else countSec 3 1 s)

/-- KEY_RECORD_TIMEOUT: 16 superframes pass without the record's last segment (R370). Assumption 32. -/
def execKeyRecordTimeout (fromTn recId : Nat) (s : State) : Result :=
  match s.sec.partials.find? (fun q => q.fromTn == fromTn && q.recId == recId) with
  | none => .next s
  | some q =>
    let s := toSlot q.deadline s
    .next { s with sec := { s.sec with
      partials := s.sec.partials.filter (fun q => !(q.fromTn == fromTn && q.recId == recId)) } }

/-! ### Epochs and timers -/

/-- The first epoch of a key that has a successor, with that successor. -/
def oldestPair : List KeyEpoch → Option (KeyEpoch × KeyEpoch)
  | a :: b :: _ => some (a, b)
  | _ => none

/-- KEY_EPOCH_ERASE: 2 superframes after the next epoch's activation SFN the previous epoch goes (R352, R364). -/
def execKeyEpochErase (key : Nat) (s : State) : Result :=
  match oldestPair (lineKey key s).epochs with
  | none => .next s
  | some (_, b) => .next (modKey key (fun k => { k with epochs := k.epochs.drop 1 }) (toSlot (128 * (b.act + 2)) s))

/-- A new epoch of the self key is drawn (R582). -/
def rollSelfKey (s : State) : State :=
  if s.sec.entropy ≠ .running then s
  else
    let (act, s) := chooseActivation s
    drawSelfEpoch (nextEpoch (lineKey selfKey s)) act s

/-- The association that agrees a key: 64 for the hub key, none for the self key and group keys. -/
def assocOfKey (key : Nat) (s : State) : Option Nat := if key = hubKey then some 64 else if key < 30 then assocWith key s else none

/-- KEY_ROLL_INTERVAL: an epoch that has been active for KEY_ROLL_INTERVAL slots is followed by a new one (R367, R375, R582). -/
def execKeyRollInterval (key : Nat) (s : State) : Result :=
  match activeEpoch s.clock.slot (lineKey key s) with
  | none => .next s
  | some e =>
    let s := toSlot (128 * e.act + 2 ^ (policyFor s.clock.slot s).rollLog2) s
    if (standbyEpoch s.clock.slot (lineKey key s)).isSome then .next s
    else if key = selfKey then .next (rollSelfKey s)
    else
      match assocOfKey key s with
      | none => .next s
      | some i => if (assocOf i s).phase = .idle then .next (sendOffer i 0 s) else .next s

/-- T_ANS: the offer is made again; after the third expiry in a row KEY_AGREE_FAIL, and a pending command ends with TIMEOUT
(R375). -/
def execTAns (assoc : Nat) (s : State) : Result :=
  let a := assocOf assoc s
  match a.tAns with
  | none => .next s
  | some t =>
    let s := toSlot t s
    if a.expiries + 1 < 3 then .next (sendOffer assoc (a.expiries + 1) s)
    else
      let s := setAssoc assoc { a with phase := .idle, expiries := 0, tAns := none } s
      .next (endKeyCommand assoc .timeout (raise 0x0A04 1927 .major 0 0 s))

/-- WITHDRAWN_REOFFER: 64 superframes after the peer's epoch was installed (R375). Assumption 16. -/
def execWithdrawnReoffer (assoc : Nat) (s : State) : Result :=
  let a := assocOf assoc s
  match a.reofferAt with
  | none => .next s
  | some t => .next (sendOffer assoc 0 (setAssoc assoc { a with phase := .idle, reofferAt := none } (toSlot t s)))

/-! ### Entropy and debug -/

/-- ENTROPY_FAIL: a health test fails (R379). -/
def execEntropyFail (s : State) : Result :=
  .next (hold 0x0A06 1927 .critical 0 0
    { s with sec := { s.sec with
        entropy := .failed, testedAt := s.clock.now, entropyFailures := satAdd 32 s.sec.entropyFailures 1 } })

/-- An offer that waited is sent; while no hub key is held, what waited of the hub is the identity (R373, R379). -/
def resumeOffer (i : Nat) (s : State) : State :=
  let a := assocOf i s
  if !a.waiting then s
  else if i = 64 ∧ !hubKeyHeld s then makeIdentity a.secret.nonce.toNat a.offer.act s
  else sendOffer i a.expiries s

/-- The draw of a discovery delay that waited is made (R119). -/
def resumeDraw (s : State) : State :=
  match s.join.drawWaits with
  | none => s
  | some w => drawDelay w.1 w.2 s

/-- What waited for the entropy source goes on: records, own offers, the draw of a discovery delay, and the self key (R119, R379, R582).
Assumption 32. -/
def resumeAgreement (s : State) : State :=
  let records := s.sec.waitingRecords
  let s := { s with sec := { s.sec with waitingRecords := [] } }
  let s := records.foldl (fun s r => processRecord r s) s
  let s := forEach resumeOffer (64 :: List.range 29) s
  let s := resumeDraw s
  if s.join.tn.isSome ∧ (lineKey selfKey s).epochs = [] then drawSelfKey s else s

/-- ENTROPY_RETEST: the start-up test is repeated every 1 s, and the source resumes when it passes (R379). Assumption 99. -/
def execEntropyRetest (passed : Bool) (s : State) : Result :=
  if s.sec.entropy = .running then .next s
  else
    let s := if s.sec.entropy = .failed then advanceTo (s.sec.testedAt + 1000 * msCc) s else s
    if passed then
      .next (resumeAgreement (clear 0x0A06 1927 0 0 (reseed { s with sec := { s.sec with entropy := .running } })))
    else
      .next (hold 0x0A06 1927 .critical 0 0
        { s with sec := { s.sec with
            entropy := .failed, testedAt := s.clock.now, entropyFailures := satAdd 32 s.sec.entropyFailures 1 } })

/-- DRBG_RESEED: after 2^16 requests, or at the latest 10 s after the last one (R379). -/
def execDrbgReseed (s : State) : Result :=
  if s.sec.entropy ≠ .running then .next s
  else .next (reseed (if s.sec.drbgRequests < 65536 then advanceTo (s.sec.reseedAt + 10000 * msCc) s else s))

/-- DEBUG_AUTHORISATION: an authorisation that names the serial and verifies erases the keys, disables encrypted sending until the
next cold reset, and opens the test port (R380). -/
def execDebugAuthorisation (serial : Nat) (signatureOk : Bool) (s : State) : Result :=
  if serial = s.serial ∧ signatureOk then
    .next (raise 0x0A07 1927 .critical 0 0 (eraseKeys { s with sec := { s.sec with debugOpen := true } }))
  else .next s

/-! ### Firewall -/

/-- An enabled rule covers an access of an initiator (0 Zordin, 1 PF0, 2 PF1, 3 Strongroom core) (R383). -/
def ruleCovers (initiator : Nat) (write : Bool) (addr len : Nat) (r : FwRule) : Bool :=
  bitOf r.flags 0 && bitOf r.flags (if write then 2 else 1) && bitOf r.flags (4 + initiator) &&
    r.base.toNat * 4096 ≤ addr && addr + len ≤ (r.limit.toNat + 1) * 4096

/-- What the factory rules refuse in BAR0: PF1 writes outside its MBOX, MSIX and HQ blocks and TIME_CAPTURE, and PF1 reads of the
transmit timestamp queue (R419, R421; assumption 11). -/
def factoryBarRefuses (initiator : Nat) (write : Bool) (addr len : Nat) : Bool :=
  let inside (lo hi : Nat) : Bool := lo ≤ addr && addr + len ≤ hi
  initiator == 2 &&
    (if write then !(inside 0 0x10000 || inside 0x10000 0x20000 || inside 0x40000 0x80000 || inside 0x31000 0x31004)
     else addr < 0x3102C && 0x31020 < addr + len)

/-- The rules of the normal world allow an access; they never cover Strongroom space (R383). Assumptions 11 and 98. -/
def normalAllows (initiator : Nat) (write bar : Bool) (addr len : Nat) (s : State) : Bool :=
  !(bar && factoryBarRefuses initiator write addr len) &&
    (bar || !Config.touchesStrongroom addr len && (List.range 32).any (fun i => ruleCovers initiator write addr len (tabGet fwRuleReset s.sec.rules i)))

/-- FIREWALL_ACCESS: a refused read returns all ones, a refused write is dropped, and a refused host access completes with Unsupported
Request; the event carries the initiator and the address (R383, R384). Assumption 34. -/
def execFirewallAccess (secure : Bool) (initiator : Nat) (write bar : Bool) (addr len : Nat) (s : State) : Result :=
  if secure || normalAllows initiator write bar addr len s then
    .next { s with sec := { s.sec with inFlight := s.sec.inFlight + 1, unsupported := false } }
  else
    let s := { s with sec := { s.sec with unsupported := initiator == 1 || initiator == 2 } }
    let s := if write then s else { s with readBack := List.replicate ((len + 3) / 4) 0xFFFFFFFF }
    .next (raise 0x0A0A 1927 .major (wordOf initiator) (wordOf addr) (countSec 9 1 s))

/-- The first waiting rule write takes effect; a locked rule does not change, and the accesses that have not completed were checked under
the old rule (R383, R385). -/
def applyRuleWrite (s : State) : State :=
  match s.sec.ruleWrites with
  | [] => s
  | (i, r) :: _ =>
    let rules := if bitOf (tabGet fwRuleReset s.sec.rules i).flags 3 then s.sec.rules else tabSet fwRuleReset s.sec.rules i r
    { s with sec := { s.sec with rules := rules, oldFlight := s.sec.inFlight, inFlight := 0, ruleAt := s.clock.now } }

/-- FW_RULE_WRITE: rule writes are taken one at a time, in order (R383, R385). Assumption 34. -/
def execFwRuleWrite (rule : Nat) (base limit flags : Word) (s : State) : Result :=
  let first := s.sec.ruleWrites.isEmpty
  let s := { s with sec := { s.sec with ruleWrites := s.sec.ruleWrites ++ [(rule, ⟨base, limit, flags &&& 0xFF⟩)] } }
  if first then .next (applyRuleWrite s) else .next s

/-- FIREWALL_DRAIN: accesses complete. Of those checked under the old rule the rest is aborted and counted 1 µs after the write, which is
then acknowledged, and the next write takes effect (R385). -/
def execFirewallDrain (completed : Nat) (s : State) : Result :=
  match s.sec.ruleWrites with
  | [] => .next { s with sec := { s.sec with inFlight := s.sec.inFlight - completed } }
  | _ :: rest =>
    let aborted := s.sec.oldFlight - completed
    let s := if 0 < aborted then advanceTo (s.sec.ruleAt + usCc) s else s
    let s := countSec 10 aborted s
    .next (applyRuleWrite { s with sec := { s.sec with oldFlight := 0, ruleWrites := rest } })

end Sys2Proof.Machine
end

