-- ==== Sys2Proof/Machine/Servo.lean ====
section
/-! DEFINITION. The time servo: hub offsets, the two PI filters, and the transitions of R402 at each superframe point (R400 to R404).
Quantities are in units of 2^-48 ns and 2^-48 ns per second, rounded to the nearest (assumption 19). -/

namespace Sys2Proof.Machine

/-- One ns. Assumption 19. -/
def nsUnit : Int := 2 ^ 48

/-- Inserts into a rising list. -/
def insertInt (x : Int) : List Int → List Int
  | [] => [x]
  | y :: ys => if x ≤ y then x :: y :: ys else y :: insertInt x ys

/-- The median; with an even count the mean of the two middle values (R400). -/
def median (xs : List Int) : Int :=
  let ys := xs.foldr insertInt []
  let n := ys.length
  if n % 2 = 1 then ys.getD (n / 2) 0 else roundDiv (ys.getD (n / 2 - 1) 0 + ys.getD (n / 2) 0) 2

/-- The plane offset of a usable plane over the superframe just ended (R400). -/
def planeOffset (e : PlaneTime) : Option Int := if e.broken || e.count == 0 then none else some (roundDiv e.sum e.count)

/-- The usable planes of a hub with their offsets. -/
def planeOffsets (h : Hub) (t : Time) : List (Nat × Int) :=
  (List.range 16).filterMap (fun p => (planeOffset (planeTime h p t)).map (fun e => (p, e)))

/-- A plane's runs against its hub's median (R400). Assumption 19. -/
def judgePlane (mid : Int) (e : PlaneTime) : PlaneTime :=
  match planeOffset e with
  | none => { e with outRun := 0, inRun := 0 }
  | some o =>
    let d := (o - mid).natAbs
    let far := decide (20 * nsUnit < d)
    let near := decide ((d : Int) ≤ 10 * nsUnit)
    let e := { e with outRun := if far then e.outRun + 1 else 0, inRun := if near then e.inRun + 1 else 0 }
    { e with outlier := (e.outlier && e.inRun < 64) || 8 ≤ e.outRun }

/-- A domain's quantities after its filter has run (R401), with the runs that R402 reads. -/
def filterHub (now : Nat) (c : TimeConfig) (e : Option Int) (mask : Nat) (d : HubTime) : HubTime :=
  match e with
  | none =>
    { d with out := d.integ, usable := false, planes := 0, unusableRun := d.unusableRun + 1, usableSince := none, overRun := 0 }
  | some e =>
    let integ := clampInt (-10 * nsUnit) (10 * nsUnit) (d.integ + roundDiv (e * 131072) (2 ^ c.ki * 10 ^ 6))
    { integ := integ, out := clampInt (-10 * nsUnit) (10 * nsUnit) (roundDiv e (2 ^ c.kp) + integ), offset := e,
      usable := true, planes := mask, unusableRun := 0, usableSince := some (d.usableSince.getD (now - superframeCc)),
      overRun := if (c.stepLimit : Int) * 100 * nsUnit < e.natAbs then d.overRun + 1 else 0 }

/-- A hub's quantities. -/
def hubTime (h : Hub) (t : Time) : HubTime := match h with | .a => t.hubA | .b => t.hubB

/-- Replaces a hub's quantities. -/
def setHubTime (h : Hub) (d : HubTime) (t : Time) : Time :=
  match h with
  | .a => { t with hubA := d }
  | .b => { t with hubB := d }

/-- Measures a hub over the superframe just ended and runs its filter (R400, R401). Assumption 19. -/
def measureHub (now : Nat) (h : Hub) (t : Time) : Time :=
  let os := planeOffsets h t
  let mid := median (os.map (fun o => o.2))
  let t := { t with planes := (List.range 16).foldl (fun ps p =>
      tabMod planeTimeReset ps (16 * hubCode h + p) (judgePlane mid)) t.planes }
  setHubTime h
    (filterHub now t.cfg (if os.isEmpty then none else some mid) (os.foldl (fun m o => m + 2 ^ o.1) 0) (hubTime h t)) t

/-- The runs of R404, and the new condition of TIME_DIVERGE. -/
def judgeDivergence (t : Time) : Time :=
  if t.hubA.usable && t.hubB.usable then
    let d := (t.hubA.offset - t.hubB.offset).natAbs
    { t with
      divRun := if 100 * nsUnit < d then t.divRun + 1 else 0
      convRun := if (d : Int) ≤ 80 * nsUnit then t.convRun + 1 else 0 }
  else { t with divRun := 0, convRun := 0 }

/-- What the servo does at a superframe point (R402). -/
inductive ServoAction where
  | stay
  /-- UNSET ends with a step to a hub. -/
  | begin_ (h : Hub)
  /-- Selects the other domain. -/
  | switchTo (h : Hub)
  | holdOver
  | step
  /-- HOLDOVER ends with a hub. -/
  | recover (h : Hub)
deriving DecidableEq, Repr

/-- A hub may be selected: the primary always, the Understudy while TIME_DIVERGE is not held (R402, R404). -/
def selectable (h : Hub) (t : Time) : Bool := (hubTime h t).usable && (h == t.cfg.primary || t.diverge.isNone)

/-- The row of R402 that matches first. -/
def servoAction (now : Nat) (t : Time) : ServoAction :=
  let primary := t.cfg.primary
  let under := otherHub primary
  match t.phase with
  | .unset =>
    if (hubTime primary t).usable then .begin_ primary else if selectable under t then .begin_ under else .stay
  | .tracking =>
    let other := otherHub t.selected
    if 2 ≤ (hubTime t.selected t).unusableRun then if selectable other t then .switchTo other else .holdOver
    else if t.selected == under && t.cfg.revertive && t.diverge.isNone &&
        (match (hubTime primary t).usableSince with | some u => decide (10 * secCc ≤ now - u) | none => false) then
      .switchTo primary
    else if 16 ≤ (hubTime t.selected t).overRun then .step
    else .stay
  | .holdover =>
    if (hubTime primary t).usable then .recover primary else if selectable under t then .recover under else .stay

/-- A domain after a step: both integrators are clear (R402). -/
def clearDomain (d : HubTime) : HubTime := { d with integ := 0, out := 0, overRun := 0 }

/-- The selected domain steps the output time: the step, and the servo after it. -/
def stepDomain (t : Time) : Int × Time :=
  let d := hubTime t.selected t
  (-d.offset, setHubTime t.selected (clearDomain d) t)

/-- The event of a step: its size in ns, low word first. -/
def stepEvent (v : Int) (s : State) : State :=
  let n := unsignedOf 64 (unitsNs v)
  raise 0x0B01 1928 .minor (lowWord n) (highWord n) (modTime (fun t => { t with steps := satAdd 16 t.steps 1 }) s)

/-- Carries out an action: the step to apply and the state. Assumption 19. -/
def servoAct (a : ServoAction) (s : State) : Int × State :=
  match a with
  | .stay => (0, s)
  | .begin_ h =>
    let (v, t) := stepDomain { s.time with phase := .tracking, selected := h }
    (v, { s with time := t })
  | .switchTo h =>
    (0, raise 0x0B02 1928 .info (wordOf (if h = s.time.cfg.primary then 0 else 1)) 0
      (modTime (fun t => { t with selected := h, switches := satAdd 16 t.switches 1 }) s))
  | .holdOver =>
    (0, hold 0x0B03 1928 .major 0 0 (modTime (fun t => { t with phase := .holdover, holdovers := satAdd 16 t.holdovers 1 }) s))
  | .step =>
    let (v, t) := stepDomain s.time
    (v, stepEvent v { s with time := t })
  | .recover h =>
    let t := { s.time with phase := .tracking, selected := h }
    let s := clear 0x0B03 1928 0 0 { s with time := t }
    if (t.cfg.stepLimit : Int) * 100 * nsUnit < (hubTime h t).offset.natAbs then
      let (v, t) := stepDomain s.time
      (v, stepEvent v { s with time := t })
    else (0, s)

/-- The steering rate that the servo's state gives (R401). -/
def servoRate (t : Time) : Int :=
  match t.phase with
  | .unset => 0
  | .tracking => (hubTime t.selected t).out
  | .holdover => (hubTime t.selected t).integ

/-- The outlier events of a hub's planes (R400): one held condition for each hub and plane. Assumption 55. -/
def outlierEvents (s : State) : State :=
  forEach (fun i s => holdIf (tabGet planeTimeReset s.time.planes i).outlier 0x0B05 1928 .minor (wordOf i) 0 s) (List.range 32) s

/-- TIME_DIVERGE is raised or cleared; its record carries e(A) - e(B) in ps (R404; assumption 20). -/
def divergeEvent (s : State) : State :=
  match s.time.diverge with
  | none =>
    if 8 ≤ s.time.divRun then
      let w := wordOfInt (clampInt (-(2 ^ 31)) (2 ^ 31 - 1) (unitsPs (s.time.hubA.offset - s.time.hubB.offset)))
      hold 0x0B04 1928 .major w 0 (modTime (fun t => { t with diverge := some w }) s)
    else s
  | some w =>
    if 64 ≤ s.time.convRun then clear 0x0B04 1928 w 0 (modTime (fun t => { t with diverge := none }) s) else s

/-- A configuration that waits takes effect; in UNSET the selected domain is the primary (R402, R403, R417; assumption 20). -/
def applyTimeConfig (t : Time) : Time :=
  match t.pendingCfg with
  | none => t
  | some c => { t with cfg := c, pendingCfg := none, selected := if t.phase = .unset then c.primary else t.selected }

/-- The measurements start again for the superframe that begins. -/
def restartMeasure (s : State) : State :=
  modTime (fun t =>
    { t with
      planes := (List.range 32).foldl (fun ps i => tabMod planeTimeReset ps i (fun e =>
        { e with sum := 0, count := 0, broken := !timeUsable (hubOf (i / 16 == 1)) (i % 16) s })) t.planes
      asym := s.join.cfg.asym }) s

/-- The rate and a step of the output time take effect at the next slot boundary, and the measurements start anew (R402). Assumption 55. -/
def steerBy (v : Int) (s : State) : State :=
  restartMeasure { s with clock := { s.clock with steer := some ⟨s.clock.slotAt + slotCc, servoRate s.time, v⟩ } }

/-- SERVO_UPDATE: the superframe point (R400 to R404). -/
def execServoUpdate (s : State) : Result :=
  let s := toSlot (nextBoundary s) s
  let s := modTime (fun t => judgeDivergence (measureHub s.clock.now .b (measureHub s.clock.now .a (applyTimeConfig t)))) s
  let s := divergeEvent (outlierEvents s)
  let r := servoAct (servoAction s.clock.now s.time) s
  .next (steerBy r.1 r.2)

end Sys2Proof.Machine
end

