-- ==== Sys2Proof/Machine/TileEvents.lean ====
section
/-! DEFINITION. The tile machine (R484, R485). -/

namespace Sys2Proof.Machine

/-- A tile, and rewriting it. -/
def tileAt (t : Nat) (s : State) : Tile := tabGet tileReset s.ev.tiles t
def modTile (t : Nat) (g : Tile → Tile) (s : State) : State := { s with ev := { s.ev with tiles := tabMod tileReset s.ev.tiles t g } }

/-- TILE_LINK_LOST: the tile's gates are shut and its transmitters are OFF; its receive lanes are dark (R484). Assumption 80. -/
def execTileLinkLost (tile : Nat) (s : State) : Result :=
  if (tileAt tile s).phase ≠ .running then .next s
  else
    let s := modTile tile (fun t => { t with phase := .retrain, attempts := 0, tryFrom := s.clock.now }) s
    .next (hold 0x0D01 (srcTile tile) .major 0 0 (forEach powerOffTx (tileTxs tile) s))

/-- TILE_DEGRADED: link errors while RUNNING (R484). -/
def execTileDegraded (tile : Nat) (s : State) : Result :=
  if (tileAt tile s).phase ≠ .running then .next s else .next (hold 0x0D02 (srcTile tile) .minor 0 0 s)

/-- TILE_DEGRADED_CLEAR: 1 s without link errors (R485). -/
def execTileDegradedClear (tile : Nat) (s : State) : Result := .next (clear 0x0D02 (srcTile tile) 0 0 s)

/-- The power cycles of a tile within the last hour. -/
def recentCycles (t : Tile) (now : Nat) : List Nat := t.cycles.filter (fun c => now ≤ c + 3600 * secCc)

/-- Three attempts have failed: a power cycle of the tile alone that ends 100 ms later, or, after a power cycle with three of them within
1 h, FAILED (R484). -/
def threeFailed (tile n : Nat) (s : State) : State :=
  let recent := recentCycles (tileAt tile s) s.clock.now
  if 3 < n && 3 ≤ recent.length then
    hold 0x0D04 (srcTile tile) .critical 0 0 (modTile tile (fun t => { t with phase := .failed, attempts := 0, record := true }) s)
  else
    modTile tile (fun t => { t with
      attempts := n, cycles := recent ++ [s.clock.now], tryFrom := s.clock.now + 100 * msCc }) s

/-- TILE_RETRAIN: one training attempt ends, no sooner than the power cycle before it; one that fails ends after 10 ms (R32, R484).
Assumption 67. -/
def execTileRetrain (tile : Nat) (trained : Bool) (s : State) : Result :=
  if (tileAt tile s).phase ≠ .retrain then .next s
  else if trained then
    let s := advanceTo (tileAt tile s).tryFrom s
    let s := modTile tile (fun t => { t with phase := .running, attempts := 0, record := false }) s
    .next (raise 0x0D03 (srcTile tile) .info 0 0 (clear 0x0D01 (srcTile tile) 0 0 s))
  else
    let s := advanceTo ((tileAt tile s).tryFrom + 10 * msCc) s
    let n := (tileAt tile s).attempts + 1
    if n % 3 = 0 then .next (threeFailed tile n s)
    else .next (modTile tile (fun t => { t with attempts := n, tryFrom := s.clock.now }) s)

end Sys2Proof.Machine
end

