-- ==== Sys2Proof/Machine/TribRows.lean ====
section
/-! DEFINITION. The tributary commands 0x0701 to 0x0707 and the swap of the pages (R271 to R277, R281, R282). -/

namespace Sys2Proof.Machine

/-- TRIB_GROUP_CREATE (R264, R281, R282). -/
def execTribGroupCreate (src : Source) (tag : Nat) (req : List Word) (s : State) : Result :=
  let a := wordAt req 0
  let sd := fieldOf (wordAt req 2) 0 16
  let map := fieldOf (wordAt req 1) 0 17
  let c : GroupConfig :=
    { groupConfigReset with
      number := fieldOf a 0 10, farTn := fieldOf a 16 5, sdLimit := if sd = 0 then 40 else sd, trib := true, pn0832 := bitOf a 24 }
  command src tag req ⟨3, pf0Only src, false⟩ (fun s =>
    if 29 < c.farTn || fieldOf (wordAt req 1) 17 15 != 0 || map == 0 || (c.pn0832 && 4 < mapCount map) then refuse .badArg s
    else if (groupNumbered c.number s).isSome then refuse .conflict s
    else if 512 < membersInUse s + mapCount map then refuse .noResource s
    else
      match nextIndex .expressGroup s with
      | none => refuse .noResource s
      | some i =>
        let s := openGroup i c map s
        okay [handleOf 0x01 i s] (modGroup i (fun g => { g with clientAis := false }) s)) s

/-- TRIB_CREATE: a client tributary needs a single-lane port of its type in circuit mode: 25GBASE-R is port type 5 and 10GBASE-R type
6 (R268, R281 to R283). -/
def execTribCreate (src : Source) (tag : Nat) (req : List Word) (s : State) : Result :=
  let a := wordAt req 0
  let t := fieldOf a 0 1
  let client := bitOf a 8
  let lane := if client then fieldOf a 16 8 else 0
  command src tag req ⟨1, pf0Only src, false⟩ (fun s =>
    let p := (portOf lane s).cfg
    if client && (p.ptype != (if t = 0 then 6 else 5) || !p.circuit || (laneTributary lane s).isSome) then refuse .conflict s
    else
      match nextIndex .tributary s with
      | none => refuse .noResource s
      | some i =>
        let s := openChan .tributary i s
        let s := modTrib i (fun _ => { tributaryReset with ttype := t, client := client, lane := lane }) s
        okay [handleOf 0x02 i s] (if client then carryPort lane true s else s)) s

/-- TRIB_DESTROY (R282). -/
def execTribDestroy (src : Source) (tag : Nat) (req : List Word) (s : State) : Result :=
  command src tag req ⟨1, pf0Only src, false⟩ (fun s =>
    withHandle .tributary (wordAt req 0) s (fun i =>
      if s.express.stage.any (fun e => entryValid e.2 && entryCirc e.2 == i) then refuse .conflict s
      else
        let c := tribOf i s
        let s := clear 0x0701 (tribSource c) (if c.client then 0 else handleOf 0x02 i s) 0 s
        let s := modExpress (fun x => { x with
          wings := tabMap 0 (fun _ e => if entryValid e && entryCirc e == i then BitVec.ofNat 64 (e.toNat % 2 ^ 63) else e) x.wings
          tribs := tabSet tributaryReset x.tribs i tributaryReset }) s
        okay [] (closeChan .tributary i (if c.client then carryPort c.lane false s else s)))) s

/-- One end of an entry is in range: a tributary slot of a member, or a part of a client lane (R271). -/
def endOk (part : Bool) (e : Nat × Nat × Nat) : Bool :=
  if part then e.1 ≤ 255 && e.2.1 == 0 && e.2.2 ≤ 4 else e.2.1 ≤ 16 && e.2.2 ≤ 9

/-- The fields of an entry are in range and its circuit is live (R271, R282). -/
def entryFieldsOk (e : BitVec 64) (s : State) : Bool :=
  !entryValid e || (entryCirc e < 2048 && (chanSlot 0x02 (entryCirc e) s).live && endOk (srcIsPart e) (entrySrc e) &&
    endOk (dstIsPart e) (entryDst e) && (!srcIsPart e || (entrySrc e).2.2 < tribParts (tribOf (entryCirc e) s).ttype) &&
    (!dstIsPart e || (entryDst e).2.2 < tribParts (tribOf (entryCirc e) s).ttype))

/-- The place where an end of an entry lies: a member of a group, or a client lane (R271). Assumption 94. -/
def endPlace (e : Nat × Nat × Nat) : Nat × Nat := (e.1, e.2.1)

/-- Two entries lead into one destination: one sent member, or one client lane (R272). Assumption 94. -/
def sameDestination (a b : BitVec 64) : Bool := dstIsPart a == dstIsPart b && endPlace (entryDst a) == endPlace (entryDst b)

/-- Two entries of one circuit place its parts in different members at one container (R268, R272; assumption 94): parts that go to one
group in different members of it, or parts of one destination that come from different members. -/
def partsApart (a b : BitVec 64) : Bool :=
  (!dstIsPart a && !dstIsPart b && (entryDst a).1 == (entryDst b).1 && (entryDst a).2.1 != (entryDst b).2.1) ||
    (sameDestination a b && !srcIsPart a && !srcIsPart b && endPlace (entrySrc a) != endPlace (entrySrc b))

/-- Two valid entries conflict (R272): one destination twice; parts of a circuit in different members at one container; or one part
twice at one destination. Assumption 94. -/
def entriesConflict (a b : BitVec 64) : Bool :=
  (dstIsPart a == dstIsPart b && entryDst a == entryDst b) ||
    (entryCirc a == entryCirc b &&
      (partsApart a b || (sameDestination a b && srcIsPart a == srcIsPart b && entrySrc a == entrySrc b)))

/-- A swap is pending, or takes place in this cycle (R276). -/
def swapBusy (s : State) : Bool :=
  s.express.swap.isSome || (match s.express.swapped with | some (_, t) => t == s.clock.now | none => false)

/-- WINGS_WRITE (R271, R272, R276, R281, R282). -/
def execWingsWrite (src : Source) (tag : Nat) (req : List Word) (s : State) : Result :=
  let k := fieldOf (wordAt req 0) 0 12
  let e := BitVec.ofNat 64 (((wordAt req 1).toNat + 2 ^ 32 * (wordAt req 2).toNat) / 2 ^ 11 * 2 ^ 11)
  command src tag req ⟨3, pf0Only src, false⟩ (fun s =>
    if !entryFieldsOk e s then refuse .badArg s
    else if entryValid e && s.express.wings.any (fun w => w.1 != k && entryValid w.2 && entriesConflict e w.2) then
      refuse .conflict s
    else if swapBusy s then refuse .busy s
    else okay [] (modExpress (fun x => { x with wings := tabSet 0 x.wings k e }) s)) s

/-- PAGE_READ (R281, R282). -/
def execPageRead (src : Source) (tag : Nat) (req : List Word) (s : State) : Result :=
  let a := wordAt req 0
  let k := fieldOf a 0 12
  let n := fieldOf a 16 5
  command src tag req ⟨1, true, false⟩ (fun s =>
    if n == 0 || 16 < n || 4096 < k + n then refuse .badArg s
    else
      let page := if bitOf a 24 then s.express.wings else s.express.stage
      okay ((List.range n).flatMap (fun i =>
        let e := (tabGet 0 page (k + i)).toNat
        [lowWord e, highWord e])) s) s

/-- WINGS_COPY (R276, R277, R282). -/
def execWingsCopy (src : Source) (tag : Nat) (req : List Word) (s : State) : Result :=
  command src tag req ⟨0, pf0Only src, false⟩ (fun s =>
    if s.express.swap.isSome then refuse .busy s
    else okay [] (modExpress (fun x => { x with wings := x.stage }) s)) s

/-- The preparation cutoff of the boundary of an SFN has not passed: slot 120 of the superframe before it (R275). -/
def beforeCutoff (sfn : Nat) (s : State) : Bool :=
  s.clock.slot < 128 * sfn - 8 || (s.clock.slot == 128 * sfn - 8 && s.clock.now == s.clock.slotAt)

/-- The first SFN whose cutoff lies ahead (R275). -/
def firstSfn (s : State) : Nat := let n := nowSfn s + 1; if beforeCutoff n s then n else n + 1

/-- The words of PAGE_SWAP (R281). -/
def swapWords (eff asked : Nat) : List Word := [lowWord eff, pack [(0, eff / 2 ^ 32 % 65536), (16, bitNat (eff != asked))]]

/-- PAGE_SWAP: a request, or the cancel of the pending one. A cancel with nothing pending has nothing to cancel and answers the
requested SFN (R275, R276, R281, R282). Assumption 49. -/
def execPageSwap (src : Source) (tag : Nat) (req : List Word) (s : State) : Result :=
  let sfn := (wordAt req 1).toNat + 2 ^ 32 * fieldOf (wordAt req 2) 0 16
  command src tag req ⟨3, pf0Only src, false⟩ (fun s =>
    if bitOf (wordAt req 0) 0 then
      match s.express.swap with
      | none => okay (swapWords sfn sfn) s
      | some n =>
        if beforeCutoff n s then okay (swapWords n sfn) (modExpress (fun x => { x with swap := none, elasticNext := [] }) s) else refuse .conflict s
    else if sfn ≤ nowSfn s then refuse .badArg s
    else if s.express.swap.isSome then refuse .conflict s
    else
      let eff := if beforeCutoff sfn s then sfn else firstSfn s
      okay (swapWords eff sfn) (modExpress (fun x => { x with swap := some eff }) s)) s

/-- The elastic store of an entry after a swap: it goes on where the source is the same; else it is what containers of the new page's
slots have made of it, or it stands centred (R273, R274). Assumption 25. -/
def swappedStore (x : Express) (k : Nat) : Option (List TribSlot) :=
  if sameSource (tabGet 0 x.stage k) (tabGet 0 x.wings k) then tabGet none x.elastic k else tabGet none x.elasticNext k

/-- PAGE_SWAPPED: slot 0 of the effective SFN: the wings page becomes the stage page (R273, R274, R279). -/
def execPageSwapped (s : State) : Result :=
  match s.express.swap with
  | none => .next s
  | some n =>
    let s := toSlot (128 * n) s
    let s := modExpress (fun x => { x with
      stage := x.wings, wings := x.stage, swap := none, swapped := some (n, s.clock.now), elasticNext := []
      elastic := x.wings.foldl (fun t e => tabSet none t e.1 (swappedStore x e.1)) [] }) s
    .next (raise 0x0702 srcTrib .info (lowWord n) (wordOf (n / 2 ^ 32 % 65536)) s)

end Sys2Proof.Machine
end

