-- ==== Sys2Proof/Machine/TxRows.lean ====
section
/-! DEFINITION. The transmit commands 0x0401 to 0x0406 (R193 to R195) and the transmitter events of heating, table load,
recalibration, drift supervision and laser cut (R183 to R189). -/

namespace Sys2Proof.Machine

/-- The status word of a transmitter (R194). -/
def txStatusWord (t : Transmitter) : Word :=
  let parked := t.channel == 64
  pack [(0, txPhaseCode t.phase), (3, txReasonCode t.reason), (7, if parked then 63 else t.channel), (13, bitNat parked),
    (14, bitNat t.trimHigh)]

/-- TX_STATUS (R194, R195). -/
def execTxStatus (src : Source) (tag : Nat) (req : List Word) (s : State) : Result :=
  let first := fieldOf (wordAt req 0) 0 9
  let count := fieldOf (wordAt req 0) 16 7
  command src tag req ⟨1, true, false⟩ (fun s =>
    if count == 0 || 64 < count || 512 < first + count then refuse .badArg s
    else okay ((List.range count).map (fun i => txStatusWord (txOf (first + i) s))) s) s

/-- TX_SERVICE op 0: the transmitter leaves service at the slot boundary (R189, R191). -/
def serviceOut (x : Nat) (s : State) : Reply × State :=
  let (p, r) := nextPhase x s
  if p == .off || p == .failed then refuse .conflict s
  else if p == .out && r == .host then okay [] s
  else okay [] (awaitChange x (.leave .host) s)

/-- TX_SERVICE op 1: the transmitter returns to service at the slot boundary (R189). -/
def serviceIn (x : Nat) (s : State) : Reply × State :=
  let (p, r) := nextPhase x s
  if p == .failed then
    if r == .power || r == .retune then okay [] (awaitChange x .returned s) else refuse .conflict s
  else if p == .out then
    if r == .drift then refuse .conflict s else okay [] (awaitChange x .returned s)
  else okay [] s

/-- TX_SERVICE (R189, R194, R195). The request field holds 9 bits; the terminal has 512 transmitters. -/
def execTxService (src : Source) (tag : Nat) (req : List Word) (s : State) : Result :=
  let x := fieldOf (wordAt req 0) 0 9
  command src tag req ⟨1, pf0Only src, false⟩ (fun s =>
    if bitOf (wordAt req 0) 16 then serviceIn x s else serviceOut x s) s

/-- TX_COUNTERS (R193 to R195). -/
def execTxCounters (src : Source) (tag : Nat) (req : List Word) (s : State) : Result :=
  let x := fieldOf (wordAt req 0) 0 9
  let clear := bitOf (wordAt req 0) 16
  command src tag req ⟨1, readOrPf0 src clear, false⟩ (fun s =>
    okay ((txOf x s).counters.map wordOf)
      (cleared clear (modTx x (fun t => { t with counters := List.replicate 8 0 })) s)) s

/-- The five words of one tuning-table entry; the DAC codes and the slope are the module's own (R185, R194). -/
def tuneEntryWords (x w : Nat) (t : Transmitter) : List Word :=
  [Config.tuning x w 0, Config.tuning x w 1, Config.tuning x w 2, wordOfInt (tabGet 0 t.trims w), wordOf (tabGet 0 t.lastStep w)]

/-- TUNE_TABLE_READ (R194, R195). -/
def execTuneTableRead (src : Source) (tag : Nat) (req : List Word) (s : State) : Result :=
  let x := fieldOf (wordAt req 0) 0 9
  let first := fieldOf (wordAt req 0) 16 7
  let count := fieldOf (wordAt req 0) 24 4
  command src tag req ⟨1, true, false⟩ (fun s =>
    if first < 2 || count == 0 || 8 < count || 65 < first + count then refuse .badArg s
    else if (txOf x s).phase == .off then refuse .notReady s
    else okay ((List.range count).flatMap (fun i => tuneEntryWords x (first + i) (txOf x s))) s) s

/-- TX_CONFIG: calibration waits for the superframe boundary; the rest applies from the next selection window (R188, R194). -/
def execTxConfig (src : Source) (tag : Nat) (req : List Word) (s : State) : Result :=
  let w := wordAt req 0
  let j := fieldOf w 8 8
  command src tag req ⟨1, pf0Only src, false⟩ (fun s =>
    if j == 0 then refuse .badArg s
    else
      okay [] { s with tx := { s.tx with
        cfg := { s.tx.cfg with splitEnable := bitOf w 1, jumboWait := j }, calPending := some (bitOf w 0) } }) s

/-- TRIM_RESET: the trims return to 0 at the next superframe boundary (R188, R195). -/
def execTrimReset (src : Source) (tag : Nat) (req : List Word) (s : State) : Result :=
  let x := fieldOf (wordAt req 0) 0 9
  command src tag req ⟨1, pf0Only src, false⟩ (fun s => okay [] (modTx x (fun t => { t with trimReset := true }) s)) s

/-! ### Events -/

/-- TABLE_LOAD: at tile power-up the tuning table loads; a correct check code starts the pedestal loop, a wrong one fails the
transmitter (R185, R189). -/
def execTableLoad (x : Nat) (checkOk : Bool) (s : State) : Result :=
  if (nextPhase x s).1 ≠ .off then .next s else .next (awaitChange x (if checkOk then .loaded else .fail .table) s)

/-- A WARMING transmitter whose loop is settled and whose dark check has passed in 16 guards becomes READY (R189). -/
def maybeReady (x : Nat) (s : State) : State :=
  let t := txOf x s
  if (nextPhase x s).1 == .warming && t.settled && 16 ≤ t.guards then awaitChange x .ready s else s

/-- PEDESTAL_SETTLED (R189, R520). -/
def execPedestalSettled (x : Nat) (s : State) : Result :=
  .next (maybeReady x (modTx x (fun t => { t with settled := true }) s))

/-- PEDESTAL_UNSETTLED: a READY transmitter returns to WARMING (R189, R520). -/
def execPedestalUnsettled (x : Nat) (s : State) : Result :=
  let s := modTx x (fun t => { t with settled := false }) s
  if (nextPhase x s).1 == .ready then .next (awaitChange x .unsettled s) else .next s

/-- TRIM_CHECKPOINT: the trims go to MRAM every second (R185). -/
def execTrimCheckpoint (s : State) : Result :=
  .next { s with tx := { s.tx with
    txs := tabMap txReset (fun _ t => { t with checkpoint := t.trims, checkpointOld := t.checkpoint }) s.tx.txs } }

/-- TILE_LASER_CUT: 10 µs after a gate cut light is still present, and the whole tile's laser supply goes off: every transmitter
of the tile fails with TILE_CUT (R183). -/
def execTileLaserCut (x : Nat) (stillHigh : Bool) (s : State) : Result :=
  match (txOf x s).cutAt with
  | none => .next s
  | some t =>
    let s := modTx x (fun t => { t with cutAt := none }) (advanceTo (t + 10 * usCc) s)
    if stillHigh then .next (forEach (fun y s => cutTx y .tileCut s) (tileTxs (x / 64)) s) else .next s

/-- The recalibration step of one entry: a quarter of the mean error, turned, within ±50 MHz (R186; assumption 8). Assumption 81. -/
def trimStep (acc : Int) (n : Nat) : Int := clampInt (-50) 50 (-(acc.tdiv n).tdiv 4)

/-- Adds to a trim; a sum past ±25,000 MHz is not applied, and the flag tells (R187). A step that is not applied is not counted, but
stands in the sum and in `used`, and its entry starts afresh (assumption 81). -/
def addTrim (w : Nat) (d : Int) (t : Transmitter) : Bool × Transmitter :=
  let v := tabGet 0 t.trims w + d
  if v < -25000 ∨ 25000 < v then (true, t) else (false, { t with trims := tabSet 0 t.trims w v })

/-- The first loop of R186 over the entries in order: own steps; the sum and the number of the steps; whether one was past the
range. Assumption 81. -/
def ownSteps (sfn : Nat) : List Nat → Transmitter → Int → Nat → Bool → Transmitter × Int × Nat × Bool
  | [], t, sum, used, past => (t, sum, used, past)
  | w :: ws, t, sum, used, past =>
    let n := tabGet 0 t.accN w
    if n < 16 then ownSteps sfn ws t sum used past
    else
      let step := trimStep (tabGet 0 t.acc w) n
      let (p, t) := addTrim w step t
      let t := { t with
        lastStep := tabSet 0 t.lastStep w sfn, acc := tabSet 0 t.acc w 0, accN := tabSet 0 t.accN w 0,
        counters := if p then t.counters else bump 5 1 t.counters }
      ownSteps sfn ws t (sum + step) (used + 1) (past || p)

/-- The second loop of R186: the common-mode share of the entries with no own step for 64 superframes. -/
def commonSteps (sfn : Nat) (share : Int) : List Nat → Transmitter → Bool → Transmitter × Bool
  | [], t, past => (t, past)
  | w :: ws, t, past =>
    if 64 ≤ sfn - tabGet 0 t.lastStep w then
      let (p, t) := addTrim w share t
      commonSteps sfn share ws t (past || p)
    else commonSteps sfn share ws t past

/-- Some trim has passed ±20,000 MHz (R187). -/
def trimsHigh (t : Transmitter) : Bool := t.trims.any (fun e => decide (e.2 < -20000 ∨ 20000 < e.2))

/-- Entries 2 to 63, and with park (64). -/
def dataEntries : List Nat := (List.range 62).map (· + 2)

/-- The recalibration of one transmitter at a superframe boundary (R186, R187). Assumption 8. -/
def recalibrate (sfn x : Nat) (s : State) : State :=
  let (t, sum, used, past) := ownSteps sfn dataEntries (txOf x s) 0 0 false
  let (t, past) := if used = 0 then (t, past) else commonSteps sfn (sum.tdiv used) (dataEntries ++ [64]) t past
  let first := trimsHigh t && !t.trimHigh
  let s := modTx x (fun _ => { t with trimHigh := t.trimHigh || first }) s
  let s := if first then raise 0x0405 (srcTx x) .minor 0 0 s else s
  if past && (nextPhase x s).1 != .failed then awaitChange x (.fail .trim) s else s

/-- RECALIBRATION: at a superframe boundary the trims are stepped while calibration is enabled, and then the calibration setting
and the trim resets that wait take effect (R186 to R188). -/
def execRecalibration (sfn : Nat) (s : State) : Result :=
  let s := if s.tx.cfg.calEnable then forEach (recalibrate sfn) (s.tx.txs.map (fun e => e.1)) s else s
  .next { s with tx := { s.tx with
    txs := tabMap txReset (fun _ t => if t.trimReset then { t with trims := [], trimReset := false } else t) s.tx.txs
    cfg := { s.tx.cfg with calEnable := s.tx.calPending.getD s.tx.cfg.calEnable }, calPending := none } }

/-- The readings of a plane in the superframe: the wavelengths with a baseline and at least one reading. -/
def driftRows (p : Nat) (s : State) : Tab Arrival :=
  s.tx.arrivals.filter (fun e => e.1 / 64 == p && e.2.baseline.isSome && e.2.count != 0)

/-- The drift of a plane over the superframe, in sixteenths of a line bit, as a fraction: the mean over the wavelengths with readings of
the mean reading less the baseline (R184). -/
def driftOf (p : Nat) (s : State) : Int × Nat :=
  let rows := driftRows p s
  let f := rows.foldl (fun (a : Int × Nat) e =>
    (a.1 * e.2.count + (e.2.sum - e.2.baseline.getD 0 * e.2.count) * a.2, a.2 * e.2.count)) (0, 1)
  (f.1, f.2 * max 1 rows.length)

/-- DRIFT_SUPERVISION: once a superframe the drift of a plane is judged: the equalisation event above 16 line bits, every READY
transmitter OUT above 24, and back at 16 or less. A superframe with no reading changes nothing (R184). -/
def execDriftSupervision (plane : Nat) (s : State) : Result :=
  if (driftRows plane s).isEmpty then .next s
  else
  let (n, d) := driftOf plane s
  let high := 256 * d < n.natAbs
  let off := 384 * d < n.natAbs
  let s := holdIf high 0x020B (srcPlane plane 5) .minor 0 0 s
  let s := { s with tx := { s.tx with
      arrivals := tabMap arrivalReset (fun k a => if k / 64 == plane then { a with sum := 0, count := 0 } else a) s.tx.arrivals
      driftHigh := if high then (s.tx.driftHigh.filter (· != plane)) ++ [plane] else s.tx.driftHigh.filter (· != plane) } }
  if off then .next (forEach (fun x s => if (nextPhase x s).1 == .ready then awaitChange x (.leave .drift) s else s) (planeTxs plane) s)
  else if high then .next s
  else .next (returnDrifted plane s)

end Sys2Proof.Machine
end

