-- ==== Sys2Proof/Machine/Tune.lean ====
section
/-! DEFINITION. The tuning sequencer: gate, dark check, retune, locker check, the Curtain's energy gate, and the sending of a burst (R177 to
R183, R189 to R193, R530 to R532). -/

namespace Sys2Proof.Machine

/-! ### The laser (R178, R182, R185) -/

/-- The codes that an entry of the tuning table applies: the trim, in MHz, divided by the slope, is added to the phase code (R185;
assumption 82). -/
def entryCodes (x w : Nat) (t : Transmitter) : Tuned :=
  let mirrors := Config.tuning x w 0
  let phaseGain := Config.tuning x w 1
  let slope := fieldOf (Config.tuning x w 2) 16 16
  { entry := w, front := fieldOf mirrors 0 16, rear := fieldOf mirrors 16 16,
    phase := clampInt 0 65535 ((fieldOf phaseGain 0 16 : Int) + roundDiv (tabGet 0 t.trims w) slope), gain := fieldOf phaseGain 16 16,
    preEmphasis := fieldOf (Config.tuning x w 2) 0 8 }

/-- A retune: the entry is applied with its pre-emphasis, and the gain-section current is lowered from one instant to another; on the
channel that is current already nothing happens (R178). -/
def retune (x w lowFrom lowTo : Nat) (s : State) : State :=
  modTx x (fun t => if t.channel = w then t else { t with channel := w, tuned := entryCodes x w t, lowFrom := lowFrom, lowTo := lowTo }) s

/-- The gain-section current of a transmitter is lowered now (R178, R181). -/
def gainLowered (x : Nat) (s : State) : Bool := decide ((txOf x s).lowFrom ≤ s.clock.now ∧ s.clock.now < (txOf x s).lowTo)

/-- The guard that begins at an instant: the laser goes to a channel from offset 32 to offset 672 (R178). -/
def guardRetune (x w at_ : Nat) (s : State) : State := retune x w (at_ + 1) (at_ + 21) s

/-- A refused burst: the laser goes to park from offset 736 to offset 1,376 of the slot that began at an instant (R179, R182). -/
def refusedRetune (x at_ : Nat) (s : State) : State := retune x 64 (at_ + 23) (at_ + 43) s

/-! ### The guard -/

/-- A failure that waits for the slot boundary, where the transmitter has not failed and is not OFF (R189 to R191). Assumption 39. -/
def failLater (x : Nat) (r : TxReason) (s : State) : State :=
  let p := (nextPhase x s).1
  if p == .failed || p == .off then s else awaitChange x (.fail r) s

/-- The burst that ends at the boundary: the gate shuts, and its power at the MPD is judged; the fourth low one in a row fails the
transmitter (R178, R190). Assumption 39. -/
def endBurst (x : Nat) (powerLow : Bool) (s : State) : State :=
  let t := txOf x s
  if !t.gateOpen then s
  else
    let n := if powerLow then t.lowPower + 1 else 0
    let s := modTx x (fun t => { t with gateOpen := false, line := 0, lowPower := n }) s
    if 4 ≤ n then txBoundary x (failLater x .power s) else s

/-- The transmitter's gate fault is on record (R183). -/
def isCut (t : Transmitter) : Bool := t.phase == .failed && (t.reason == .gate || t.reason == .tileCut)

/-- The dark check of a guard: a high reading in two guards in a row cuts the transmitter; WARMING counts the guards that pass (R183,
R189). Assumption 39. -/
def darkCheck (x : Nat) (high : Bool) (s : State) : State :=
  let t := txOf x s
  if isCut t then s
  else if high then
    if 1 ≤ t.darkFails then
      modTx x (fun t => { t with cutAt := some s.clock.now, darkFails := 0 }) (cutTx x .gate s)
    else modTx x (fun t => { t with darkFails := 1, guards := 0 }) s
  else
    maybeReady x (modTx x (fun t =>
      { t with darkFails := 0, guards := if t.phase == .warming then min 16 (t.guards + 1) else t.guards }) s)

/-- A planned burst is not sent: the grant is dark, what was selected returns, and the laser parks (R173, R182, R532). A RANGING burst is no
own grant. -/
def refuseBurst (x : Nat) (b : Burst) (s : State) : State :=
  let s := refusedRetune x ((txOf x s).edge / 512).toNat (modTx x (fun t => { t with burst := none }) s)
  if b.type = 4 then s else dropSelected x b.slot (countDark (x / 32) x s)

/-- DARK_GRANT for a burst that is an own grant (R157, R192). -/
def tellDark (x : Nat) (b : Burst) (s : State) : State := if b.type = 4 then s else raise 0x0408 (srcTx x) .minor 0 0 s

/-- A locker miss: told and counted, and the grant is dark; the third in a row fails the transmitter (R157, R182, R190, R192).
Assumption 39. -/
def lockerMiss (x : Nat) (b : Burst) (s : State) : State :=
  let s := raise 0x0404 (srcTx x) .minor 0 0 (countTx x 3 1 s)
  let s := tellDark x b (modTx x (fun t => { t with misses := t.misses + 1 }) (refuseBurst x b s))
  if 3 ≤ (txOf x s).misses then failLater x .retune s else s

/-! ### Sending -/

/-- The frames of a selection that is sent: the assembler is done with the cells of whole frames and of a tail; the cells of a split frame
go with its tail (R174, R342). -/
def sendSelection (x : Nat) (s : State) : State :=
  match (txOf x s).sel with
  | none => s
  | some l =>
    let whole := if l.tailOut.isSome then l.taken.dropLast else l.taken
    let s := modTx x (fun t => { t with sel := none, tail := l.tailOut }) s
    forEach (ownerDone 0x002) (whole.flatMap (fun e => e.2.tokens) ++ (l.tailIn.map (fun t => t.tokens)).getD []) s

/-- What sending a burst of each type leaves behind (R162, R165, R193, R261). -/
def sentEffects (x : Nat) (b : Burst) (s : State) : State :=
  let p := x / 32
  match b.payload with
  | .idle => countTx x 1 1 (countGrant p 7 1 s)
  | .packet _ _ _ _ _ => sendSelection x (countGrant p 6 1 s)
  | .report _ => (if b.type = 3 then setLastReport p (some b.slot) else id) (countGrant p 6 1 s)
  | .express num m _ _ o _ => containerSent b.slot num m o (countGrant p 6 1 s)
  | .ranging _ _ _ _ _ _ _ _ _ _ _ _ => s

/-- The gate opens on a planned burst: it is sent, and noted for the clash check (R124, R178, R193). -/
def sendBurst (x : Nat) (b : Burst) (s : State) : State :=
  let s := emitBurst x (countTx x 0 1 (modTx x (fun t => { t with gateOpen := true }) s))
  let s := { s with rx := { s.rx with launched := s.rx.launched ++ [(b.slot, x)] } }
  sentEffects x b s

/-- The energy gate judges a burst that a Curtain allows (R532); its counters 2 to 4 (R536). -/
def gateBurst (x : Nat) (b : Burst) (mv ma : Int) (s : State) : State :=
  let s := fastReading mv ma s
  match s.power.curtain with
  | none => sendBurst x b s
  | some c =>
    let isCall := b.type == 5
    let p := x / 32
    let c := if isCall then { c with calls := c.calls.filter (fun k => k != (p, b.slot)), called := c.called ++ [p] } else c
    let (send, c) := energyGate isCall (lightEnd (launchInstant p b.slot s) - s.clock.now) c s
    let s := modPower (fun w => { w with curtain := some c }) s
    if send then sendBurst x b (countPower (if isCall then 2 else 3) 1 s)
    else refuseBurst x b (if isCall then s else countPower 4 1 s)

/-- The instant of the locker check of a planned burst: offset 704 of its launch timing, 22 cycles (R178). -/
def checkInstant (x : Nat) (s : State) : Nat := ((txOf x s).edge / 512 + 22).toNat

/-- The planned burst of a slot at the locker check (R178, R182, R191, R532). Assumption 39. -/
def tuneBurst (x : Nat) (lockerMHz : Int) (mv ma : Int) (b : Burst) (s : State) : State :=
  let s := advanceTo (checkInstant x s) s
  if !laneReady x s then tellDark x b (refuseBurst x b s)
  else
    let s := guardRetune x b.wave ((txOf x s).edge / 512).toNat s
    if 6000 < lockerMHz.natAbs then lockerMiss x b s
    else gateBurst x b mv ma (modTx x (fun t => { t with misses := 0 }) s)

/-- TUNE_SEQUENCE: at a slot boundary, after LAUNCH, what waits for the boundary takes effect, and the sequencer of a transmitter shuts
the gate, checks the dark level, retunes, checks the locker and opens the gate on the planned burst, or parks. `lockerMHz` is the locker's
error, `guardHigh` and `powerLow` the MPD's readings in the guard and of the burst that has ended, and `holdMv`, `holdMa` the fast
monitor's reading of HOLD during a Curtain (R178 to R183, R190, R527, R532). Assumption 38. -/
def execTuneSequence (x : Nat) (lockerMHz : Int) (guardHigh powerLow : Bool) (holdMv holdMa : Int) (s : State) : Result :=
  let s := txBoundary x s
  if (txOf x s).phase = .off then .next s
  else
    let s := darkCheck x guardHigh (endBurst x powerLow s)
    match (txOf x s).burst with
    | none => .next (guardRetune x 64 s.clock.now s)
    | some b => .next (tuneBurst x lockerMHz holdMv holdMa b s)

end Sys2Proof.Machine
end

