-- ==== Sys2Proof/Machine/Dispatch.lean ====
section
/-! DEFINITION. The step of each command: one arm per constructor of Instr. -/

namespace Sys2Proof.Machine

/-- A command's effect on everything but the queue. -/
def exec (i : Instr) (s : State) : Host.Outcome State Fault Refusal :=
  match i with
  | .identity src tag req => Sys2Proof.Machine.execIdentity src tag req s
  | .echo src tag req => Sys2Proof.Machine.execEcho src tag req s
  | .handleInfo src tag req => Sys2Proof.Machine.execHandleInfo src tag req s
  | .handleList src tag req => Sys2Proof.Machine.execHandleList src tag req s
  | .schedStatus src tag req => Sys2Proof.Machine.execSchedStatus src tag req s
  | .funcStatus src tag req => Sys2Proof.Machine.execFuncStatus src tag req s
  | .joinConfig src tag req => Sys2Proof.Machine.execJoinConfig src tag req s
  | .joinStart src tag req => Sys2Proof.Machine.execJoinStart src tag req s
  | .joinStatus src tag req => Sys2Proof.Machine.execJoinStatus src tag req s
  | .asymSet src tag req => Sys2Proof.Machine.execAsymSet src tag req s
  | .planeHold src tag req => Sys2Proof.Machine.execPlaneHold src tag req s
  | .joinLeave src tag req => Sys2Proof.Machine.execJoinLeave src tag req s
  | .ownershipStatus src tag req => Sys2Proof.Machine.execOwnershipStatus src tag req s
  | .joinCounters src tag req => Sys2Proof.Machine.execJoinCounters src tag req s
  | .grantView src tag req => Sys2Proof.Machine.execGrantView src tag req s
  | .standingRead src tag req => Sys2Proof.Machine.execStandingRead src tag req s
  | .reportConfig src tag req => Sys2Proof.Machine.execReportConfig src tag req s
  | .grantCounters src tag req => Sys2Proof.Machine.execGrantCounters src tag req s
  | .txStatus src tag req => Sys2Proof.Machine.execTxStatus src tag req s
  | .txService src tag req => Sys2Proof.Machine.execTxService src tag req s
  | .txCounters src tag req => Sys2Proof.Machine.execTxCounters src tag req s
  | .tuneTableRead src tag req => Sys2Proof.Machine.execTuneTableRead src tag req s
  | .txConfig src tag req => Sys2Proof.Machine.execTxConfig src tag req s
  | .trimReset src tag req => Sys2Proof.Machine.execTrimReset src tag req s
  | .rxLaneStatus src tag req => Sys2Proof.Machine.execRxLaneStatus src tag req s
  | .rxCounters src tag req => Sys2Proof.Machine.execRxCounters src tag req s
  | .rxSenderStats src tag req => Sys2Proof.Machine.execRxSenderStats src tag req s
  | .rxMembership src tag req => Sys2Proof.Machine.execRxMembership src tag req s
  | .rxLedgerTap src tag req => Sys2Proof.Machine.execRxLedgerTap src tag req s
  | .rxCueCounters src tag req => Sys2Proof.Machine.execRxCueCounters src tag req s
  | .groupCreate src tag req => Sys2Proof.Machine.execGroupCreate src tag req s
  | .groupDestroy src tag req => Sys2Proof.Machine.execGroupDestroy src tag req s
  | .groupStatus src tag req => Sys2Proof.Machine.execGroupStatus src tag req s
  | .groupResize src tag req => Sys2Proof.Machine.execGroupResize src tag req s
  | .pairCreate src tag req => Sys2Proof.Machine.execPairCreate src tag req s
  | .pairDestroy src tag req => Sys2Proof.Machine.execPairDestroy src tag req s
  | .protectRequest src tag req => Sys2Proof.Machine.execProtectRequest src tag req s
  | .groupCounters src tag req => Sys2Proof.Machine.execGroupCounters src tag req s
  | .lanePlacementRead src tag req => Sys2Proof.Machine.execLanePlacementRead src tag req s
  | .tribGroupCreate src tag req => Sys2Proof.Machine.execTribGroupCreate src tag req s
  | .tribCreate src tag req => Sys2Proof.Machine.execTribCreate src tag req s
  | .tribDestroy src tag req => Sys2Proof.Machine.execTribDestroy src tag req s
  | .wingsWrite src tag req => Sys2Proof.Machine.execWingsWrite src tag req s
  | .pageRead src tag req => Sys2Proof.Machine.execPageRead src tag req s
  | .wingsCopy src tag req => Sys2Proof.Machine.execWingsCopy src tag req s
  | .pageSwap src tag req => Sys2Proof.Machine.execPageSwap src tag req s
  | .portConfig src tag req => Sys2Proof.Machine.execPortConfig src tag req s
  | .portStatus src tag req => Sys2Proof.Machine.execPortStatus src tag req s
  | .portCounters src tag req => Sys2Proof.Machine.execPortCounters src tag req s
  | .graphCreate src tag req => Sys2Proof.Machine.execGraphCreate src tag req s
  | .nodeWrite src tag req => Sys2Proof.Machine.execNodeWrite src tag req s
  | .rulesetCreate src tag req => Sys2Proof.Machine.execRulesetCreate src tag req s
  | .ruleWrite src tag req => Sys2Proof.Machine.execRuleWrite src tag req s
  | .rulesetParam src tag req => Sys2Proof.Machine.execRulesetParam src tag req s
  | .classifyActivate src tag req => Sys2Proof.Machine.execClassifyActivate src tag req s
  | .classifyDestroy src tag req => Sys2Proof.Machine.execClassifyDestroy src tag req s
  | .fibInsert src tag req => Sys2Proof.Machine.execFibInsert src tag req s
  | .fibDelete src tag req => Sys2Proof.Machine.execFibDelete src tag req s
  | .fibRead src tag req => Sys2Proof.Machine.execFibRead src tag req s
  | .indirectionWrite src tag req => Sys2Proof.Machine.execIndirectionWrite src tag req s
  | .slowPathConfig src tag req => Sys2Proof.Machine.execSlowPathConfig src tag req s
  | .classifyCounters src tag req => Sys2Proof.Machine.execClassifyCounters src tag req s
  | .flowBindCreate src tag req => Sys2Proof.Machine.execFlowBindCreate src tag req s
  | .flowBindDestroy src tag req => Sys2Proof.Machine.execFlowBindDestroy src tag req s
  | .flowBindStatus src tag req => Sys2Proof.Machine.execFlowBindStatus src tag req s
  | .voqConfig src tag req => Sys2Proof.Machine.execVoqConfig src tag req s
  | .voqStatus src tag req => Sys2Proof.Machine.execVoqStatus src tag req s
  | .meterCreate src tag req => Sys2Proof.Machine.execMeterCreate src tag req s
  | .meterDestroy src tag req => Sys2Proof.Machine.execMeterDestroy src tag req s
  | .shaperAttach src tag req => Sys2Proof.Machine.execShaperAttach src tag req s
  | .egressConfig src tag req => Sys2Proof.Machine.execEgressConfig src tag req s
  | .mcastCreate src tag req => Sys2Proof.Machine.execMcastCreate src tag req s
  | .mcastPorts src tag req => Sys2Proof.Machine.execMcastPorts src tag req s
  | .mcastDestroy src tag req => Sys2Proof.Machine.execMcastDestroy src tag req s
  | .poolCreate src tag req => Sys2Proof.Machine.execPoolCreate src tag req s
  | .poolDestroy src tag req => Sys2Proof.Machine.execPoolDestroy src tag req s
  | .poolStatus src tag req => Sys2Proof.Machine.execPoolStatus src tag req s
  | .bufAlloc src tag req => Sys2Proof.Machine.execBufAlloc src tag req s
  | .bufFree src tag req => Sys2Proof.Machine.execBufFree src tag req s
  | .queueCounters src tag req => Sys2Proof.Machine.execQueueCounters src tag req s
  | .peerKeyCreate src tag req => Sys2Proof.Machine.execPeerKeyCreate src tag req s
  | .peerKeyDestroy src tag req => Sys2Proof.Machine.execPeerKeyDestroy src tag req s
  | .peerKeyStatus src tag req => Sys2Proof.Machine.execPeerKeyStatus src tag req s
  | .keyRoll src tag req => Sys2Proof.Machine.execKeyRoll src tag req s
  | .keyPolicy src tag req => Sys2Proof.Machine.execKeyPolicy src tag req s
  | .seqStatus src tag req => Sys2Proof.Machine.execSeqStatus src tag req s
  | .identityRead src tag req => Sys2Proof.Machine.execIdentityRead src tag req s
  | .entropyStatus src tag req => Sys2Proof.Machine.execEntropyStatus src tag req s
  | .gateStatus src tag req => Sys2Proof.Machine.execGateStatus src tag req s
  | .secCounters src tag req => Sys2Proof.Machine.execSecCounters src tag req s
  | .timeConfig src tag req => Sys2Proof.Machine.execTimeConfig src tag req s
  | .timeStatus src tag req => Sys2Proof.Machine.execTimeStatus src tag req s
  | .timeRead src tag req => Sys2Proof.Machine.execTimeRead src tag req s
  | .tsPortCreate src tag req => Sys2Proof.Machine.execTsPortCreate src tag req s
  | .tsPortDestroy src tag req => Sys2Proof.Machine.execTsPortDestroy src tag req s
  | .ptmConfig src tag req => Sys2Proof.Machine.execPtmConfig src tag req s
  | .ptmRead src tag req => Sys2Proof.Machine.execPtmRead src tag req s
  | .ppsInRead src tag req => Sys2Proof.Machine.execPpsInRead src tag req s
  | .qpCreate src tag req => Sys2Proof.Machine.execQpCreate src tag req s
  | .qpDestroy src tag req => Sys2Proof.Machine.execQpDestroy src tag req s
  | .qpStart src tag req => Sys2Proof.Machine.execQpStart src tag req s
  | .qpStop src tag req => Sys2Proof.Machine.execQpStop src tag req s
  | .qpStatus src tag req => Sys2Proof.Machine.execQpStatus src tag req s
  | .qpSched src tag req => Sys2Proof.Machine.execQpSched src tag req s
  | .slowpathMap src tag req => Sys2Proof.Machine.execSlowpathMap src tag req s
  | .watchSet src tag req => Sys2Proof.Machine.execWatchSet src tag req s
  | .qpCounters src tag req => Sys2Proof.Machine.execQpCounters src tag req s
  | .evtConfig src tag req => Sys2Proof.Machine.execEvtConfig src tag req s
  | .alarmRead src tag req => Sys2Proof.Machine.execAlarmRead src tag req s
  | .alarmSummary src tag req => Sys2Proof.Machine.execAlarmSummary src tag req s
  | .evtCounters src tag req => Sys2Proof.Machine.execEvtCounters src tag req s
  | .blackboxRead src tag req => Sys2Proof.Machine.execBlackboxRead src tag req s
  | .blackboxClear src tag req => Sys2Proof.Machine.execBlackboxClear src tag req s
  | .evtTest src tag req => Sys2Proof.Machine.execEvtTest src tag req s
  | .senseConfig src tag req => Sys2Proof.Machine.execSenseConfig src tag req s
  | .senseLatest src tag req => Sys2Proof.Machine.execSenseLatest src tag req s
  | .sensorCreate src tag req => Sys2Proof.Machine.execSensorCreate src tag req s
  | .sensorDestroy src tag req => Sys2Proof.Machine.execSensorDestroy src tag req s
  | .senseRead src tag req => Sys2Proof.Machine.execSenseRead src tag req s
  | .coefWrite src tag req => Sys2Proof.Machine.execCoefWrite src tag req s
  | .coefRead src tag req => Sys2Proof.Machine.execCoefRead src tag req s
  | .coefSwap src tag req => Sys2Proof.Machine.execCoefSwap src tag req s
  | .shStatus src tag req => Sys2Proof.Machine.execShStatus src tag req s
  | .senseCounters src tag req => Sys2Proof.Machine.execSenseCounters src tag req s
  | .powerState src tag req => Sys2Proof.Machine.execPowerState src tag req s
  | .powerStatus src tag req => Sys2Proof.Machine.execPowerStatus src tag req s
  | .padRelease src tag req => Sys2Proof.Machine.execPadRelease src tag req s
  | .gateRequest src tag req => Sys2Proof.Machine.execGateRequest src tag req s
  | .thermalStatus src tag req => Sys2Proof.Machine.execThermalStatus src tag req s
  | .thermalConfig src tag req => Sys2Proof.Machine.execThermalConfig src tag req s
  | .storeConfig src tag req => Sys2Proof.Machine.execStoreConfig src tag req s
  | .storeStatus src tag req => Sys2Proof.Machine.execStoreStatus src tag req s
  | .powerCounters src tag req => Sys2Proof.Machine.execPowerCounters src tag req s
  | .reset src tag req => Sys2Proof.Machine.execReset src tag req s
  | .fwStatus src tag req => Sys2Proof.Machine.execFwStatus src tag req s
  | .fwWrite src tag req => Sys2Proof.Machine.execFwWrite src tag req s
  | .fwVerify src tag req => Sys2Proof.Machine.execFwVerify src tag req s
  | .fwVerifyDone signatureOk => Sys2Proof.Machine.execFwVerifyDone signatureOk s
  | .fwActivate src tag req => Sys2Proof.Machine.execFwActivate src tag req s
  | .fwCommit src tag req => Sys2Proof.Machine.execFwCommit src tag req s
  | .arbRaise src tag req => Sys2Proof.Machine.execArbRaise src tag req s
  | .mboxEnable func => Sys2Proof.Machine.execMboxEnable func s
  | .mboxDisable func => Sys2Proof.Machine.execMboxDisable func s
  | .mboxCmdPi func value => Sys2Proof.Machine.execMboxCmdPi func value s
  | .commandTake src slot => Sys2Proof.Machine.execCommandTake src slot s
  | .mboxRspCi func value => Sys2Proof.Machine.execMboxRspCi func value s
  | .mboxNtfCi func value => Sys2Proof.Machine.execMboxNtfCi func value s
  | .responseWrite src => Sys2Proof.Machine.execResponseWrite src s
  | .notificationWrite func => Sys2Proof.Machine.execNotificationWrite func s
  | .dmaError func pair => Sys2Proof.Machine.execDmaError func pair s
  | .registerWrite func offset value => Sys2Proof.Machine.execRegisterWrite func offset value s
  | .timeCapture func => Sys2Proof.Machine.execTimeCapture func s
  | .timeTsqHiRead => Sys2Proof.Machine.execTimeTsqHiRead s
  | .tsqOvfClear => Sys2Proof.Machine.execTsqOvfClear s
  | .almStateRead func source => Sys2Proof.Machine.execAlmStateRead func source s
  | .hqTxPi func pair value => Sys2Proof.Machine.execHqTxPi func pair value s
  | .hqRxPi func pair value => Sys2Proof.Machine.execHqRxPi func pair value s
  | .hqCqCi func pair value => Sys2Proof.Machine.execHqCqCi func pair value s
  | .sbReq pec bytes => Sys2Proof.Machine.execSbReq pec bytes s
  | .sbRsp => Sys2Proof.Machine.execSbRsp s
  | .sbStatus => Sys2Proof.Machine.execSbStatus s
  | .sbNtf => Sys2Proof.Machine.execSbNtf s
  | .smbusAddressMatch address => Sys2Proof.Machine.execSmbusAddressMatch address s
  | .firewallAccess secure initiator write bar addr len => Sys2Proof.Machine.execFirewallAccess secure initiator write bar addr len s
  | .fwRuleWrite rule base limit flags => Sys2Proof.Machine.execFwRuleWrite rule base limit flags s
  | .firewallDrain completed => Sys2Proof.Machine.execFirewallDrain completed s
  | .gateRelease gate => Sys2Proof.Machine.execGateRelease gate s
  | .debugAuthorisation serial signatureOk => Sys2Proof.Machine.execDebugAuthorisation serial signatureOk s
  | .powerOnReset => Sys2Proof.Machine.execPowerOnReset s
  | .resetN => Sys2Proof.Machine.execResetN s
  | .warmReset => Sys2Proof.Machine.execWarmReset s
  | .watchdogReset core => Sys2Proof.Machine.execWatchdogReset core s
  | .brownOutReset => Sys2Proof.Machine.execBrownOutReset s
  | .perstN high => Sys2Proof.Machine.execPerstN high s
  | .flr func => Sys2Proof.Machine.execFlr func s
  | .wakeN => Sys2Proof.Machine.execWakeN s
  | .strapSample reads => Sys2Proof.Machine.execStrapSample reads s
  | .crefLoss => Sys2Proof.Machine.execCrefLoss s
  | .crefReturn => Sys2Proof.Machine.execCrefReturn s
  | .ppsInEdge highNs => Sys2Proof.Machine.execPpsInEdge highNs s
  | .ppsOutPulse => Sys2Proof.Machine.execPpsOutPulse s
  | .ppsOutFall => Sys2Proof.Machine.execPpsOutFall s
  | .uartCharacter samples => Sys2Proof.Machine.execUartCharacter samples s
  | .vinGood => Sys2Proof.Machine.execVinGood s
  | .vinFail => Sys2Proof.Machine.execVinFail s
  | .pwrfailN => Sys2Proof.Machine.execPwrfailN s
  | .auxLoss => Sys2Proof.Machine.execAuxLoss s
  | .islandWait => Sys2Proof.Machine.execIslandWait s
  | .islandWake => Sys2Proof.Machine.execIslandWake s
  | .coreWait core => Sys2Proof.Machine.execCoreWait core s
  | .corePowerOff => Sys2Proof.Machine.execCorePowerOff s
  | .powerDeferred => Sys2Proof.Machine.execPowerDeferred s
  | .powerTransitionDone => Sys2Proof.Machine.execPowerTransitionDone s
  | .islandTimerWake => Sys2Proof.Machine.execIslandTimerWake s
  | .imageChoice sigA sigB badA badB => Sys2Proof.Machine.execImageChoice sigA sigB badA badB s
  | .strongroomVerify ok => Sys2Proof.Machine.execStrongroomVerify ok s
  | .zordinRunning corrected lost bad => Sys2Proof.Machine.execZordinRunning corrected lost bad s
  | .syncRefAbsent => Sys2Proof.Machine.execSyncRefAbsent s
  | .hbmTraining stack trained => Sys2Proof.Machine.execHbmTraining stack trained s
  | .syncLock => Sys2Proof.Machine.execSyncLock s
  | .rootTransferDone => Sys2Proof.Machine.execRootTransferDone s
  | .rootHoldover syncRef => Sys2Proof.Machine.execRootHoldover syncRef s
  | .rootDisplace => Sys2Proof.Machine.execRootDisplace s
  | .cueFrame slot cycle lanes => Sys2Proof.Machine.execCueFrame slot cycle lanes s
  | .discoveryOpen msg => Sys2Proof.Machine.execDiscoveryOpen msg s
  | .discoveryAck msg => Sys2Proof.Machine.execDiscoveryAck msg s
  | .tnAssign msg => Sys2Proof.Machine.execTnAssign msg s
  | .reject msg => Sys2Proof.Machine.execReject msg s
  | .rangeWindow msg => Sys2Proof.Machine.execRangeWindow msg s
  | .rangeResult msg => Sys2Proof.Machine.execRangeResult msg s
  | .activate msg => Sys2Proof.Machine.execActivate msg s
  | .fineCorrect msg => Sys2Proof.Machine.execFineCorrect msg s
  | .deregister msg => Sys2Proof.Machine.execDeregister msg s
  | .resizePrepare msg => Sys2Proof.Machine.execResizePrepare msg s
  | .resizeCommit msg => Sys2Proof.Machine.execResizeCommit msg s
  | .resizeCancel msg => Sys2Proof.Machine.execResizeCancel msg s
  | .keySeg msg => Sys2Proof.Machine.execKeySeg msg s
  | .offer fromTn recId => Sys2Proof.Machine.execOffer fromTn recId s
  | .answer fromTn recId => Sys2Proof.Machine.execAnswer fromTn recId s
  | .hubAnswer fromTn recId => Sys2Proof.Machine.execHubAnswer fromTn recId s
  | .groupKey fromTn recId => Sys2Proof.Machine.execGroupKey fromTn recId s
  | .keyRecordTimeout fromTn recId => Sys2Proof.Machine.execKeyRecordTimeout fromTn recId s
  | .tCue => Sys2Proof.Machine.execTCue s
  | .joinNoWindow => Sys2Proof.Machine.execJoinNoWindow s
  | .discoveryTimeout => Sys2Proof.Machine.execDiscoveryTimeout s
  | .tId => Sys2Proof.Machine.execTId s
  | .registrationLost => Sys2Proof.Machine.execRegistrationLost s
  | .rejectHoldoff => Sys2Proof.Machine.execRejectHoldoff s
  | .tLeave => Sys2Proof.Machine.execTLeave s
  | .tRwin plane => Sys2Proof.Machine.execTRwin plane s
  | .rangingTimeout plane => Sys2Proof.Machine.execRangingTimeout plane s
  | .tAct plane => Sys2Proof.Machine.execTAct plane s
  | .tSkew plane => Sys2Proof.Machine.execTSkew plane s
  | .tSusp plane => Sys2Proof.Machine.execTSusp plane s
  | .planeActivation plane => Sys2Proof.Machine.execPlaneActivation plane s
  | .fineCorrectApply plane => Sys2Proof.Machine.execFineCorrectApply plane s
  | .planeHoldApply plane => Sys2Proof.Machine.execPlaneHoldApply plane s
  | .sequenceResume slot => Sys2Proof.Machine.execSequenceResume slot s
  | .freeze slot => Sys2Proof.Machine.execFreeze slot s
  | .seqRecordCommit readBackOk => Sys2Proof.Machine.execSeqRecordCommit readBackOk s
  | .keyEpochErase key => Sys2Proof.Machine.execKeyEpochErase key s
  | .keyRollInterval key => Sys2Proof.Machine.execKeyRollInterval key s
  | .tAns assoc => Sys2Proof.Machine.execTAns assoc s
  | .withdrawnReoffer assoc => Sys2Proof.Machine.execWithdrawnReoffer assoc s
  | .entropyFail => Sys2Proof.Machine.execEntropyFail s
  | .entropyRetest passed => Sys2Proof.Machine.execEntropyRetest passed s
  | .drbgReseed => Sys2Proof.Machine.execDrbgReseed s
  | .selectionWindow slot plane => Sys2Proof.Machine.execSelectionWindow slot plane s
  | .selectionClose slot plane => Sys2Proof.Machine.execSelectionClose slot plane s
  | .launch slot plane => Sys2Proof.Machine.execLaunch slot plane s
  | .tuneSequence x lockerMHz guardHigh powerLow holdMv holdMa => Sys2Proof.Machine.execTuneSequence x lockerMHz guardHigh powerLow holdMv holdMa s
  | .tileLaserCut x stillHigh => Sys2Proof.Machine.execTileLaserCut x stillHigh s
  | .recalibration sfn => Sys2Proof.Machine.execRecalibration sfn s
  | .driftSupervision plane => Sys2Proof.Machine.execDriftSupervision plane s
  | .trimCheckpoint => Sys2Proof.Machine.execTrimCheckpoint s
  | .pedestalSettled x => Sys2Proof.Machine.execPedestalSettled x s
  | .pedestalUnsettled x => Sys2Proof.Machine.execPedestalUnsettled x s
  | .laserHeaterFault x => Sys2Proof.Machine.execLaserHeaterFault x s
  | .demuxSettled plane => Sys2Proof.Machine.execDemuxSettled plane s
  | .demuxUnsettled plane => Sys2Proof.Machine.execDemuxUnsettled plane s
  | .tableLoad x checkOk => Sys2Proof.Machine.execTableLoad x checkOk s
  | .burstReceive slot lights => Sys2Proof.Machine.execBurstReceive slot lights s
  | .payloadDecode lane => Sys2Proof.Machine.execPayloadDecode lane s
  | .tagCheck => Sys2Proof.Machine.execTagCheck s
  | .ledgerLanding slot => Sys2Proof.Machine.execLedgerLanding slot s
  | .reconcilerEntry lane => Sys2Proof.Machine.execReconcilerEntry lane s
  | .containerEval slot => Sys2Proof.Machine.execContainerEval slot s
  | .sdBlockClose group member => Sys2Proof.Machine.execSdBlockClose group member s
  | .holdOffExpiry group => Sys2Proof.Machine.execHoldOffExpiry group s
  | .wtrExpiry group => Sys2Proof.Machine.execWtrExpiry group s
  | .afHoldExpiry group => Sys2Proof.Machine.execAfHoldExpiry group s
  | .rateControl trib index slot lanes => Sys2Proof.Machine.execRateControl trib index slot lanes s
  | .tPrep group => Sys2Proof.Machine.execTPrep group s
  | .tCommit group => Sys2Proof.Machine.execTCommit group s
  | .resizePrepared group => Sys2Proof.Machine.execResizePrepared group s
  | .resizeSwitchover group => Sys2Proof.Machine.execResizeSwitchover group s
  | .resizeDone group => Sys2Proof.Machine.execResizeDone group s
  | .pageSwapped => Sys2Proof.Machine.execPageSwapped s
  | .tTrain port => Sys2Proof.Machine.execTTrain port s
  | .trainingComplete port => Sys2Proof.Machine.execTrainingComplete port s
  | .linkUp port => Sys2Proof.Machine.execLinkUp port s
  | .linkDown port => Sys2Proof.Machine.execLinkDown port s
  | .remoteFault port rf lf => Sys2Proof.Machine.execRemoteFault port rf lf s
  | .laneLos lane present => Sys2Proof.Machine.execLaneLos lane present s
  | .clientFrame port data back => Sys2Proof.Machine.execClientFrame port data back s
  | .parse pipeline => Sys2Proof.Machine.execParse pipeline s
  | .epochDrain => Sys2Proof.Machine.execEpochDrain s
  | .egressFrameStart port => Sys2Proof.Machine.execEgressFrameStart port s
  | .tsqPush port => Sys2Proof.Machine.execTsqPush port s
  | .larderRefill pool => Sys2Proof.Machine.execLarderRefill pool s
  | .larderSpill pool => Sys2Proof.Machine.execLarderSpill pool s
  | .larderAlloc pool owner => Sys2Proof.Machine.execLarderAlloc pool owner s
  | .larderFree token owner => Sys2Proof.Machine.execLarderFree token owner s
  | .larderShare token add last => Sys2Proof.Machine.execLarderShare token add last s
  | .heldFreeResume pool => Sys2Proof.Machine.execHeldFreeResume pool s
  | .poolStall pool => Sys2Proof.Machine.execPoolStall pool s
  | .hbmRetired stack => Sys2Proof.Machine.execHbmRetired stack s
  | .hbmPurgeDone stack => Sys2Proof.Machine.execHbmPurgeDone stack s
  | .txDescriptor words frame => Sys2Proof.Machine.execTxDescriptor words frame s
  | .cqResume pair => Sys2Proof.Machine.execCqResume pair s
  | .slowPathDelivery descriptors => Sys2Proof.Machine.execSlowPathDelivery descriptors s
  | .eventRaise clear held code source severity detail4 detail5 => Sys2Proof.Machine.execEventRaise clear held code source severity detail4 detail5 s
  | .coalesceWindowClose source code detail => Sys2Proof.Machine.execCoalesceWindowClose source code detail s
  | .evtLost func => Sys2Proof.Machine.execEvtLost func s
  | .blackboxWrite => Sys2Proof.Machine.execBlackboxWrite s
  | .msixHoldoffEnd func vector => Sys2Proof.Machine.execMsixHoldoffEnd func vector s
  | .tileLinkLost tile => Sys2Proof.Machine.execTileLinkLost tile s
  | .tileDegraded tile => Sys2Proof.Machine.execTileDegraded tile s
  | .tileRetrain tile trained => Sys2Proof.Machine.execTileRetrain tile trained s
  | .quarantineExpiry type index => Sys2Proof.Machine.execQuarantineExpiry type index s
  | .servoUpdate => Sys2Proof.Machine.execServoUpdate s
  | .ptmDialog hostEnabled => Sys2Proof.Machine.execPtmDialog hostEnabled s
  | .ptmResponse master prop => Sys2Proof.Machine.execPtmResponse master prop s
  | .ptmFail => Sys2Proof.Machine.execPtmFail s
  | .senseOutput bits leads overload => Sys2Proof.Machine.execSenseOutput bits leads overload s
  | .rcPeriodCapture elapsed => Sys2Proof.Machine.execRcPeriodCapture elapsed s
  | .senseFallback input => Sys2Proof.Machine.execSenseFallback input s
  | .coolantCondition die => Sys2Proof.Machine.execCoolantCondition die s
  | .junctionHigh readings => Sys2Proof.Machine.execJunctionHigh readings s
  | .thermalStop readings => Sys2Proof.Machine.execThermalStop readings s
  | .chargeStart => Sys2Proof.Machine.execChargeStart s
  | .capacitanceMeasure deltaQ => Sys2Proof.Machine.execCapacitanceMeasure deltaQ s
  | .gaugeReanchor => Sys2Proof.Machine.execGaugeReanchor s
  | .gaugeSkew => Sys2Proof.Machine.execGaugeSkew s
  | .curtainStart => Sys2Proof.Machine.execCurtainStart s
  | .curtainStop => Sys2Proof.Machine.execCurtainStop s
  | .resetNRelease => Sys2Proof.Machine.execResetNRelease s
  | .lossOfAux => Sys2Proof.Machine.execLossOfAux s
  | .railUp => Sys2Proof.Machine.execRailUp s
  | .chargeComplete => Sys2Proof.Machine.execChargeComplete s
  | .chargeTimeout => Sys2Proof.Machine.execChargeTimeout s
  | .powerStateTimeout => Sys2Proof.Machine.execPowerStateTimeout s
  | .delayListDue tick => Sys2Proof.Machine.execDelayListDue tick s
  | .uartBreakEnd => Sys2Proof.Machine.execUartBreakEnd s
  | .tileDegradedClear tile => Sys2Proof.Machine.execTileDegradedClear tile s
  | .junctionHighClear readings => Sys2Proof.Machine.execJunctionHighClear readings s
  | .demuxSettledAgain plane => Sys2Proof.Machine.execDemuxSettledAgain plane s
  | .laserHeaterFaultClear x => Sys2Proof.Machine.execLaserHeaterFaultClear x s
  | .gaugeSkewClear => Sys2Proof.Machine.execGaugeSkewClear s

end Sys2Proof.Machine
end

