-- ==== Sys2Proof/Safety.lean ====
section
/-! DEFINITION. What counts as a safe run and as a sound state, and the terms in which claims speak of the answers of commands. -/

namespace Sys2Proof.Machine

/-- A step is safe when it answers a next state. -/
def safeStep (s : State) : Bool :=
  match step s with
  | .next _ => true
  | _ => false

/-- Host memory is in canonical form. -/
def soundMem (m : Memory) : Prop := Memory.wf m = true

/-- A terminal number, when one is held, is a legal one (R123), and there are 16 plane machines (R130). -/
def soundJoin (j : Join) : Prop := (∀ t, j.tn = some t → t ≤ 29) ∧ j.planes.length = 16

/-- There are four Zordin cores (R447). -/
def soundZordin (z : Zordin) : Prop := z.sched.cores.length = 4

/-- The table of channel indices is in canonical form, and every generation is a number of 10 bits (R12, R15). -/
def soundChans (t : Tab ChanSlot) : Prop := tabWf chanSlotReset t = true ∧ ∀ e ∈ t, e.2.gen < 1024

/-- What holds of every state that a run reaches. -/
def Sound (s : State) : Prop := soundMem s.hostMem ∧ soundJoin s.join ∧ soundZordin s.zordin ∧ soundChans s.chans

/-- Someone can execute a command now: Zordin while it runs and no Curtain stands, or the Stagehand for the commands that it executes
alone; neither in recovery (R436, R445, R530, R548). -/
def CanRun (stagehand : Bool) (s : State) : Prop :=
  s.start.recovery = false ∧ (stagehand = true ∨ (s.start.running = true ∧ s.power.state ≠ .curtain))

/-- A command has ended: its task has left its core, and its final response with a status and words has gone to its source.
Assumption 26. -/
def answered (src : Source) (tag : Nat) (st : Status) (ws : List Word) (s : State) : State :=
  respond src tag st ws (finishTask (commandTask src tag) s)

/-- A long command has been accepted: its task has left its core, and the response ACCEPTED, not final, has gone to its source (R427). -/
def acknowledged (src : Source) (tag : Nat) (s : State) : State :=
  deliver src ⟨tag, statusCode .accepted, false, false, []⟩ (finishTask (commandTask src tag) s)

end Sys2Proof.Machine
end

