-- ==== Sys2Proof/Certificates/Slice0/Obligations.lean ====
section
/-! DEFINITION. The statements about this block: what a step does, what every command keeps, who may issue a command, and for every
command the state in which it completes and the state that it then answers. -/

namespace Sys2Proof.Machine

/-! ### Terms of the statements -/

/-- The index that the handle in the first request word names. -/
def ix0 (req : List Word) : Nat := fieldOf (wordAt req 0) 0 16

/-- The first request word is a valid handle of a type (R14). -/
def valid0 (t : ChanType) (req : List Word) (s : State) : Prop := checkHandle t (wordAt req 0) s = .ok (ix0 req)

/-- A command with its source, tag and request words. -/
abbrev MailCommand := Source → Nat → List Word → Instr

/-- Where `pre` holds and someone can execute it, a command of at least `words` request words ends with OK; `post` gives its response words
and its effect, and nothing else changes but by the response. -/
def Completes (stagehand : Bool) (words : Nat) (c : MailCommand) (pre : Source → List Word → State → Prop)
    (post : Source → List Word → State → List Word × State) : Prop :=
  ∀ src tag req s, CanRun stagehand s → words ≤ req.length → pre src req s →
    exec (c src tag req) s = .next (answered src tag .ok (post src req s).1 (post src req s).2)

/-- The same for a long command: it is accepted, and `post` gives what it begins. -/
def Accepts (stagehand : Bool) (words : Nat) (c : MailCommand) (pre : Source → List Word → State → Prop)
    (post : Source → Nat → List Word → State → State) : Prop :=
  ∀ src tag req s, CanRun stagehand s → words ≤ req.length → pre src req s →
    exec (c src tag req) s = .next (acknowledged src tag (post src tag req s))

/-- Every source may issue the command, and it has no other condition. -/
def anyone : Source → List Word → State → Prop := fun _ _ _ => True

/-- The clear bit, bit `i` of request word `k`, is PF0's alone (R419). -/
def clearByPf0 (k i : Nat) : Source → List Word → State → Prop := fun src req _ => src = .pf0 ∨ bitOf (wordAt req k) i = false

/-- A channel of a type can be created (R15, R437), and the index that it takes. -/
def hasIndex (t : ChanType) (s : State) : Prop := (nextIndex t s).isSome = true
def newIndex (t : ChanType) (s : State) : Nat := (nextIndex t s).getD 0

end Sys2Proof.Machine

open Sys2Proof Sys2Proof.Machine

/-! ### Mailbox commands, family by family -/

/-- The general commands 0x0101 to 0x0106: their words are those of R451 and their effect that of R452, and for the two with a clear bit the
counts that it clears. IDENTITY and ECHO need no Zordin. Each clause names its conditions, the response words and the whole effect;
conditions that a clause does not meet are no part of it. Means, loads and the two ring bits of the sideband's FUNC_STATUS are free values
(assumptions 6 and 7). -/
def Obligations.GeneralCommandsComplete : Prop :=
  Completes true 0 .identity anyone (fun src _ s => (identityWords src s, s)) ∧
  Completes true 0 .echo anyone (fun _ req s => (req, s)) ∧
  Completes false 1 .handleInfo
    (fun _ req _ => fieldOf (wordAt req 0) 16 16 < chanRange (fieldOf (wordAt req 0) 0 6))
    (fun _ req s =>
      let ty := fieldOf (wordAt req 0) 0 6
      let ix := fieldOf (wordAt req 0) 16 16
      let c := chanSlot ty ix s
      ([liveHandle ty ix s, pack [(0, bitNat c.quarantined), (16, c.gen)]], s)) ∧
  Completes false 2 .handleList
    (fun _ req _ =>
      let count := fieldOf (wordAt req 1) 16 7
      fieldOf (wordAt req 1) 0 16 < chanRange (fieldOf (wordAt req 0) 0 6) ∧ 1 ≤ count ∧ count ≤ 64)
    (fun _ req s =>
      let hs := liveHandles (fieldOf (wordAt req 0) 0 6) (fieldOf (wordAt req 1) 0 16) (fieldOf (wordAt req 1) 16 7) s
      (wordOf hs.length :: (hs ++ List.replicate (64 - hs.length) 0), s)) ∧
  Completes false 1 .schedStatus (clearByPf0 0 0)
    (fun _ req s =>
      let r := coresWords s.zordin.sched.cores s
      (r.1 ++ [pack [(0, s.zordin.sched.delayed.length % 2 ^ 24)]],
        cleared (bitOf (wordAt req 0) 0) (fun u => { u with zordin := { u.zordin with sched := { u.zordin.sched with
          cores := u.zordin.sched.cores.map (fun c => { c with depthMax := c.ready.length, waitMax := 0 }) } } }) r.2)) ∧
  Completes false 1 .funcStatus
    (fun src req s => clearByPf0 0 8 src req s ∧ fieldOf (wordAt req 0) 0 2 < 2)
    (fun _ req s =>
      let f := fieldOf (wordAt req 0) 0 2
      (funcStatusWords (funcBox f s), cleared (bitOf (wordAt req 0) 8) (modFunc f clearFuncCounters) s)) ∧
  Completes false 1 .funcStatus
    (fun src req s => clearByPf0 0 8 src req s ∧ fieldOf (wordAt req 0) 0 2 = 2)
    (fun _ req s =>
      ((sidebandStatusWords s).1,
        cleared (bitOf (wordAt req 0) 8) (modSb (fun b => { b with
          cntTaken := 0, cntBadOpcode := 0, cntDup := 0, cntHeld := 0, cntDiscarded := 0 })) (sidebandStatusWords s).2))

/-- The joining commands 0x0201 to 0x0208: their words are those of R140 and their statuses those of R141. Each clause names its conditions,
the response words and the whole effect; conditions that a clause does not meet are no part of it. The readings of assumptions 30 and 44 are
the model's. -/
def Obligations.JoinCommandsComplete : Prop :=
  Completes false 2 .joinConfig (fun src _ s => src = .pf0 ∧ s.join.phase = .offline)
    (fun _ req s => ([], { s with join := { s.join with cfg := { s.join.cfg with
      stageId := wordAt req 0, planeEnable := fieldOf (wordAt req 1) 0 16, autoJoin := bitOf (wordAt req 1) 16 } } })) ∧
  Accepts false 0 .joinStart
    (fun src _ s => src = .pf0 ∧ joinStartPending s = false ∧
      (s.join.phase = .offline ∨ (s.join.phase = .rejected ∧ s.join.rejectReason = 1)))
    (fun src tag _ s => enterCueAcq (startLong src tag .joinStart s)) ∧
  Accepts false 0 .joinStart
    (fun src _ s => src = .pf0 ∧ joinStartPending s = false ∧ s.join.phase = .rejected ∧ s.join.rejectReason ≠ 1)
    (fun src tag _ s => startLong src tag .joinStart s) ∧
  Completes false 0 .joinStatus anyone (fun _ _ s => (joinStatusWords s, s)) ∧
  Completes false 2 .asymSet
    (fun src req _ => src = .pf0 ∧ fieldOf (wordAt req 0) 0 4 ≤ 15 ∧
      fieldOf (wordAt req 1) 24 8 = (if bitOf (wordAt req 1) 23 then 255 else 0))
    (fun _ req s => ([], { s with join := { s.join with cfg := { s.join.cfg with
      asym := tabSet 0 s.join.cfg.asym ((wordAt req 0).toNat % 16) (signedOf 24 (wordAt req 1).toNat) } } })) ∧
  Completes false 1 .planeHold (fun src req _ => src = .pf0 ∧ fieldOf (wordAt req 0) 0 16 ≠ 0)
    (fun _ req s => ([], forEach (fun p s =>
      if maskBit (fieldOf (wordAt req 0) 0 16) p then modPlane p (applyHold (bitOf (wordAt req 0) 16)) s else s) (List.range 16) s)) ∧
  Accepts false 0 .joinLeave (fun src _ s => src = .pf0 ∧ s.join.phase ≠ .offline)
    (fun src tag _ s =>
      let u := startLong src tag .joinLeave (leaveRejected (endJoinStart .aborted s))
      { u with join := { stopTermTimers u.join with
        phase := .leaving, discovery := none, tLeave := some (u.clock.now + 10 * msCc) } }) ∧
  Completes false 0 .ownershipStatus anyone
    (fun _ _ s =>
      ((List.range 16).map (fun p =>
          pack [(0, ownCode (planeOf p s).own), (8, min 255 (planeOf p s).changes), (16, ownerEpoch p s % 65536)]) ++
        (List.range 16).map (fun p =>
          pack [(0, (laneOf .a p s).epoch % 65536), (16, (laneOf .b p s).epoch % 65536)]),
        { s with join := { s.join with planes := s.join.planes.map (fun m => { m with changes := 0 }) } })) ∧
  Completes false 1 .joinCounters (fun src req s => clearByPf0 0 8 src req s ∧ fieldOf (wordAt req 0) 0 5 < 16)
    (fun _ req s =>
      let p := fieldOf (wordAt req 0) 0 5
      ((planeOf p s).counters.map wordOf,
        cleared (bitOf (wordAt req 0) 8) (modPlane p (fun m => { m with counters := [0, 0, 0, 0] })) s)) ∧
  Completes false 1 .joinCounters (fun src req s => clearByPf0 0 8 src req s ∧ fieldOf (wordAt req 0) 0 5 = 16)
    (fun _ req s =>
      (s.join.counters.map wordOf ++ [0, 0],
        cleared (bitOf (wordAt req 0) 8) (fun u => { u with join := { u.join with counters := [0, 0] } }) s))

/-- The grant commands 0x0301 to 0x0304: a view of a slot whose sheet has arrived, the standing entries, the piggyback setting, and the
counters; words by R166, statuses by R167. Each clause names its conditions, the response words and the whole effect; conditions that a
clause does not meet are no part of it. Assumptions 45 and 79 are the model's. -/
def Obligations.GrantCommandsComplete : Prop :=
  Completes false 3 .grantView
    (fun _ req s =>
      let slot := 128 * ((wordAt req 1).toNat + 2 ^ 32 * fieldOf (wordAt req 2) 0 16) + fieldOf (wordAt req 2) 16 7
      s.clock.slot ≤ slot ∧ ∃ t, (grantsOf (fieldOf (wordAt req 0) 0 4) s).lastTarget = some t ∧ slot ≤ t)
    (fun _ req s =>
      let p := fieldOf (wordAt req 0) 0 4
      let slot := 128 * ((wordAt req 1).toNat + 2 ^ 32 * fieldOf (wordAt req 2) 0 16) + fieldOf (wordAt req 2) 16 7
      let frozen := (match s.grants.frozenTo with | some n => decide (slot ≤ n) | none => false)
      let gs := if frozen then frozenGrants p slot s else effectiveGrants slot (grantsOf p s)
      ((List.range 62).map (fun j => entryWord (gs.getD j grantAbsent)) ++ originWords gs ++ [wordOf (bitNat frozen)], s)) ∧
  Completes false 1 .standingRead
    (fun _ req _ => 1 ≤ fieldOf (wordAt req 0) 16 5 ∧ fieldOf (wordAt req 0) 16 5 ≤ 16)
    (fun _ req s =>
      let first := fieldOf (wordAt req 0) 8 8
      let n := min (fieldOf (wordAt req 0) 16 5) (256 - first)
      (wordOf n :: (List.range n).flatMap (fun i =>
        sheetWords (first + i) (heldSheet (sfnOf s.clock.slot) (first + i) (grantsOf (fieldOf (wordAt req 0) 0 4) s)) s.clock.slot), s)) ∧
  Completes false 1 .reportConfig (fun src req _ => src = .pf0 ∧ fieldOf (wordAt req 0) 0 8 ≤ 128)
    (fun _ req s => ([], { s with grants := { s.grants with
      piggy := piggyNow s, piggyNext := fieldOf (wordAt req 0) 0 8, piggyAt := s.clock.slot + 1 } })) ∧
  Completes false 1 .grantCounters (clearByPf0 0 8)
    (fun _ req s =>
      let p := fieldOf (wordAt req 0) 0 4
      ((grantsOf p s).counters.map wordOf,
        cleared (bitOf (wordAt req 0) 8) (modGrants p (fun g => { g with counters := List.replicate 9 0 })) s))

/-- The transmitter commands 0x0401 to 0x0406: words by R194, statuses by R195. Each clause names its conditions, the response words and the
whole effect; conditions that a clause does not meet are no part of it. Assumptions 38 to 42 are the model's. -/
def Obligations.TransmitCommandsComplete : Prop :=
  Completes false 1 .txStatus
    (fun _ req _ =>
      let count := fieldOf (wordAt req 0) 16 7
      1 ≤ count ∧ count ≤ 64 ∧ fieldOf (wordAt req 0) 0 9 + count ≤ 512)
    (fun _ req s =>
      ((List.range (fieldOf (wordAt req 0) 16 7)).map (fun i => txStatusWord (txOf (fieldOf (wordAt req 0) 0 9 + i) s)), s)) ∧
  Completes false 1 .txService
    (fun src req s =>
      let n := nextPhase (fieldOf (wordAt req 0) 0 9) s
      src = .pf0 ∧ bitOf (wordAt req 0) 16 = false ∧ n.1 ≠ .off ∧ n.1 ≠ .failed ∧ ¬ (n.1 = .out ∧ n.2 = .host))
    (fun _ req s => ([], modTx (fieldOf (wordAt req 0) 0 9) (fun t => { t with pending := t.pending ++ [.leave .host] }) s)) ∧
  Completes false 1 .txService
    (fun src req s =>
      let n := nextPhase (fieldOf (wordAt req 0) 0 9) s
      src = .pf0 ∧ bitOf (wordAt req 0) 16 = true ∧
        ((n.1 = .failed ∧ (n.2 = .power ∨ n.2 = .retune)) ∨ (n.1 = .out ∧ n.2 ≠ .drift)))
    (fun _ req s => ([], modTx (fieldOf (wordAt req 0) 0 9) (fun t => { t with pending := t.pending ++ [.returned] }) s)) ∧
  Completes false 1 .txService
    (fun src req s =>
      let n := nextPhase (fieldOf (wordAt req 0) 0 9) s
      src = .pf0 ∧ ((bitOf (wordAt req 0) 16 = false ∧ n.1 = .out ∧ n.2 = .host) ∨
        (bitOf (wordAt req 0) 16 = true ∧ n.1 ≠ .failed ∧ n.1 ≠ .out)))
    (fun _ _ s => ([], s)) ∧
  Completes false 1 .txCounters (clearByPf0 0 16)
    (fun _ req s =>
      let x := fieldOf (wordAt req 0) 0 9
      ((txOf x s).counters.map wordOf,
        cleared (bitOf (wordAt req 0) 16) (modTx x (fun t => { t with counters := List.replicate 8 0 })) s)) ∧
  Completes false 1 .tuneTableRead
    (fun _ req s =>
      let first := fieldOf (wordAt req 0) 16 7
      let count := fieldOf (wordAt req 0) 24 4
      2 ≤ first ∧ 1 ≤ count ∧ count ≤ 8 ∧ first + count ≤ 65 ∧ (txOf (fieldOf (wordAt req 0) 0 9) s).phase ≠ .off)
    (fun _ req s =>
      let x := fieldOf (wordAt req 0) 0 9
      ((List.range (fieldOf (wordAt req 0) 24 4)).flatMap (fun i => tuneEntryWords x (fieldOf (wordAt req 0) 16 7 + i) (txOf x s)), s)) ∧
  Completes false 1 .txConfig (fun src req _ => src = .pf0 ∧ fieldOf (wordAt req 0) 8 8 ≠ 0)
    (fun _ req s =>
      let w := wordAt req 0
      ([], { s with tx := { s.tx with
        cfg := { s.tx.cfg with splitEnable := bitOf w 1, jumboWait := fieldOf w 8 8 }, calPending := some (bitOf w 0) } })) ∧
  Completes false 1 .trimReset (fun src _ _ => src = .pf0)
    (fun _ req s => ([], modTx (fieldOf (wordAt req 0) 0 9) (fun t => { t with trimReset := true }) s))

/-- The receive commands 0x0501 to 0x0506: words by R225, statuses by R226; the cue counters are those of R103. Each clause names its
conditions, the response words and the whole effect; conditions that a clause does not meet are no part of it. Assumption 47 is the model's.
-/
def Obligations.ReceiveCommandsComplete : Prop :=
  Completes false 1 .rxLaneStatus
    (fun _ req _ =>
      let count := fieldOf (wordAt req 0) 16 7
      1 ≤ count ∧ count ≤ 64 ∧ fieldOf (wordAt req 0) 0 10 + count ≤ 1024)
    (fun _ req s => ((List.range (fieldOf (wordAt req 0) 16 7)).map (fun i => rxStatusWord (fieldOf (wordAt req 0) 0 10 + i) s), s)) ∧
  Completes false 1 .rxCounters
    (fun src req s => clearByPf0 0 16 src req s ∧ 2 ≤ fieldOf (wordAt req 0) 0 10 % 64)
    (fun _ req s =>
      let r := fieldOf (wordAt req 0) 0 10
      ((rxLane r s).counters.map wordOf,
        cleared (bitOf (wordAt req 0) 16) (modRxLane r (fun l => { l with counters := List.replicate 16 0 })) s)) ∧
  Completes false 1 .rxSenderStats
    (fun src req s => clearByPf0 0 16 src req s ∧ fieldOf (wordAt req 0) 8 5 ≤ 29)
    (fun _ req s =>
      let k := 32 * fieldOf (wordAt req 0) 0 4 + fieldOf (wordAt req 0) 8 5
      let zeros := List.replicate 9 0
      ((tabGet zeros s.rx.senders k).map wordOf,
        cleared (bitOf (wordAt req 0) 16) (modRx (fun x => { x with senders := tabSet zeros x.senders k zeros })) s)) ∧
  Completes false 1 .rxMembership
    (fun src req _ => src = .pf0 ∧ fieldOf (wordAt req 0) 16 2 ≤ 1)
    (fun _ req s =>
      let g := fieldOf (wordAt req 0) 0 10
      let u := changeMember g (fieldOf (wordAt req 0) 16 2 == 1) s
      ([wordOf (bitNat (maskBit u.rx.memberNext g))], u)) ∧
  Completes false 1 .rxMembership (fun _ req _ => fieldOf (wordAt req 0) 16 2 = 2)
    (fun _ req s => ([wordOf (bitNat (maskBit s.rx.memberNext (fieldOf (wordAt req 0) 0 10)))], s)) ∧
  Accepts false 3 .rxLedgerTap
    (fun src req s =>
      let count := fieldOf (wordAt req 0) 16 5
      let slot := 128 * ((wordAt req 1).toNat + 2 ^ 32 * fieldOf (wordAt req 2) 0 16) + fieldOf (wordAt req 2) 16 7
      1 ≤ count ∧ count ≤ 16 ∧ fieldOf (wordAt req 0) 0 10 + count ≤ 1024 ∧ s.clock.slot ≤ slot ∧
        slot ≤ s.clock.slot + 256 * 128 ∧ tapPending src s = false)
    (fun src tag req s => startLong src tag
      (.ledgerTap (128 * ((wordAt req 1).toNat + 2 ^ 32 * fieldOf (wordAt req 2) 0 16) + fieldOf (wordAt req 2) 16 7)
        (fieldOf (wordAt req 0) 0 10) (fieldOf (wordAt req 0) 16 5)) s) ∧
  Completes false 1 .rxCueCounters (clearByPf0 0 16)
    (fun _ req s =>
      let p := fieldOf (wordAt req 0) 0 4
      let h := hubOf (bitOf (wordAt req 0) 8)
      ((laneOf h p s).counters.map wordOf,
        cleared (bitOf (wordAt req 0) 16) (modLane h p (fun l => { l with counters := [0, 0, 0, 0, 0, 0] })) s))

/-- The express commands 0x0601 to 0x0609: groups, pairs, the switching request, counters and placement; words by R262, statuses and side
effects by R263. Each clause names its conditions, the response words and the whole effect; conditions that a clause does not meet are no
part of it. Assumption 48 is the model's. -/
def Obligations.ExpressCommandsComplete : Prop :=
  Completes false 4 .groupCreate
    (fun src req s =>
      let c := groupRequest req
      src = .pf0 ∧ groupArgsOk c (wordAt req 2) = true ∧ (groupNumbered c.number s).isSome = false ∧ portEnabled c.port s = true ∧
        (portOf c.port s).cfg.circuit = true ∧
        (∀ i ∈ liveGroups s, (groupOf i s).cfg.trib = true ∨ (groupOf i s).cfg.port ≠ c.port ∨ (groupOf i s).cfg.role ≠ c.role) ∧
        membersInUse s + mapCount (fieldOf (wordAt req 2) 0 17) ≤ 512 ∧ hasIndex .expressGroup s)
    (fun _ req s =>
      let c := groupRequest req
      let i := newIndex .expressGroup s
      let u := carryPort c.port true (openGroup i c (fieldOf (wordAt req 2) 0 17) s)
      ([handleOf 0x01 i u], setClientAis i true u)) ∧
  Completes false 1 .groupDestroy
    (fun src req s => src = .pf0 ∧ valid0 .expressGroup req s ∧ (pairOfGroup (ix0 req) s).isSome = false)
    (fun _ req s =>
      let i := ix0 req
      let g := groupOf i s
      let u := endLongs (fun k => k == .groupResize i) .aborted [] (clearGroup i s)
      ([], closeChan .expressGroup i (endGroup i (if g.cfg.trib then u else carryPort g.cfg.port false u)))) ∧
  Completes false 2 .groupStatus (fun src req s => clearByPf0 1 0 src req s ∧ valid0 .expressGroup req s)
    (fun _ req s =>
      (groupWords (ix0 req) s, cleared (bitOf (wordAt req 1) 0) (fun u =>
        clear 0x0609 srcExpress (handleOf 0x01 (ix0 req) u) 0 (modGroup (ix0 req) (fun g => { g with authFail := false }) u)) s)) ∧
  Accepts false 2 .groupResize
    (fun src req s =>
      let g := groupOf (ix0 req) s
      let m := fieldOf (wordAt req 1) 4 5
      src = .pf0 ∧ valid0 .expressGroup req s ∧ m ≤ 16 ∧ g.cfg.trib = false ∧ g.resize.phase = .idle ∧
        (if bitOf (wordAt req 1) 0 then tooFew g m = false else maskBit g.map m = false))
    (fun src tag req s =>
      let m := fieldOf (wordAt req 1) 4 5
      let u := modGroup (ix0 req) (fun g => { g with resize := { g.resize with
        phase := .request, remove := bitOf (wordAt req 1) 0, member := m, own := true, tPrep := some (s.clock.now + 64 * superframeCc) } }) s
      startLong src tag (.groupResize (ix0 req)) (if bitOf (wordAt req 1) 0 then u else dropStream (ix0 req) m u)) ∧
  Completes false 3 .pairCreate
    (fun src req s =>
      let p := fieldOf (wordAt req 1) 0 16
      let a := (groupOf (ix0 req) s).cfg
      let b := (groupOf p s).cfg
      let c := wordAt req 2
      src = .pf0 ∧ valid0 .expressGroup req s ∧ checkHandle .expressGroup (wordAt req 1) s = .ok p ∧ a.role = 1 ∧ b.role = 2 ∧
        fieldOf c 8 8 ≤ 100 ∧ 1 ≤ fieldOf c 16 10 ∧ fieldOf c 16 10 ≤ 720 ∧ (pairOfGroup (ix0 req) s).isSome = false ∧
        (pairOfGroup p s).isSome = false ∧ a.farTn = b.farTn ∧ a.port = b.port ∧ a.ctype = b.ctype)
    (fun _ req s =>
      let p := fieldOf (wordAt req 1) 0 16
      let c := wordAt req 2
      let u := setPair (ix0 req)
        (some { pairReset with protect := p, revertive := bitOf c 0, holdOff := fieldOf c 8 8, wtr := fieldOf c 16 10 }) s
      ([], pairOutput (ix0 req) (modGroup p (fun g => { g with bridged := true }) (setClientAis p false u)))) ∧
  Completes false 1 .pairDestroy
    (fun src req s => src = .pf0 ∧ valid0 .expressGroup req s ∧ (pairAt (ix0 req) s).isSome = true)
    (fun _ req s =>
      let w := ix0 req
      let p := (pairAt w s).getD pairReset
      let u := modGroup p.protect (fun g => { g with bridged := false })
        (clear 0x060B srcExpress (handleOf 0x01 w s) 0 (setPair w none s))
      ([], setClientAis w (outputAis w u) u)) ∧
  Completes false 2 .protectRequest
    (fun src req s => src = .pf0 ∧ valid0 .expressGroup req s ∧ (pairAt (ix0 req) s).isSome = true ∧ fieldOf (wordAt req 1) 0 3 ≤ 4)
    (fun _ req s =>
      let w := ix0 req
      let u := pairOutput w (selectPair w (setPair w
        (some { (pairAt w s).getD pairReset with request := fieldOf (wordAt req 1) 0 3 }) s))
      ([selectorWord ((pairAt w u).getD pairReset) u], u)) ∧
  Completes false 2 .protectRequest
    (fun _ req s => valid0 .expressGroup req s ∧ (pairAt (ix0 req) s).isSome = true ∧ fieldOf (wordAt req 1) 0 3 = 7)
    (fun _ req s => ([selectorWord ((pairAt (ix0 req) s).getD pairReset) s], s)) ∧
  Completes false 2 .groupCounters (fun src req s => clearByPf0 1 0 src req s ∧ valid0 .expressGroup req s)
    (fun _ req s =>
      let i := ix0 req
      let u := setClientAis i (groupOf i s).clientAis s
      (groupCounterWords (groupOf i u), cleared (bitOf (wordAt req 1) 0)
        (modGroup i (fun g => { g with counters := List.replicate 12 0, flaggedCount := 0, unverifiedCount := 0 })) u)) ∧
  Completes false 0 .lanePlacementRead anyone
    (fun _ _ s => ((List.range 32).map (fun j => wordOf (maskOf (fun i => placementBit (32 * j + i) s) 32)), s))

/-- The tributary commands 0x0701 to 0x0707: tributary groups, tributaries and the two pages; words by R281, statuses by R282. Each clause
names its conditions, the response words and the whole effect; conditions that a clause does not meet are no part of it. Assumptions 49, 94
and 110 are the model's. -/
def Obligations.TributaryCommandsComplete : Prop :=
  Completes false 3 .tribGroupCreate
    (fun src req s =>
      let a := wordAt req 0
      let map := fieldOf (wordAt req 1) 0 17
      src = .pf0 ∧ fieldOf a 16 5 ≤ 29 ∧ fieldOf (wordAt req 1) 17 15 = 0 ∧ map ≠ 0 ∧ (bitOf a 24 = true → mapCount map ≤ 4) ∧
        (groupNumbered (fieldOf a 0 10) s).isSome = false ∧ membersInUse s + mapCount map ≤ 512 ∧ hasIndex .expressGroup s)
    (fun _ req s =>
      let a := wordAt req 0
      let sd := fieldOf (wordAt req 2) 0 16
      let i := newIndex .expressGroup s
      let u := openGroup i
        { groupConfigReset with
          number := fieldOf a 0 10, farTn := fieldOf a 16 5, sdLimit := if sd = 0 then 40 else sd, trib := true, pn0832 := bitOf a 24 }
        (fieldOf (wordAt req 1) 0 17) s
      ([handleOf 0x01 i u], modGroup i (fun g => { g with clientAis := false }) u)) ∧
  Completes false 1 .tribCreate
    (fun src req s =>
      let a := wordAt req 0
      let p := (portOf (fieldOf a 16 8) s).cfg
      src = .pf0 ∧ hasIndex .tributary s ∧ (bitOf a 8 = true →
        p.ptype = (if fieldOf a 0 1 = 0 then 6 else 5) ∧ p.circuit = true ∧ (laneTributary (fieldOf a 16 8) s).isSome = false))
    (fun _ req s =>
      let a := wordAt req 0
      let client := bitOf a 8
      let lane := if client then fieldOf a 16 8 else 0
      let i := newIndex .tributary s
      let u := modTrib i (fun _ => { tributaryReset with ttype := fieldOf a 0 1, client := client, lane := lane })
        (openChan .tributary i s)
      ([handleOf 0x02 i u], if client then carryPort lane true u else u)) ∧
  Completes false 1 .tribDestroy
    (fun src req s => src = .pf0 ∧ valid0 .tributary req s ∧
      s.express.stage.any (fun e => entryValid e.2 && entryCirc e.2 == ix0 req) = false)
    (fun _ req s =>
      let i := ix0 req
      let c := tribOf i s
      let u := modExpress (fun x => { x with
          wings := tabMap 0 (fun _ e => if entryValid e && entryCirc e == i then BitVec.ofNat 64 (e.toNat % 2 ^ 63) else e) x.wings
          tribs := tabSet tributaryReset x.tribs i tributaryReset })
        (clear 0x0701 (tribSource c) (if c.client then 0 else handleOf 0x02 i s) 0 s)
      ([], closeChan .tributary i (if c.client then carryPort c.lane false u else u))) ∧
  Completes false 3 .wingsWrite
    (fun src req s =>
      let k := fieldOf (wordAt req 0) 0 12
      let e := BitVec.ofNat 64 (((wordAt req 1).toNat + 2 ^ 32 * (wordAt req 2).toNat) / 2 ^ 11 * 2 ^ 11)
      src = .pf0 ∧ entryFieldsOk e s = true ∧ swapBusy s = false ∧
        (entryValid e && s.express.wings.any (fun w => w.1 != k && entryValid w.2 && entriesConflict e w.2)) = false)
    (fun _ req s =>
      let e := BitVec.ofNat 64 (((wordAt req 1).toNat + 2 ^ 32 * (wordAt req 2).toNat) / 2 ^ 11 * 2 ^ 11)
      ([], modExpress (fun x => { x with wings := tabSet 0 x.wings (fieldOf (wordAt req 0) 0 12) e }) s)) ∧
  Completes false 1 .pageRead
    (fun _ req _ =>
      let n := fieldOf (wordAt req 0) 16 5
      1 ≤ n ∧ n ≤ 16 ∧ fieldOf (wordAt req 0) 0 12 + n ≤ 4096)
    (fun _ req s =>
      let page := if bitOf (wordAt req 0) 24 then s.express.wings else s.express.stage
      ((List.range (fieldOf (wordAt req 0) 16 5)).flatMap (fun i =>
        let e := (tabGet 0 page (fieldOf (wordAt req 0) 0 12 + i)).toNat
        [lowWord e, highWord e]), s)) ∧
  Completes false 0 .wingsCopy (fun src _ s => src = .pf0 ∧ s.express.swap = none)
    (fun _ _ s => ([], modExpress (fun x => { x with wings := x.stage }) s)) ∧
  Completes false 3 .pageSwap
    (fun src req s =>
      src = .pf0 ∧ bitOf (wordAt req 0) 0 = false ∧ nowSfn s < (wordAt req 1).toNat + 2 ^ 32 * fieldOf (wordAt req 2) 0 16 ∧
        s.express.swap = none)
    (fun _ req s =>
      let sfn := (wordAt req 1).toNat + 2 ^ 32 * fieldOf (wordAt req 2) 0 16
      let eff := if beforeCutoff sfn s then sfn else firstSfn s
      (swapWords eff sfn, modExpress (fun x => { x with swap := some eff }) s)) ∧
  Completes false 3 .pageSwap
    (fun src req s => src = .pf0 ∧ bitOf (wordAt req 0) 0 = true ∧ ∃ n, s.express.swap = some n ∧ beforeCutoff n s = true)
    (fun _ req s =>
      (swapWords (s.express.swap.getD 0) ((wordAt req 1).toNat + 2 ^ 32 * fieldOf (wordAt req 2) 0 16),
        modExpress (fun x => { x with swap := none, elasticNext := [] }) s))

/-- The commands of 0x08xx for ports, parse graphs and rule sets: words by R320 and R321, statuses by R322 and R323. Each clause names its
conditions, the response words and the whole effect; conditions that a clause does not meet are no part of it. Assumptions 50 and 51 are the
model's. -/
def Obligations.PortCommandsComplete : Prop :=
  Completes false 2 .portConfig
    (fun src req s =>
      let p := fieldOf (wordAt req 0) 0 8
      let c := portConfigOf req
      src = .pf0 ∧ portConfigOk p c = true ∧ (portOf p s).cfg.ptype = 0 ∧ c.ptype ≠ 0 ∧ laneConflict p c s = false)
    (fun _ req s =>
      let p := fieldOf (wordAt req 0) 0 8
      ([], endPortAis p (typeLanes (portConfigOf req).ptype) (startPort p (modPort p (fun x => { x with cfg := portConfigOf req, los := 0 }) s)))) ∧
  Completes false 2 .portConfig
    (fun src req s =>
      let p := fieldOf (wordAt req 0) 0 8
      src = .pf0 ∧ portConfigOk p (portConfigOf req) = true ∧ (portOf p s).cfg.ptype ≠ 0 ∧ (portConfigOf req).ptype = 0 ∧
        (portOf p s).carriers = 0)
    (fun _ req s =>
      let p := fieldOf (wordAt req 0) 0 8
      ([], endPortAis p (typeLanes (portOf p s).cfg.ptype) (disablePort p s))) ∧
  Completes false 2 .portConfig
    (fun src req s =>
      let x := (portOf (fieldOf (wordAt req 0) 0 8) s).cfg
      let c := portConfigOf req
      src = .pf0 ∧ portConfigOk (fieldOf (wordAt req 0) 0 8) c = true ∧ x.ptype ≠ 0 ∧ c.ptype = x.ptype ∧ c.circuit = x.circuit ∧
        c.iface = x.iface)
    (fun _ req s =>
      let p := fieldOf (wordAt req 0) 0 8
      ([], endPortAis p (typeLanes (portConfigOf req).ptype) (modPort p (fun x => { x with cfg := portConfigOf req }) s))) ∧
  Completes false 1 .portStatus (fun _ req s => portEnabled (fieldOf (wordAt req 0) 0 8) s = true)
    (fun _ req s =>
      let x := portOf (fieldOf (wordAt req 0) 0 8) s
      ([pack [(0, portCode x.phase), (3, bitNat x.lf), (4, bitNat x.rf), (8, x.los), (16, min 255 x.trainFails)]], s)) ∧
  Completes false 1 .portCounters
    (fun src req s => clearByPf0 0 16 src req s ∧ portEnabled (fieldOf (wordAt req 0) 0 8) s = true)
    (fun _ req s =>
      let p := fieldOf (wordAt req 0) 0 8
      (counterWords 26 (portOf p s).counters,
        cleared (bitOf (wordAt req 0) 16) (modPort p (fun x => { x with counters := List.replicate 13 0 })) s)) ∧
  Completes false 0 .graphCreate (fun src _ s => src = .pf0 ∧ hasIndex .parseGraph s)
    (fun _ _ s =>
      let i := newIndex .parseGraph s
      let u := openChan .parseGraph i (setGraph i graphImageReset s)
      ([handleOf 0x06 i u], u)) ∧
  Completes false 34 .nodeWrite
    (fun src req s =>
      src = .pf0 ∧ valid0 .parseGraph req s ∧ recordFits ((req.drop 2).take 32) = true ∧
        (tabGet graphImageReset s.ports.graphs (ix0 req)).locked = false)
    (fun _ req s =>
      let g := tabGet graphImageReset s.ports.graphs (ix0 req)
      ([], setGraph (ix0 req) { g with nodes := tabSet [] g.nodes (fieldOf (wordAt req 1) 0 8) ((req.drop 2).take 32) } s)) ∧
  Completes false 0 .rulesetCreate (fun src _ s => src = .pf0 ∧ hasIndex .ruleSet s)
    (fun _ _ s =>
      let i := newIndex .ruleSet s
      let u := openChan .ruleSet i (setRuleSet i ruleSetReset s)
      ([handleOf 0x07 i u], u)) ∧
  Completes false 42 .ruleWrite
    (fun src req s =>
      let record := (req.drop 2).take 40
      src = .pf0 ∧ valid0 .ruleSet req s ∧ fieldOf (wordAt record 37) 8 2 ≠ 3 ∧ policerBad (wordAt record 38) s = false ∧
        (ruleSetOf (ix0 req) s).locked = false)
    (fun _ req s =>
      let r := ruleSetOf (ix0 req) s
      ([], setRuleSet (ix0 req) { r with rules := tabSet [] r.rules (fieldOf (wordAt req 1) 0 12) ((req.drop 2).take 40) } s)) ∧
  Completes false 2 .rulesetParam
    (fun src req s =>
      src = .pf0 ∧ valid0 .ruleSet req s ∧ paramWords (fieldOf (wordAt req 1) 0 2) ≤ req.length ∧
        paramOk (fieldOf (wordAt req 1) 0 2) (fieldOf (wordAt req 1) 8 6) req = true ∧ (ruleSetOf (ix0 req) s).locked = false ∧
        (fieldOf (wordAt req 1) 0 2 = 0 → ∃ m, handleOrNull .meter (wordAt req 3) s = .ok m))
    (fun _ req s =>
      ([], setRuleSet (ix0 req)
        (writeParam (fieldOf (wordAt req 1) 0 2) (fieldOf (wordAt req 1) 8 6) req (ruleSetOf (ix0 req) s)) s)) ∧
  Completes false 1 .classifyDestroy
    (fun src req s =>
      src = .pf0 ∧ fieldOf (wordAt req 0) 26 6 = 0x06 ∧ valid0 .parseGraph req s ∧ s.ports.graph ≠ some (ix0 req) ∧
        (olderEpoch s).map (fun o => o.1) ≠ some (some (ix0 req)))
    (fun _ req s => ([], closeChan .parseGraph (ix0 req) (setGraph (ix0 req) graphImageReset s))) ∧
  Completes false 1 .classifyDestroy
    (fun src req s =>
      src = .pf0 ∧ fieldOf (wordAt req 0) 26 6 ≠ 0x06 ∧ valid0 .ruleSet req s ∧ s.ports.ruleSet ≠ some (ix0 req) ∧
        (olderEpoch s).map (fun o => o.2) ≠ some (some (ix0 req)))
    (fun _ req s => ([], closeChan .ruleSet (ix0 req) (setRuleSet (ix0 req) ruleSetReset s)))

/-- The classifier's tables: activation of a graph and a rule set, the destination table, load spreading, the slow path, counters and flow
bindings; words by R320 and R321, statuses by R322 and R323. Each clause names its conditions, the response words and the whole effect;
conditions that a clause does not meet are no part of it. Where the destination table puts an entry is free (assumption 23); assumptions 51
and 97 are the model's. -/
def Obligations.ClassifierCommandsComplete : Prop :=
  (∀ src tag req s g r, CanRun false s → 2 ≤ req.length → src = .pf0 → handleOrNull .parseGraph (wordAt req 0) s = .ok g →
    handleOrNull .ruleSet (wordAt req 1) s = .ok r → (graphNodes g s 0).isSome = true → olderEpoch s = none →
    exec (.classifyActivate src tag req) s =
      .next (
        let n := ((sealGraph g (sealRuleSet r s)).ports.epoch + 1) % 65536
        answered src tag .ok [wordOf n] (raise 0x0807 1923 .info (wordOf n) 0
          (modPorts (fun p => { p with
              older := some (p.graph, p.ruleSet), graph := g, ruleSet := r, epoch := n, drainBy := s.clock.now + 2 * usCc })
            (sealGraph g (sealRuleSet r s)))))) ∧
  (∀ src tag req s k b x, CanRun false s → 3 ≤ req.length → src = .pf0 → fibKey (wordAt req 0) (wordAt req 1) = some k →
    (fieldOf (wordAt req 2) 0 23 / 1024 % 2 = 0 → fieldOf (wordAt req 2) 0 23 % 1024 ≤ 29) → tabGet none s.ports.fib k = some (x, b) →
    exec (.fibInsert src tag req) s = .next (answered src tag .ok [] (lands (setFib k (some (fieldOf (wordAt req 2) 0 23, b)) s)))) ∧
  (∀ src tag req s k b, CanRun false s → 3 ≤ req.length → src = .pf0 → fibKey (wordAt req 0) (wordAt req 1) = some k →
    (fieldOf (wordAt req 2) 0 23 / 1024 % 2 = 0 → fieldOf (wordAt req 2) 0 23 % 1024 ≤ 29) → tabGet none s.ports.fib k = none →
    s.ports.fib.length < 1048576 → (placeKey s).1 = some b →
    exec (.fibInsert src tag req) s =
      .next (answered src tag .ok [] (lands (setFib k (some (fieldOf (wordAt req 2) 0 23, b)) (placeKey s).2)))) ∧
  (∀ src tag req s k, CanRun false s → 2 ≤ req.length → src = .pf0 → fibKey (wordAt req 0) (wordAt req 1) = some k →
    exec (.fibDelete src tag req) s = .next (answered src tag .ok []
      (match tabGet none s.ports.fib k with
      | none => s
      | some (_, true) => lands (setFib k none s)
      | some (_, false) => lands (drainStash (setFib k none s))))) ∧
  Completes false 2 .fibRead anyone
    (fun _ req s =>
      let r := (fibKey (wordAt req 0) (wordAt req 1)).bind (fun k => fibGet k s)
      ([wordOf (r.getD 0), wordOf (bitNat r.isSome), wordOf s.ports.fib.length], s)) ∧
  Completes false 1 .indirectionWrite
    (fun src req _ =>
      let first := fieldOf (wordAt req 0) 8 8
      let count := fieldOf (wordAt req 0) 16 9
      src = .pf0 ∧ fieldOf (wordAt req 0) 0 5 ≤ 30 ∧ 1 ≤ count ∧ first + count ≤ 256 ∧ 1 + (min count 256 + 7) / 8 ≤ req.length)
    (fun _ req s =>
      let write := writeIndirection req (fieldOf (wordAt req 0) 0 5) (fieldOf (wordAt req 0) 8 8) (fieldOf (wordAt req 0) 16 9)
      ([], modPorts (fun p => { p with indirection := write p.indirection }) s)) ∧
  Completes false 2 .slowPathConfig
    (fun src req _ =>
      let burst := fieldOf (wordAt req 1) 0 25
      src = .pf0 ∧ fieldOf (wordAt req 0) 0 10 ≤ 1000 ∧ 10240 ≤ burst ∧ burst ≤ 16777216)
    (fun _ req s =>
      let burst := fieldOf (wordAt req 1) 0 25
      ([], modPorts (fun p => { p with slow := ⟨fieldOf (wordAt req 0) 0 10, burst, burst * 140, s.clock.now⟩ }) s)) ∧
  Completes false 1 .classifyCounters (clearByPf0 0 0)
    (fun _ req s => (counterWords 34 s.ports.counters,
      cleared (bitOf (wordAt req 0) 0) (modPorts (fun p => { p with counters := List.replicate 17 0 })) s)) ∧
  Completes false 2 .flowBindCreate
    (fun src req s =>
      let t := fieldOf (wordAt req 0) 0 5
      src = .pf0 ∧ t ≤ 30 ∧ (bindingOf t (wordAt req 1).toNat s).isSome = false ∧ hasIndex .flowBinding s)
    (fun _ req s =>
      let i := newIndex .flowBinding s
      let u := openChan .flowBinding i
        (setBinding i ⟨fieldOf (wordAt req 0) 0 5, fieldOf (wordAt req 0) 8 4, (wordAt req 1).toNat, 0⟩ s)
      ([handleOf 0x03 i u], lands u)) ∧
  Completes false 1 .flowBindDestroy (fun src req s => src = .pf0 ∧ valid0 .flowBinding req s)
    (fun _ req s => ([], lands (closeChan .flowBinding (ix0 req) (setBinding (ix0 req) flowBindingReset s)))) ∧
  Completes false 2 .flowBindStatus (fun src req s => clearByPf0 1 0 src req s ∧ valid0 .flowBinding req s)
    (fun _ req s =>
      let b := tabGet flowBindingReset s.ports.bindings (ix0 req)
      ([pack [(0, b.table), (8, b.plane), (16, bitNat ((planeOf b.plane s).phase != .active))], wordOf b.hash, lowWord b.frames,
          highWord b.frames],
        cleared (bitOf (wordAt req 1) 0) (setBinding (ix0 req) { b with frames := 0 }) s))

/-- The commands of 0x09xx for the virtual output queues, meters, shapers, egress classes, multicast groups and counters: words by R349,
statuses by R350. Each clause names its conditions, the response words and the whole effect; conditions that a clause does not meet are no
part of it. Assumptions 51 to 53 are the model's. -/
def Obligations.QueueCommandsComplete : Prop :=
  Completes false 2 .voqConfig
    (fun src req _ =>
      let q := fieldOf (wordAt req 0) 16 16
      let limit := if fieldOf (wordAt req 1) 0 16 = 0 then 4096 else fieldOf (wordAt req 1) 0 16
      let yellow := if fieldOf (wordAt req 1) 16 16 = 0 then 2048 else fieldOf (wordAt req 1) 16 16
      src = .pf0 ∧ fieldOf (wordAt req 0) 0 5 ≤ 30 ∧ (q = 0 ∨ 64 ≤ q) ∧ yellow ≤ limit)
    (fun _ req s =>
      let w := wordAt req 0
      let q := fieldOf w 16 16
      let limit := if fieldOf (wordAt req 1) 0 16 = 0 then 4096 else fieldOf (wordAt req 1) 0 16
      let yellow := if fieldOf (wordAt req 1) 16 16 = 0 then 2048 else fieldOf (wordAt req 1) 16 16
      let c : VoqConfig := ⟨if q = 0 then 10240 else q, limit, yellow⟩
      ([], modQueues (fun x => { x with voqCfg := tabSet voqConfigReset x.voqCfg (8 * fieldOf w 0 5 + fieldOf w 8 3) c }) s)) ∧
  Completes false 1 .voqStatus (fun _ req _ => fieldOf (wordAt req 0) 0 5 ≤ 30)
    (fun _ req s =>
      let d := fieldOf (wordAt req 0) 0 5
      let c := fieldOf (wordAt req 0) 8 3
      ((List.range 16).map (fun p => wordOf (min (2 ^ 32 - 1) (occupancy d c p s))) ++
        [wordOf ((voqQueues d c s).map (fun e => e.2.length)).sum, wordOf (shaperCode (voqOf d c s).shaper s)], s)) ∧
  Completes false 5 .meterCreate
    (fun src req s =>
      let w := wordAt req 0
      let cir := (wordAt req 1).toNat
      let pir := (wordAt req 2).toNat
      src = .pf0 ∧ cir ≤ pir ∧ pir ≤ 26000000 ∧ 10240 ≤ fieldOf (wordAt req 3) 0 24 ∧ 10240 ≤ fieldOf (wordAt req 4) 0 24 ∧
        colourMapBad (fieldOf w 16 16) = false ∧ fieldOf w 2 10 ≤ 573 ∧ hasIndex .meter s)
    (fun _ req s =>
      let w := wordAt req 0
      let cbs := fieldOf (wordAt req 3) 0 24
      let pbs := fieldOf (wordAt req 4) 0 24
      let i := newIndex .meter s
      let u := openChan .meter i (setMeter i
        { meterReset with
          shaper := bitOf w 0, aware := bitOf w 1, colourOff := fieldOf w 2 10, colourMap := fieldOf w 16 16, cir := (wordAt req 1).toNat,
          pir := (wordAt req 2).toNat, cbs := cbs, pbs := pbs, tc := cbs * byteUnits, tp := pbs * byteUnits, at_ := s.clock.now } s)
      ([handleOf 0x04 i u], u)) ∧
  Completes false 1 .meterDestroy
    (fun src req s =>
      src = .pf0 ∧ valid0 .meter req s ∧ (tabGet meterReset s.queues.meters (ix0 req)).target = none ∧
        meterNamed (wordAt req 0) s = false)
    (fun _ req s => ([], closeChan .meter (ix0 req) (setMeter (ix0 req) meterReset s))) ∧
  Completes false 2 .shaperAttach
    (fun src req s =>
      let w := wordAt req 1
      let t : ShaperTarget := if bitOf w 1 then .portQueue (fieldOf w 16 8) (fieldOf w 24 3) else .voq (fieldOf w 2 5) (fieldOf w 8 3)
      src = .pf0 ∧ valid0 .meter req s ∧ (meterOf (ix0 req) s).shaper = true ∧ (bitOf w 1 = false → fieldOf w 2 5 ≤ 30) ∧
        bitOf w 0 = false ∧ (meterOf (ix0 req) s).target = none ∧ (targetShaper t s).isSome = false)
    (fun _ req s =>
      let w := wordAt req 1
      let t : ShaperTarget := if bitOf w 1 then .portQueue (fieldOf w 16 8) (fieldOf w 24 3) else .voq (fieldOf w 2 5) (fieldOf w 8 3)
      ([], setTargetShaper t (some (ix0 req)) (setMeter (ix0 req) { meterOf (ix0 req) s with target := some t } s))) ∧
  Completes false 2 .shaperAttach
    (fun src req s =>
      let w := wordAt req 1
      let t : ShaperTarget := if bitOf w 1 then .portQueue (fieldOf w 16 8) (fieldOf w 24 3) else .voq (fieldOf w 2 5) (fieldOf w 8 3)
      src = .pf0 ∧ valid0 .meter req s ∧ (meterOf (ix0 req) s).shaper = true ∧ (bitOf w 1 = false → fieldOf w 2 5 ≤ 30) ∧
        bitOf w 0 = true ∧ (meterOf (ix0 req) s).target = some t)
    (fun _ req s =>
      let w := wordAt req 1
      let t : ShaperTarget := if bitOf w 1 then .portQueue (fieldOf w 16 8) (fieldOf w 24 3) else .voq (fieldOf w 2 5) (fieldOf w 8 3)
      let m := meterOf (ix0 req) s
      ([], setTargetShaper t none
        (setMeter (ix0 req) { m with target := none, tc := m.cbs * byteUnits, tp := m.pbs * byteUnits } s))) ∧
  Completes false 3 .egressConfig (fun _ req _ => bitOf (wordAt req 0) 8 = true)
    (fun _ req s =>
      let c := fieldOf (wordAt req 0) 0 3
      ([wordOf (egressClass c s).used, wordOf (min (2 ^ 32 - 1) (rxCredit c s))], s)) ∧
  Completes false 3 .egressConfig
    (fun src req s =>
      let mn := fieldOf (wordAt req 1) 0 20
      src = .pf0 ∧ bitOf (wordAt req 0) 8 = false ∧ mn ≤ fieldOf (wordAt req 2) 0 20 ∧
        (s.queues.egress.map (fun e => e.min)).sum - (egressClass (fieldOf (wordAt req 0) 0 3) s).min + mn ≤ 262144)
    (fun _ req s =>
      let c := fieldOf (wordAt req 0) 0 3
      let u := modEgress c (fun e => { e with min := fieldOf (wordAt req 1) 0 20, cap := fieldOf (wordAt req 2) 0 20 }) s
      ([wordOf (egressClass c u).used, wordOf (min (2 ^ 32 - 1) (rxCredit c u))], u)) ∧
  Completes false 9 .mcastCreate
    (fun src req s => src = .pf0 ∧ (mcastChan (fieldOf (wordAt req 0) 0 10) s).isSome = false ∧ hasIndex .mcastGroup s)
    (fun _ req s =>
      let i := newIndex .mcastGroup s
      let u := openChan .mcastGroup i (setMcast i ⟨fieldOf (wordAt req 0) 0 10, portMask (req.drop 1)⟩ s)
      ([handleOf 0x0B i u], u)) ∧
  Completes false 9 .mcastPorts (fun src req s => src = .pf0 ∧ valid0 .mcastGroup req s)
    (fun _ req s => ([], setMcast (ix0 req)
      { tabGet mcastChannelReset s.queues.mcasts (ix0 req) with ports := portMask (req.drop 1) } s)) ∧
  Completes false 1 .mcastDestroy (fun src req s => src = .pf0 ∧ valid0 .mcastGroup req s)
    (fun _ req s => ([], closeChan .mcastGroup (ix0 req) (setMcast (ix0 req) mcastChannelReset s))) ∧
  Completes false 2 .queueCounters
    (fun src req s => clearByPf0 0 16 src req s ∧ fieldOf (wordAt req 0) 0 2 = 0 ∧ fieldOf (wordAt req 0) 2 5 ≤ 30)
    (fun _ req s =>
      let d := fieldOf (wordAt req 0) 2 5
      let c := fieldOf (wordAt req 0) 8 3
      (counterWords 18 (voqOf d c s).counters,
        cleared (bitOf (wordAt req 0) 16) (modVoq d c (fun v => { v with counters := List.replicate 9 0 })) s)) ∧
  Completes false 2 .queueCounters
    (fun src req s => clearByPf0 0 16 src req s ∧ fieldOf (wordAt req 0) 0 2 = 1 ∧
      checkHandle .meter (wordAt req 1) s = .ok (fieldOf (wordAt req 1) 0 16))
    (fun _ req s =>
      let i := fieldOf (wordAt req 1) 0 16
      (counterWords 18 (meterOf i s).counters,
        cleared (bitOf (wordAt req 0) 16) (setMeter i { meterOf i s with counters := List.replicate 6 0 }) s)) ∧
  Completes false 2 .queueCounters
    (fun src req s => clearByPf0 0 16 src req s ∧ fieldOf (wordAt req 0) 0 2 = 2 ∧
      checkHandle .larderPool (wordAt req 1) s = .ok (fieldOf (wordAt req 1) 0 16))
    (fun _ req s =>
      let i := fieldOf (wordAt req 1) 0 16
      (counterWords 18 (poolOf i (countHeld i s)).counters,
        cleared (bitOf (wordAt req 0) 16) (modPool i (fun p => { p with counters := List.replicate 7 0 })) (countHeld i s))) ∧
  Completes false 2 .queueCounters (fun src req s => clearByPf0 0 16 src req s ∧ fieldOf (wordAt req 0) 0 2 = 3)
    (fun _ req s =>
      let c := fieldOf (wordAt req 0) 8 3
      let e := egressClass c s
      (counterWords 18 [e.admitted, e.drops, e.highest],
        cleared (bitOf (wordAt req 0) 16) (modEgress c (fun e => { e with admitted := 0, drops := 0, highest := e.used })) s))

/-- The Larder's commands: pools, and buffers that PF0 holds itself; words by R349, statuses by R350. Each clause names its conditions, the
response words and the whole effect; conditions that a clause does not meet are no part of it. Assumptions 21, 22 and 53 are the model's. -/
def Obligations.LarderCommandsComplete : Prop :=
  Completes false 2 .poolCreate
    (fun src req s =>
      let stack := fieldOf (wordAt req 0) 0 2
      let size := fieldOf (wordAt req 0) 4 3
      let count := fieldOf (wordAt req 1) 0 24
      src = .pf0 ∧ size ≤ 6 ∧ 1 ≤ count ∧ count ≤ 2097152 ∧ regionUsed stack s + count * (256 * 2 ^ size) ≤ 536870912 ∧
        (s.start.hbm.getD stack hbmStackReset).retired = false ∧ hasIndex .larderPool s)
    (fun _ req s =>
      let i := newIndex .larderPool s
      let u := openChan .larderPool i (modPool i (fun _ =>
        freshPool (fieldOf (wordAt req 1) 0 24) (fieldOf (wordAt req 0) 0 2) (256 * 2 ^ fieldOf (wordAt req 0) 4 3)) s)
      ([handleOf 0x0C i u], u)) ∧
  Completes false 1 .poolDestroy
    (fun src req s =>
      let p := poolOf (ix0 req) s
      src = .pf0 ∧ valid0 .larderPool req s ∧ 5 ≤ ix0 req ∧ (poolFree p = p.total ∨ p.lost = true))
    (fun _ req s => ([], closeChan .larderPool (ix0 req) (clear 0x0902 1926 (wordOf (ix0 req)) 0 (modPool (ix0 req) (fun _ => poolReset)
      (modQueues (fun q => { q with pf0Tokens := q.pf0Tokens.filter (fun t => tokenPool t != ix0 req) }) s))))) ∧
  Completes false 1 .poolStatus (fun _ req s => valid0 .larderPool req s)
    (fun _ req s =>
      let p := poolOf (ix0 req) s
      ([wordOf p.total, wordOf (poolFree p % 2 ^ 28), pack [(0, p.cache.length), (8, bitNat p.lost)]], s)) ∧
  Completes false 1 .bufAlloc
    (fun src req s => src = .pf0 ∧ valid0 .larderPool req s ∧ 5 ≤ ix0 req ∧ ∃ t, (larderAlloc (ix0 req) 0x006 s).1 = some t)
    (fun _ req s =>
      let r := larderAlloc (ix0 req) 0x006 s
      ([wordOf (r.1.getD 0)], modQueues (fun q => { q with pf0Tokens := q.pf0Tokens ++ [r.1.getD 0] }) r.2)) ∧
  Completes false 2 .bufFree
    (fun src req s =>
      let t := (wordAt req 1).toNat
      src = .pf0 ∧ valid0 .larderPool req s ∧ 5 ≤ ix0 req ∧ t ≠ 0 ∧ tokenPool t = ix0 req ∧ tokenIndex t ≠ 0 ∧
        tokenIndex t ≤ (poolOf (ix0 req) s).total ∧ t ∈ s.queues.pf0Tokens)
    (fun _ req s =>
      let t := (wordAt req 1).toNat
      ([], larderFree t 0x006 (modQueues (fun q => { q with pf0Tokens := q.pf0Tokens.erase t }) s)))

/-- The commands of line security, 0x0A01 to 0x0A0A: words by R390, statuses by R391. Each clause names its conditions, the response words
and the whole effect; conditions that a clause does not meet are no part of it. Assumptions 10, 17 and 31 to 33, 74, 99 and 100 are the
model's. -/
def Obligations.SecurityCommandsComplete : Prop :=
  Accepts false 1 .peerKeyCreate
    (fun src req s =>
      let peer := fieldOf (wordAt req 0) 0 5
      src = .pf0 ∧ peer ≤ 29 ∧ s.join.tn ≠ some peer ∧ s.join.tn.isSome = true ∧ hubKeyHeld s = true ∧ s.sec.entropy = .running ∧
        (assocWith peer s).isSome = false ∧ hasIndex .peerKey s)
    (fun src tag req s =>
      let i := newIndex .peerKey s
      sendOffer i 0 (startLong src tag (.peerKeyCreate i)
        (setAssoc i { associationReset with peer := fieldOf (wordAt req 0) 0 5 } (openChan .peerKey i s)))) ∧
  Completes false 1 .peerKeyDestroy (fun src req s => src = .pf0 ∧ valid0 .peerKey req s)
    (fun _ req s => ([], endAssoc (ix0 req) s)) ∧
  (∀ src tag req s i, CanRun false s → 1 ≤ req.length → assocOfHandle (wordAt req 0) s = .ok i →
    exec (.peerKeyStatus src tag req) s = .next (answered src tag .ok (peerKeyWords i s) s)) ∧
  (∀ src tag req s i, CanRun false s → 1 ≤ req.length → src = .pf0 → assocOfHandle (wordAt req 0) s = .ok i →
    (i = 64 → s.join.tn.isSome = true ∧ hubKeyHeld s = true) → (assocOf i s).phase = .idle →
    (standbyEpoch s.clock.slot (lineKey (assocKey i s) s)).isSome = false →
    exec (.keyRoll src tag req) s =
      .next (acknowledged src tag (sendOffer i 0 (startLong src tag (.keyRoll 0 i) s)))) ∧
  Completes false 1 .keyPolicy
    (fun src req s =>
      let w := wordAt req 0
      let limit := if fieldOf w 0 6 = 0 then s.sec.policyNext.limitLog2 else fieldOf w 0 6
      let roll := if fieldOf w 8 6 = 0 then s.sec.policyNext.rollLog2 else fieldOf w 8 6
      src = .pf0 ∧ 24 ≤ limit ∧ limit ≤ 40 ∧ 20 ≤ roll ∧ roll ≤ 34 ∧ roll < limit)
    (fun _ req s =>
      let w := wordAt req 0
      let p : KeyPolicy := ⟨if fieldOf w 0 6 = 0 then s.sec.policyNext.limitLog2 else fieldOf w 0 6,
        if fieldOf w 8 6 = 0 then s.sec.policyNext.rollLog2 else fieldOf w 8 6, bitOf w 16, bitOf w 17⟩
      ([], { s with sec := { s.sec with policy := policyFor s.clock.slot s, policyNext := p, policyAt := s.clock.slot + 1 } })) ∧
  Completes false 0 .seqStatus anyone
    (fun _ _ s =>
      let a := valueOrFree (nextSequence s) s
      let b := valueOrFree ((lastRecord a.2.sec.seq).map (fun r => r.1)) a.2
      (a.1 ++ b.1 ++ [pack [(0, bitNat b.2.sec.seq.disabled), (1, bitNat b.2.sec.seq.halted)]], b.2)) ∧
  Completes false 1 .identityRead anyone
    (fun _ req s =>
      ([lowWord s.serial, highWord s.serial, lowWord (s.serial / 2 ^ 64), highWord (s.serial / 2 ^ 64), wordOf (s.certLen % 65536)] ++
        (List.range 64).map (fun i =>
          wordOf (leNat ((List.range 4).map (fun j => certByte s (fieldOf (wordAt req 0) 0 16 + 4 * i + j))))), s)) ∧
  Completes false 0 .entropyStatus anyone
    (fun _ _ s => ([wordOf (entropyCode s.sec.entropy), wordOf s.sec.entropyFailures], s)) ∧
  Completes false 1 .gateStatus anyone
    (fun _ req s =>
      let n := fieldOf (wordAt req 0) 0 3
      ([gateOwnWord n s, wordOf (maskOf (fun i => (tabGet none s.sec.deferred (32 * n + i)).isSome) 32)], s)) ∧
  Completes false 1 .secCounters (clearByPf0 0 0)
    (fun _ req s => (s.sec.counters.map wordOf,
      cleared (bitOf (wordAt req 0) 0) (fun u => { u with sec := { u.sec with counters := List.replicate 12 0 } }) s))

/-- The time commands 0x0B01 to 0x0B08: words by R416, statuses by R417. Each clause names its conditions, the response words and the whole
effect; conditions that a clause does not meet are no part of it. Assumptions 20, 55 and 100 are the model's. -/
def Obligations.TimeCommandsComplete : Prop :=
  Completes false 4 .timeConfig (fun src req _ => src = .pf0 ∧ timeConfigOk (timeConfigOf req) = true)
    (fun _ req s => ([], modTime (fun t => { t with pendingCfg := some (timeConfigOf req) }) s)) ∧
  Completes false 1 .timeStatus (clearByPf0 0 0)
    (fun _ req s => (timeStatusWords s, cleared (bitOf (wordAt req 0) 0)
      (modTime (fun t => { t with steps := 0, switches := 0, holdovers := 0, ptmFails := 0 })) s)) ∧
  Completes false 0 .timeRead anyone (fun _ _ s => (timeWords s.clock.outTime, s)) ∧
  Completes false 3 .tsPortCreate
    (fun src req s =>
      let port := fieldOf (wordAt req 0) 0 8
      src = .pf0 ∧ (portOf port s).cfg.ptype ≠ 0 ∧ (portOf port s).cfg.circuit = false ∧ (tsChanOf port s).isSome = false ∧
        hasIndex .tsPort s)
    (fun _ req s =>
      let i := newIndex .tsPort s
      let ch : TsChannel := ⟨fieldOf (wordAt req 0) 0 8, (wordAt req 1).toInt, (wordAt req 2).toInt⟩
      let u := openChan .tsPort i (modTime (fun t => { t with tsPorts := tabSet tsChannelReset t.tsPorts i ch }) s)
      ([handleOf 0x0A i u], u)) ∧
  Completes false 1 .tsPortDestroy (fun src req s => src = .pf0 ∧ valid0 .tsPort req s)
    (fun _ req s => ([], endTsPort (ix0 req) s)) ∧
  Completes false 1 .ptmConfig (fun src req _ => src = .pf0 ∧ orDefault (fieldOf (wordAt req 0) 16 10) 10 ≤ 1000)
    (fun _ req s =>
      let on := bitOf (wordAt req 0) 0
      ([], modTime (fun t =>
        let p := if on && !t.ptm.enable then { t.ptm with valid := false, lastAt := none } else t.ptm
        { t with ptm := { p with
          enable := on, interval := orDefault (fieldOf (wordAt req 0) 16 10) 10, running := if on then p.running else none } }) s)) ∧
  Completes false 0 .ptmRead (fun _ _ s => s.time.ptm.valid = true)
    (fun _ _ s =>
      let p := s.time.ptm
      (ptmWords p.t1 ++ ptmWords p.t4 ++ [lowWord p.master, highWord p.master, wordOf p.prop, 1], s)) ∧
  Completes false 0 .ppsInRead (fun _ _ s => s.time.ppsEdge.isSome = true)
    (fun _ _ s => (timeWords (s.time.ppsEdge.getD 0) ++ [wordOfInt s.time.ppsOffset, wordOf s.time.ppsEdges], s))

/-- A queue pair command: PF0's, or PF1's for its own pair (R466). -/
def ownPair (src : Source) (req : List Word) (s : State) : Prop := src = .pf0 ∨ (src = .pf1 ∧ (pairOf (ix0 req) s).func = 1)

/-- The host queue commands 0x0C01 to 0x0C09: words by R470, statuses by R471. Each clause names its conditions, the response words and the
whole effect; conditions that a clause does not meet are no part of it. Assumption 54 is the model's. -/
def Obligations.HostQueueCommandsComplete : Prop :=
  Completes false 8 .qpCreate
    (fun src req s =>
      let q := pairOfRequest req
      src = .pf0 ∧ pairFits q = true ∧ (q.func = 1 → q.txLog2 = 0) ∧ pairHalted q s = false ∧ hasIndex .queuePair s)
    (fun _ req s =>
      let n := newIndex .queuePair s
      let u := openChan .queuePair n (modPair n (fun _ => pairOfRequest req) s)
      ([handleOf 0x05 n u], u)) ∧
  Completes false 1 .qpDestroy
    (fun src req s => src = .pf0 ∧ valid0 .queuePair req s ∧ (pairOf (ix0 req) s).running = false ∧ handleNamed (wordAt req 0) s = false)
    (fun _ req s => ([], closeChan .queuePair (ix0 req) (modPair (ix0 req) (fun _ => queuePairReset) (answerStop (ix0 req) s)))) ∧
  Completes false 1 .qpStart
    (fun src req s =>
      let q := pairOf (ix0 req) s
      ownPair src req s ∧ valid0 .queuePair req s ∧ (funcBox q.func s).en = true ∧ pairHalted q s = false ∧ q.running = false)
    (fun _ req s => ([], modPair (ix0 req) (fun q =>
      { q with
        running := true, txPi := 0, txCi := 0, rxPi := 0, rxCi := 0, cqPi := 0, cqCi := 0, held := [], uncovered := 0,
        haltCause := 0, haltIndex := 0 }) (answerStop (ix0 req) s))) ∧
  Completes false 1 .qpStop
    (fun src req s => ownPair src req s ∧ valid0 .queuePair req s ∧ (pairOf (ix0 req) s).running = true ∧
      (pairOf (ix0 req) (stopPair (ix0 req) (lands s))).held = [])
    (fun _ req s => ([], stopPair (ix0 req) (lands s))) ∧
  (∀ src tag req s, CanRun false s → 1 ≤ req.length → ownPair src req s → valid0 .queuePair req s →
    (pairOf (ix0 req) s).running = true → (pairOf (ix0 req) (stopPair (ix0 req) (lands s))).held ≠ [] →
    exec (.qpStop src tag req) s = .next (finishTask (commandTask src tag)
      (modPair (ix0 req) (fun q => { q with stopper := some (src, tag) }) (stopPair (ix0 req) (lands s))))) ∧
  Completes false 1 .qpStatus (fun _ req s => valid0 .queuePair req s)
    (fun _ req s =>
      let q := pairOf (ix0 req) s
      ([pack [(0, bitNat q.running), (2, bitNat (!q.held.isEmpty)), (3, bitNat (pairHalted q s)), (4, q.haltCause), (16, q.haltIndex)],
        pack [(0, q.txCi), (16, q.rxCi)], pack [(0, q.cqPi)]], s)) ∧
  Completes false 2 .qpSched
    (fun src req s => src = .pf0 ∧ valid0 .queuePair req s ∧ schedOk (fieldOf (wordAt req 1) 0 5) (fieldOf (wordAt req 1) 8 7) = true)
    (fun _ req s =>
      let w := fieldOf (wordAt req 1) 0 5
      let b := fieldOf (wordAt req 1) 8 7
      ([], modPair (ix0 req) (fun q => { q with next := some (if w = 0 then 1 else w, if b = 0 then 16 else b) }) s)) ∧
  Completes false 2 .slowpathMap (fun src req s => src = .pf0 ∧ receiversCheck [wordAt req 1] s = none)
    (fun _ req s => ([], modHq (fun q => { q with map := tabSet 0 q.map (fieldOf (wordAt req 0) 0 3) (wordAt req 1) }) s)) ∧
  Completes false 17 .watchSet (fun src req s => src = .pf0 ∧ receiversCheck ((req.drop 1).take 16) s = none)
    (fun _ req s => ([], modHq (fun q =>
      { q with watch := tabSetList 0 q.watch (16 * fieldOf (wordAt req 0) 0 4) ((req.drop 1).take 16) }) s)) ∧
  Completes false 2 .qpCounters (fun src req s => clearByPf0 1 0 src req s ∧ wordAt req 0 = 0)
    (fun _ req s => (counterWords 16 s.hq.globals,
      cleared (bitOf (wordAt req 1) 0) (modHq (fun h => { h with globals := [0, 0, 0] })) s)) ∧
  Completes false 2 .qpCounters (fun src req s => clearByPf0 1 0 src req s ∧ wordAt req 0 ≠ 0 ∧ valid0 .queuePair req s)
    (fun _ req s => (counterWords 16 (pairOf (ix0 req) s).counters,
      cleared (bitOf (wordAt req 1) 0) (modPair (ix0 req) (fun q => { q with counters := List.replicate 8 0 })) s))

/-- The event commands 0x0D01 to 0x0D07: words by R488, statuses by R489. Each clause names its conditions, the response words and the whole
effect; conditions that a clause does not meet are no part of it. -/
def Obligations.EventCommandsComplete : Prop :=
  Completes false 6 .evtConfig (fun src req _ => src ≠ .sideband ∧ evtConfigOk req = true)
    (fun src req s => ([], modDest (destIndex src) (fun d =>
      let c := newDestConfig req d.cfg
      { d with cfg := c, buckets := c.rates.map (bucketFull s.clock.now) }) s)) ∧
  Completes false 6 .evtConfig (fun src req _ => src = .sideband ∧ evtConfigOk req = true ∧ fieldOf (wordAt req 0) 0 3 ≤ 1)
    (fun src req s => ([], modDest (destIndex src) (fun d =>
      { d with cfg := { d.cfg with minSev := fieldOf (wordAt req 0) 0 3 } }) s)) ∧
  Completes false 1 .alarmRead
    (fun _ req _ =>
      let count := fieldOf (wordAt req 0) 16 6
      1 ≤ count ∧ count ≤ 31 ∧ fieldOf (wordAt req 0) 0 11 + count ≤ 2048)
    (fun _ req s => ((List.range (fieldOf (wordAt req 0) 16 6)).flatMap (fun i =>
      alarmWords (alarmEntry (fieldOf (wordAt req 0) 0 11 + i) s)), s)) ∧
  Completes false 0 .alarmSummary anyone (fun _ _ s => (summaryWords s, s)) ∧
  Completes false 1 .evtCounters (fun src req s => clearByPf0 0 8 src req s ∧ fieldOf (wordAt req 0) 0 2 = 3)
    (fun _ req s => ([wordOf s.ev.cntEmitted, wordOf s.ev.cntUncoalesced, wordOf s.ev.cntBlackLost],
      cleared (bitOf (wordAt req 0) 8)
        (fun u => { u with ev := { u.ev with cntEmitted := 0, cntUncoalesced := 0, cntBlackLost := 0 } }) s)) ∧
  Completes false 1 .evtCounters (fun src req s => clearByPf0 0 8 src req s ∧ fieldOf (wordAt req 0) 0 2 ≠ 3)
    (fun _ req s =>
      let i := fieldOf (wordAt req 0) 0 2
      ((destOf i s).counters.flatMap classWords,
        cleared (bitOf (wordAt req 0) 8) (modDest i (fun d => { d with counters := List.replicate 5 classCountersReset })) s)) ∧
  Completes false 1 .blackboxRead (fun _ req _ => 1 ≤ fieldOf (wordAt req 0) 8 4 ∧ fieldOf (wordAt req 0) 8 4 ≤ 8)
    (fun _ req s => (wordOf s.ev.blackBox.length :: (List.range (fieldOf (wordAt req 0) 8 4)).flatMap (fun i =>
      blackBoxWords (fieldOf (wordAt req 0) 0 8 + i) s), s)) ∧
  Completes false 0 .blackboxClear (fun src _ _ => src = .pf0) (fun _ _ s => ([], { s with ev := { s.ev with blackBox := [] } })) ∧
  Completes false 2 .evtTest (fun src req _ => src = .pf0 ∧ fieldOf (wordAt req 0) 0 3 ≤ 4)
    (fun _ req s => ([], raise 0x0D06 1930 (sevOf (fieldOf (wordAt req 0) 0 3)) 0 (wordAt req 1) s))

/-- The sensing commands 0x0E01 to 0x0E0A, which the Stagehand executes without Zordin: words by R511, statuses by R512. Each clause names
its conditions, the response words and the whole effect; conditions that a clause does not meet are no part of it. Assumptions 56 to 59 are
the model's. -/
def Obligations.SensingCommandsComplete : Prop :=
  Completes true 9 .senseConfig
    (fun src req _ => src ≠ .pf1 ∧ ∀ i ∈ [2, 3, 4, 5], (fourFields req 0 6).getD i 0 ≠ 0)
    (fun _ req s =>
      let c : SenseConfig := ⟨fourFields req 0 6, fourFields req 4 8, bitOf (wordAt req 8) 0⟩
      ([], modIsland (fun x => { x with cfg := c }) s)) ∧
  Completes true 0 .senseLatest anyone
    (fun _ _ s => ((List.range 16).flatMap (fun i => sampleWords (inputOf i s).last) ++
      [pack [(0, maskOf (fun i => (inputOf i s).fault) 16), (16, maskOf (fun c => fallenBack (c + 1) s) 5)]], s)) ∧
  Completes true 4 .sensorCreate
    (fun src req s =>
      let w := wordAt req 0
      src ≠ .pf1 ∧ fieldOf w 16 8 ≠ 0 ∧ 0 ≤ signedOf 24 (wordAt req 3).toNat ∧ hasIndex .sensor s ∧
        (bitOf w 9 = true → bitOf w 10 = true → signedOf 24 (wordAt req 2).toNat ≤ signedOf 24 (wordAt req 1).toNat))
    (fun _ req s =>
      let w := wordAt req 0
      let n := newIndex .sensor s
      let u := modSensor n (fun _ => { sensorChannelReset with
        input := fieldOf w 0 4, all := bitOf w 8, highEn := bitOf w 9, lowEn := bitOf w 10, persist := fieldOf w 16 8,
        high := signedOf 24 (wordAt req 1).toNat, low := signedOf 24 (wordAt req 2).toNat, hyst := signedOf 24 (wordAt req 3).toNat })
        (openChan .sensor n s)
      ([handleOf 0x08 n u], u)) ∧
  Completes true 1 .sensorDestroy (fun src req s => src ≠ .pf1 ∧ valid0 .sensor req s)
    (fun _ req s =>
      let h := wordAt req 0
      let i := srcInput (sensorOf (ix0 req) s).input
      ([], closeChan .sensor (ix0 req) (modSensor (ix0 req) (fun _ => sensorChannelReset)
        (clear 0x0E05 i h 0 (clear 0x0E04 i h 0 s))))) ∧
  Completes true 2 .senseRead
    (fun src req s => src ≠ .pf1 ∧ valid0 .sensor req s ∧ 1 ≤ fieldOf (wordAt req 1) 0 5 ∧ fieldOf (wordAt req 1) 0 5 ≤ 16)
    (fun _ req s =>
      let c := sensorOf (ix0 req) s
      let out := c.fifo.take (fieldOf (wordAt req 1) 0 5)
      let left := c.fifo.drop (fieldOf (wordAt req 1) 0 5)
      (pack [(0, out.length), (8, left.length), (16, c.drops)] :: out.flatMap sampleWords,
        modSensor (ix0 req) (fun c => { c with fifo := left, drops := 0 }) (popCycle out.length c.fifo.length c.new s))) ∧
  Completes true 1 .coefWrite
    (fun src req s =>
      let w := wordAt req 0
      src ≠ .pf1 ∧ coefRangeOk (fieldOf w 0 1) (fieldOf w 16 12) (fieldOf w 8 7) = true ∧ 1 + fieldOf w 8 7 ≤ req.length ∧
        s.island.chain.swap = none)
    (fun _ req s =>
      let w := wordAt req 0
      let cs := (List.range (fieldOf w 8 7)).map (fun i => fieldOf (wordAt req (1 + i)) 0 20)
      ([], modChain (fun c => writeCoefs (!c.active) (coefPlace (fieldOf w 0 1) (fieldOf w 16 12)) cs c) s)) ∧
  Completes true 1 .coefRead
    (fun _ req _ => coefRangeOk (fieldOf (wordAt req 0) 0 1) (fieldOf (wordAt req 0) 16 12) (fieldOf (wordAt req 0) 8 7) = true)
    (fun _ req s =>
      let w := wordAt req 0
      ((List.range (fieldOf w 8 7)).map (fun i =>
        wordOf (coefCode (bitOf w 1) (coefPlace (fieldOf w 0 1) (fieldOf w 16 12 + i)) s.island.chain)), s)) ∧
  (∀ src tag req s, CanRun true s → src ≠ .pf1 → s.island.chain.swap = none →
    sumsOk (!s.island.chain.active) s.island.chain = true → chainOn s = true →
    exec (.coefSwap src tag req) s =
      .next (finishTask (commandTask src tag) (modChain (fun c => { c with swap := some (some (src, tag)) }) s))) ∧
  Completes true 1 .shStatus (fun src req _ => src ≠ .pf1 ∨ bitOf (wordAt req 0) 0 = false)
    (fun _ req s =>
      let i := s.island
      ([pmodeWord i,
          pack [(0, bitNat i.chain.active), (1, bitNat i.chain.island), (2, bitNat (conditionHeld 0x0E06 1991 0 s))],
          wordOf (periodPs i.chain)] ++ i.console.counters.map wordOf,
        cleared (bitOf (wordAt req 0) 0)
          (modIsland (fun x => { x with console := { x.console with counters := [0, 0, 0, 0, 0] } })) s)) ∧
  Completes true 1 .senseCounters (fun src req _ => src ≠ .pf1 ∨ bitOf (wordAt req 0) 8 = false)
    (fun _ req s =>
      let i := fieldOf (wordAt req 0) 0 4
      ((inputOf i s).counters.map wordOf,
        cleared (bitOf (wordAt req 0) 8) (modInput i (fun x => { x with counters := [0, 0, 0, 0, 0] })) s))

/-- The power commands 0x0F01 to 0x0F09: words by R537, statuses by R538. Each clause names its conditions, the response words and the whole
effect; conditions that a clause does not meet are no part of it. Assumptions 60 to 64 are the model's. -/
def Obligations.PowerCommandsComplete : Prop :=
  Accepts true 2 .powerState
    (fun src req s =>
      let w := wordAt req 0
      src ≠ .pf1 ∧ fieldOf w 0 3 ≤ 3 ∧ fieldOf w 4 3 ≤ 2 ∧ s.power.transition = none ∧ s.power.state = .run ∧
        fieldOf w 0 3 ≠ powerCode .run)
    (fun src tag req s =>
      let w := wordAt req 0
      beginTransition (fieldOf w 0 3) (startLong src tag .powerState
        (storeWake (fieldOf w 4 3) (bitOf w 8) (wordAt req 1).toNat s))) ∧
  Completes true 0 .powerStatus anyone
    (fun _ _ s =>
      let p := s.power
      let h := hottest p.junctions
      ([pack [(0, powerCode p.state), (3, bitNat p.transition.isSome), (4, p.cfg.wakeTarget), (7, bitNat p.cfg.autoRestart),
          (8, p.lastWake), (12, p.lastCause), (16, throttleLevel p), (18, bitNat s.pins.retained)],
        wordOfInt p.inlet, wordOfInt p.outlet, pack [(0, unsignedOf 16 h.1), (16, h.2)], wordOf (wakeLeft s)], s)) ∧
  Completes true 0 .padRelease (fun src _ s => src ≠ .pf1 ∧ s.pins.retained = true ∧ s.start.railsUp = true)
    (fun _ _ s => ([], { s with pins := { s.pins with retained := false } })) ∧
  Completes true 1 .gateRequest
    (fun src req s =>
      let g := fieldOf (wordAt req 0) 0 8
      let close := !bitOf (wordAt req 0) 8
      src ≠ .pf1 ∧ g ≤ 71 ∧ g ∉ s.sec.owned ∧ gateClosed g s ≠ close ∧ (close = true → closeAllowed g s = true))
    (fun _ req s => ([], carryGate false (!bitOf (wordAt req 0) 8) (fieldOf (wordAt req 0) 0 8) s)) ∧
  Completes false 1 .thermalStatus
    (fun _ req _ =>
      let count := fieldOf (wordAt req 0) 16 6
      1 ≤ count ∧ count ≤ 32 ∧ fieldOf (wordAt req 0) 0 10 + count ≤ 528)
    (fun _ req s => loopWords ((List.range (fieldOf (wordAt req 0) 16 6)).map (fieldOf (wordAt req 0) 0 10 + ·)) s) ∧
  Completes false 1 .thermalConfig
    (fun src req _ =>
      let h := fieldOf (wordAt req 0) 0 6
      src ≠ .pf1 ∧ (h = 0 ∨ (35 ≤ h ∧ h ≤ 45)))
    (fun _ req s =>
      let h := fieldOf (wordAt req 0) 0 6
      ([], watchCoolant (modPower (fun p => { p with cfg := { p.cfg with coolantHigh := if h = 0 then 45 else h } }) s))) ∧
  Completes true 1 .storeConfig
    (fun src req _ => src ≠ .pf1 ∧ 220 ≤ fieldOf (wordAt req 0) 0 10 ∧ fieldOf (wordAt req 0) 0 10 ≤ 1000)
    (fun _ req s =>
      let c := fieldOf (wordAt req 0) 0 10
      ([], modStore (fun g => { g with cLearn := c * 100000, measured := false })
        (modPower (fun p => { p with cfg := { p.cfg with cNom := c } }) s))) ∧
  Completes true 0 .storeStatus anyone
    (fun _ _ s =>
      let g := s.power.store
      let e := estimates s
      ([pack [(0, unsignedOf 16 (gaugeV g / 1000)), (16, unsignedOf 16 (gaugeC s / 10000))], wordOfInt g.current,
        energyWord e.1, energyWord e.2, energyWord (some (energyFull s)),
        pack [(0, storeCode g), (2, bitNat g.skew), (3, bitNat e.1.isNone), (4, bitNat (fallenBack 2 s)), (5, bitNat g.measured)]], s)) ∧
  Completes true 1 .powerCounters (fun src req _ => src ≠ .pf1 ∨ bitOf (wordAt req 0) 0 = false)
    (fun _ req s =>
      ((countThrottle s).power.counters.map wordOf,
        cleared (bitOf (wordAt req 0) 0) (modPower (fun p => { p with counters := List.replicate 12 0 })) (countThrottle s)))

/-- A command of 0x10xx that the Stagehand executes in every state, recovery and Curtain included, ends with OK (R548, R553). -/
def FirmwareCompletes (words : Nat) (c : MailCommand) (pre : Source → List Word → State → Prop)
    (post : List Word → State → List Word × State) : Prop :=
  ∀ src tag req s, words ≤ req.length → pre src req s →
    exec (c src tag req) s = .next (answered src tag .ok (post req s).1 (post req s).2)

/-- The commands of resets and firmware images, 0x1001 to 0x1007: words by R552, statuses by R553. Each clause names its conditions, the
response words and the whole effect; conditions that a clause does not meet are no part of it. Assumptions 12, 14, 65 and 66 are the
model's. -/
def Obligations.FirmwareCommandsComplete : Prop :=
  (∀ src tag req s, 1 ≤ req.length → src ≠ .pf1 → s.power.curtain = none →
    exec (.reset src tag req) s =
      .next (finishTask (commandTask src tag) (resetOfKind (fieldOf (wordAt req 0) 0 1) (respond src tag .ok [] s)))) ∧
  (∀ src tag req s, 1 ≤ req.length → src ≠ .pf1 → s.power.curtain ≠ none →
    exec (.reset src tag req) s =
      .next (finishTask (commandTask src tag)
        (modStart (fun u => { u with pendingReset := some (fieldOf (wordAt req 0) 0 1) }) (respond src tag .ok [] s)))) ∧
  FirmwareCompletes 0 .fwStatus anyone
    (fun _ s =>
      let u := s.start
      let r := bootRecord u
      ([pack [(0, u.image.getD 0), (1, r.preferred), (2, bitNat r.trial), (4, r.tries), (6, bitNat r.autoCommit),
          (7, bitNat u.recovery), (8, resetCauseCode u.lastReset)],
          wordOf (rollbackCounter s.sec), wordOf u.boots] ++ imageStatus u.imgA ++ imageStatus u.imgB ++
        [wordOf u.tZordin, wordOf u.tReg], s)) ∧
  FirmwareCompletes 1 .fwWrite
    (fun src req s =>
      let offset := fieldOf (wordAt req 0) 0 25
      let count := fieldOf (wordAt req 0) 25 7
      src ≠ .pf1 ∧ offset % 4 = 0 ∧ offset + 4 * count ≤ 25165824 ∧ 1 ≤ count ∧ count ≤ 120 ∧ 1 + count ≤ req.length ∧
        ((bootRecord s.start).trial = true → (bootRecord s.start).preferred ≠ inactiveImage s) ∧ s.start.verifying = false)
    (fun req s =>
      let data := (List.range (fieldOf (wordAt req 0) 25 7)).map (fun i => wordAt req (1 + i))
      ([], modStart (modImage (inactiveImage s) (fun x =>
        ⟨memWrite x.bytes (fieldOf (wordAt req 0) 0 25) (bytesOfWords data), false⟩)) s)) ∧
  (∀ src tag req s, src ≠ .pf1 →
    exec (.fwVerify src tag req) s = .next (acknowledged src tag
      (startLong src tag .fwVerify (modStart (fun u => { u with verifying := true }) s)))) ∧
  FirmwareCompletes 1 .fwActivate
    (fun src _ s => src ≠ .pf1 ∧ (imageOf (inactiveImage s) s).verified = true ∧ (bootRecord s.start).trial = false)
    (fun req s => ([], modStart (fun u => writeBoot
      { bootRecord u with preferred := inactiveImage s, trial := true, tries := 0, autoCommit := bitOf (wordAt req 0) 0 } u) s)) ∧
  FirmwareCompletes 0 .fwCommit
    (fun src _ s => src ≠ .pf1 ∧ (bootRecord s.start).trial = true ∧ s.start.image = some (bootRecord s.start).preferred)
    (fun _ s => ([], endTrial s)) ∧
  FirmwareCompletes 1 .arbRaise
    (fun src req s =>
      let other := imageOf (inactiveImage s) s
      let v := match s.start.image with
        | some i => imageSecurity (imageOf i s)
        | none => 0
      src ≠ .pf1 ∧ (bootRecord s.start).trial = false ∧
        (imageMagicOk other = true → imageSecurity other < v → bitOf (wordAt req 0) 0 = true))
    (fun _ s =>
      let v := match s.start.image with
        | some i => imageSecurity (imageOf i s)
        | none => 0
      let u := { s with sec := raiseRollback v s.sec }
      ([wordOf (rollbackCounter u.sec)], u))

/-! ### The shared checks -/

namespace Sys2Proof.Machine

/-- Commands 0x01xx to 0x08xx that need Zordin, each with the request words that it defines; the two whose number of words depends on the
request stand apart. -/
def zordinCommandsLow : List (MailCommand × Nat) :=
  [(.handleInfo, 1), (.handleList, 2), (.schedStatus, 1), (.funcStatus, 1), (.joinConfig, 2), (.joinStart, 0), (.joinStatus, 0),
    (.asymSet, 2), (.planeHold, 1), (.joinLeave, 0), (.ownershipStatus, 0), (.joinCounters, 1), (.grantView, 3),
    (.standingRead, 1), (.reportConfig, 1), (.grantCounters, 1), (.txStatus, 1), (.txService, 1), (.txCounters, 1),
    (.tuneTableRead, 1), (.txConfig, 1), (.trimReset, 1), (.rxLaneStatus, 1), (.rxCounters, 1), (.rxSenderStats, 1),
    (.rxMembership, 1), (.rxLedgerTap, 3), (.rxCueCounters, 1), (.groupCreate, 4), (.groupDestroy, 1), (.groupStatus, 2),
    (.groupResize, 2), (.pairCreate, 3), (.pairDestroy, 1), (.protectRequest, 2), (.groupCounters, 2), (.lanePlacementRead, 0),
    (.tribGroupCreate, 3), (.tribCreate, 1), (.tribDestroy, 1), (.wingsWrite, 3), (.pageRead, 1), (.wingsCopy, 0),
    (.pageSwap, 3), (.portConfig, 2), (.portStatus, 1), (.portCounters, 1), (.graphCreate, 0), (.nodeWrite, 34),
    (.rulesetCreate, 0), (.ruleWrite, 42), (.classifyActivate, 2), (.classifyDestroy, 1), (.fibInsert, 3), (.fibDelete, 2),
    (.fibRead, 2)]

/-- The other commands that need Zordin. -/
def zordinCommandsHigh : List (MailCommand × Nat) :=
  [(.slowPathConfig, 2), (.classifyCounters, 1), (.flowBindCreate, 2), (.flowBindDestroy, 1), (.flowBindStatus, 2),
    (.voqConfig, 2), (.voqStatus, 1), (.meterCreate, 5), (.meterDestroy, 1), (.shaperAttach, 2), (.egressConfig, 3),
    (.mcastCreate, 9), (.mcastPorts, 9), (.mcastDestroy, 1), (.poolCreate, 2), (.poolDestroy, 1), (.poolStatus, 1),
    (.bufAlloc, 1), (.bufFree, 2), (.queueCounters, 2), (.peerKeyCreate, 1), (.peerKeyDestroy, 1), (.peerKeyStatus, 1),
    (.keyRoll, 1), (.keyPolicy, 1), (.seqStatus, 0), (.identityRead, 1), (.entropyStatus, 0), (.gateStatus, 1),
    (.secCounters, 1), (.timeConfig, 4), (.timeStatus, 1), (.timeRead, 0), (.tsPortCreate, 3), (.tsPortDestroy, 1),
    (.ptmConfig, 1), (.ptmRead, 0), (.ppsInRead, 0), (.qpCreate, 8), (.qpDestroy, 1), (.qpStart, 1), (.qpStop, 1),
    (.qpStatus, 1), (.qpSched, 2), (.slowpathMap, 2), (.watchSet, 17), (.qpCounters, 2), (.evtConfig, 6), (.alarmRead, 1),
    (.alarmSummary, 0), (.evtCounters, 1), (.blackboxRead, 1), (.blackboxClear, 0), (.evtTest, 2), (.thermalStatus, 1),
    (.thermalConfig, 1)]

/-- Commands that the Stagehand executes without Zordin (R445), but for 0x10xx. -/
def stagehandCommands : List (MailCommand × Nat) :=
  [(.identity, 0), (.echo, 0), (.senseConfig, 9), (.senseLatest, 0), (.sensorCreate, 4), (.sensorDestroy, 1), (.senseRead, 2),
    (.coefWrite, 1), (.coefRead, 1), (.coefSwap, 0), (.shStatus, 1), (.senseCounters, 1), (.powerState, 2), (.powerStatus, 0),
    (.padRelease, 0), (.gateRequest, 1), (.storeConfig, 1), (.storeStatus, 0), (.powerCounters, 1)]

/-- Commands that only PF0 may issue. -/
def pf0Commands : List (MailCommand × Nat) :=
  [(.joinConfig, 2), (.joinStart, 0), (.asymSet, 2), (.planeHold, 1), (.joinLeave, 0), (.reportConfig, 1), (.txService, 1),
    (.txConfig, 1), (.trimReset, 1), (.groupCreate, 4), (.groupDestroy, 1), (.groupResize, 2), (.pairCreate, 3),
    (.pairDestroy, 1), (.tribGroupCreate, 3), (.tribCreate, 1), (.tribDestroy, 1), (.wingsWrite, 3), (.wingsCopy, 0),
    (.pageSwap, 3), (.portConfig, 2), (.graphCreate, 0), (.nodeWrite, 34), (.rulesetCreate, 0), (.ruleWrite, 42),
    (.classifyActivate, 2), (.classifyDestroy, 1), (.fibInsert, 3), (.fibDelete, 2), (.slowPathConfig, 2), (.flowBindCreate, 2),
    (.flowBindDestroy, 1), (.voqConfig, 2), (.meterCreate, 5), (.meterDestroy, 1), (.shaperAttach, 2), (.mcastCreate, 9),
    (.mcastPorts, 9), (.mcastDestroy, 1), (.poolCreate, 2), (.poolDestroy, 1), (.bufAlloc, 1), (.bufFree, 2),
    (.peerKeyCreate, 1), (.peerKeyDestroy, 1), (.keyRoll, 1), (.keyPolicy, 1), (.timeConfig, 4), (.tsPortCreate, 3),
    (.tsPortDestroy, 1), (.ptmConfig, 1), (.qpCreate, 8), (.qpDestroy, 1), (.qpSched, 2), (.slowpathMap, 2), (.watchSet, 17),
    (.blackboxClear, 0), (.evtTest, 2)]

/-- Commands that create or destroy a channel (R437). -/
def channelCommands : List (MailCommand × Nat) :=
  [(.groupCreate, 4), (.groupDestroy, 1), (.tribGroupCreate, 3), (.tribCreate, 1), (.tribDestroy, 1), (.graphCreate, 0),
    (.rulesetCreate, 0), (.classifyDestroy, 1), (.flowBindCreate, 2), (.flowBindDestroy, 1), (.meterCreate, 5),
    (.meterDestroy, 1), (.mcastCreate, 9), (.mcastDestroy, 1), (.poolCreate, 2), (.poolDestroy, 1), (.peerKeyCreate, 1),
    (.peerKeyDestroy, 1), (.tsPortCreate, 3), (.tsPortDestroy, 1), (.qpCreate, 8), (.qpDestroy, 1), (.sensorCreate, 4),
    (.sensorDestroy, 1)]

end Sys2Proof.Machine

/-- Of the shared checks the number of words comes first: a request shorter than its command defines ends with BAD_ARG whoever sends it, and
nothing else changes (R435, R436). -/
def Obligations.ShortRequestsEndWithBadArg : Prop :=
  ∀ e ∈ zordinCommandsLow ++ zordinCommandsHigh ++ stagehandCommands, ∀ src tag req s,
    s.power.state ≠ .curtain → req.length < e.2 → exec (e.1 src tag req) s = .next (answered src tag .badArg [] s)

/-- A command that is PF0's alone ends with DENIED from PF1 and from the sideband, and nothing else changes (R419, R445). -/
def Obligations.OthersAreDeniedWhatIsPf0s : Prop :=
  ∀ e ∈ pf0Commands, ∀ src tag req s,
    src ≠ .pf0 → s.power.state ≠ .curtain → e.2 ≤ req.length → exec (e.1 src tag req) s = .next (answered src tag .denied [] s)

/-- PF1 may not create or destroy any channel (R419): whatever its arguments, the command ends with DENIED, and nothing else changes. -/
def Obligations.Pf1CreatesAndDestroysNothing : Prop :=
  ∀ e ∈ channelCommands, ∀ tag req s,
    s.power.state ≠ .curtain → e.2 ≤ req.length → exec (e.1 .pf1 tag req) s = .next (answered .pf1 tag .denied [] s)

/-- While Zordin is not running a command that needs it ends with NOT_READY, and in recovery so does every command but those of 0x10xx
(R445, R548). -/
def Obligations.CommandsEndWithNotReady : Prop :=
  (∀ e ∈ zordinCommandsLow ++ zordinCommandsHigh, ∀ tag req s,
    s.start.running = false → s.power.state ≠ .curtain → e.2 ≤ req.length →
    exec (e.1 .pf0 tag req) s = .next (answered .pf0 tag .notReady [] s)) ∧
  (∀ e ∈ zordinCommandsLow ++ zordinCommandsHigh ++ stagehandCommands, ∀ tag req s,
    s.start.recovery = true → s.power.state ≠ .curtain → e.2 ≤ req.length →
    exec (e.1 .pf0 tag req) s = .next (answered .pf0 tag .notReady [] s))

/-- During a Curtain Zordin executes no command and writes no response (R530): the state stays as it is. -/
def Obligations.CurtainSilencesZordin : Prop :=
  ∀ e ∈ zordinCommandsLow ++ zordinCommandsHigh, ∀ src tag req s,
    s.power.state = .curtain → exec (e.1 src tag req) s = .next s

/-! ### The queue, every command, and soundness -/

/-- With a command at the front of the queue, a step carries out that command on the state with the queue's rest. The queue is the model's
own way to hand commands in (assumption 1). -/
def Obligations.StepRunsFrontCommand : Prop :=
  ∀ c rest s, s.pending = c :: rest → step s = exec c { s with pending := rest }

/-- With no command waiting one core cycle passes and nothing else changes: the model's own choice (assumption 1). -/
def Obligations.IdleStepPassesOneCycle : Prop :=
  ∀ s, s.pending = [] → step s = .next (advance 1 s) ∧ { advance 1 s with clock := s.clock } = s ∧ (advance 1 s).clock.now = s.clock.now + 1

/-- Whatever the command and the state, the block goes on: no command ends in a fault or a refusal. -/
def Obligations.EveryCommandGoesOn : Prop :=
  ∀ i s, ∃ t, exec i s = .next t

/-- No command touches the queue, the serial number or the length of the identity certificate, and none turns time back. -/
def Obligations.CommandsKeepQueueAndTime : Prop :=
  ∀ i s t, exec i s = .next t → t.pending = s.pending ∧ t.serial = s.serial ∧ t.certLen = s.certLen ∧ s.clock.now ≤ t.clock.now

/-- The state after reset meets Sound, the invariant that StepKeepsSound keeps. Reset values that the spec does not give are those of
assumptions 35 and 36. -/
def Obligations.ResetIsSound : Prop := Sound State.reset

/-- Every step keeps soundness: host memory and the table of channel indices stay canonical, a terminal number stays at most 29 (R123),
sixteen plane machines and four Zordin cores stay, and every generation stays a number of 10 bits (R12). -/
def Obligations.StepKeepsSound : Prop :=
  ∀ s t, Sound s → step s = .next t → Sound t

/-! ### Handles and channels -/

namespace Sys2Proof.Machine

/-- Commands whose first request word is a handle of one type, with the request words that they define and whether they need Zordin. -/
def handleCommands : List (MailCommand × ChanType × Nat × Bool) :=
  [(.groupDestroy, .expressGroup, 1, false), (.groupStatus, .expressGroup, 2, false), (.groupResize, .expressGroup, 2, false),
    (.pairCreate, .expressGroup, 3, false), (.pairDestroy, .expressGroup, 1, false), (.protectRequest, .expressGroup, 2, false),
    (.groupCounters, .expressGroup, 2, false), (.tribDestroy, .tributary, 1, false), (.nodeWrite, .parseGraph, 34, false),
    (.ruleWrite, .ruleSet, 42, false), (.flowBindDestroy, .flowBinding, 1, false), (.flowBindStatus, .flowBinding, 2, false),
    (.meterDestroy, .meter, 1, false), (.mcastPorts, .mcastGroup, 9, false), (.mcastDestroy, .mcastGroup, 1, false),
    (.poolDestroy, .larderPool, 1, false), (.poolStatus, .larderPool, 1, false), (.bufAlloc, .larderPool, 1, false),
    (.bufFree, .larderPool, 2, false), (.peerKeyDestroy, .peerKey, 1, false), (.tsPortDestroy, .tsPort, 1, false),
    (.qpDestroy, .queuePair, 1, false), (.qpStart, .queuePair, 1, false), (.qpStop, .queuePair, 1, false),
    (.qpStatus, .queuePair, 1, false), (.sensorDestroy, .sensor, 1, true), (.senseRead, .sensor, 2, true)]

/-- A channel index is in use or quarantined. -/
def taken (t : ChanType) (ix : Nat) (s : State) : Prop :=
  (chanSlot (chanCode t) ix s).live = true ∨ (chanSlot (chanCode t) ix s).quarantined = true

end Sys2Proof.Machine

/-- The null handle names no channel of any type, and no live channel carries it (R13). -/
def Obligations.NullHandleNamesNoChannel : Prop :=
  (∀ t s, checkHandle t 0 s = .error .badArg) ∧
  (∀ t ix s, soundChans s.chans → ix < chanRange (chanCode t) → (chanSlot (chanCode t) ix s).live = true → liveHandle (chanCode t) ix s ≠ 0)

/-- A command whose first request word is a handle, and is of a reserved or wrong type, or of an index outside its range, ends with BAD_ARG;
one whose index is in range but holds no live channel, or one of another generation, ends with STALE_HANDLE; and nothing else changes (R14,
for the commands listed). -/
def Obligations.BadHandlesAreTurnedAway : Prop :=
  ∀ e ∈ handleCommands, ∀ tag req s, CanRun e.2.2.2 s → e.2.2.1 ≤ req.length →
    (fieldOf (wordAt req 0) 26 6 ≠ chanCode e.2.1 → exec (e.1 .pf0 tag req) s = .next (answered .pf0 tag .badArg [] s)) ∧
    (fieldOf (wordAt req 0) 26 6 = chanCode e.2.1 → chanRange (chanCode e.2.1) ≤ ix0 req →
      exec (e.1 .pf0 tag req) s = .next (answered .pf0 tag .badArg [] s)) ∧
    (fieldOf (wordAt req 0) 26 6 = chanCode e.2.1 → ix0 req < chanRange (chanCode e.2.1) →
      (chanSlot (chanCode e.2.1) (ix0 req) s).live = false ∨
        (chanSlot (chanCode e.2.1) (ix0 req) s).gen ≠ fieldOf (wordAt req 0) 16 10 →
      exec (e.1 .pf0 tag req) s = .next (answered .pf0 tag .staleHandle [] s))

/-- Each channel type has its index range, and a create takes the lowest index of its type that is neither live nor quarantined, and none
where every index is taken (R437, R15). -/
def Obligations.NewChannelsTakeTheLowestFreeIndex : Prop :=
  ([.expressGroup, .tributary, .flowBinding, .meter, .queuePair, .parseGraph, .ruleSet, .sensor, .peerKey, .tsPort, .mcastGroup,
      .larderPool].map (fun t => (chanCode t, chanRange (chanCode t))) =
    [(0x01, 256), (0x02, 2048), (0x03, 4096), (0x04, 8192), (0x05, 256), (0x06, 4), (0x07, 4), (0x08, 64), (0x09, 29), (0x0A, 256),
      (0x0B, 1024), (0x0C, 16)]) ∧
  ∀ t s,
    (∀ i, nextIndex t s = some i → i < chanRange (chanCode t) ∧ ¬ taken t i s ∧ ∀ j, j < i → taken t j s) ∧
    (nextIndex t s = none → ∀ j, j < chanRange (chanCode t) → taken t j s)

/-- A destroy ends its handle: the generation steps by one modulo 1,024, the old handle is stale, a wrap quarantines the index for one
second of output time, and every other index stays as it was (R15, R439, R440). In every sound state. -/
def Obligations.DestroyEndsItsHandle : Prop :=
  ∀ t h s i, soundChans s.chans → checkHandle t h s = .ok i →
    let u := closeChan t i s
    let c := chanSlot (chanCode t) i u
    checkHandle t h u = .error .staleHandle ∧ c.live = false ∧ c.gen = ((chanSlot (chanCode t) i s).gen + 1) % 1024 ∧
    (c.quarantined = true ↔ (chanSlot (chanCode t) i s).gen = 1023) ∧ c.quarEnd = s.clock.outTime + 10 ^ 9 * 2 ^ 48 ∧
    ∀ ty j, chanKey ty j ≠ chanKey (chanCode t) i → chanSlot ty j u = chanSlot ty j s

/-! ### Mailboxes -/

namespace Sys2Proof.Machine

/-- For every state an event answers the state that `post` gives. -/
def Does (i : Instr) (post : State → State) : Prop := ∀ s, exec i s = .next (post s)

/-- Where `pre` holds an event answers the state that `post` gives. -/
def DoesWhen (i : Instr) (pre : State → Prop) (post : State → State) : Prop := ∀ s, pre s → exec i s = .next (post s)

/-- A function's rings can give a command: on, not halted, no response held, a slot filled, no Curtain, and Zordin runs (R426, R429, R433,
R447, R530). -/
def canTake (f : Nat) (s : State) : Prop :=
  (funcBox f s).en = true ∧ (funcBox f s).halted = false ∧ (funcBox f s).heldRsp = [] ∧
  (funcBox f s).cmdCi ≠ (funcBox f s).cmdPi ∧ s.power.state ≠ .curtain ∧ s.start.running = true

/-- The slots that a function's command ring holds. -/
def filledSlots (b : FuncBox) : Nat := (b.cmdPi + 64 - b.cmdCi) % 64

/-- A tag is outstanding. -/
def isOutstanding (tag : Nat) (os : List Outstanding) : Bool := os.any (fun o => o.tag == tag)

/-- A function's mailbox after a slot with this header has been taken (R424, R426, R452). -/
def takenBox (h : Word) (b : FuncBox) : FuncBox :=
  { b with
    cmdCi := (b.cmdCi + 1) % 64, cntTaken := satAdd 32 b.cntTaken 1,
    outstanding := if isOutstanding (fieldOf h 16 5) b.outstanding then b.outstanding
      else b.outstanding ++ [⟨fieldOf h 16 5, fieldOf h 0 16⟩] }

/-- The state in which a slot with header `h` has been taken; a slot that was filled in this very cycle is taken in the next one (R19,
R426). -/
def afterTake (f : Nat) (h : Word) (s : State) : State :=
  setFunc f (takenBox h (funcBox f s)) (popCycle 1 (filledSlots (funcBox f s)) (funcBox f s).cmdNew s)

/-- The sideband after its oldest request has been taken (R443). -/
def takenSideband (b : SidebandBox) : SidebandBox :=
  let h := wordAt (b.requests.headD []) 0
  { b with
    requests := b.requests.tail, cntTaken := satAdd 32 b.cntTaken 1,
    outstanding := if isOutstanding (fieldOf h 16 5) b.outstanding then b.outstanding
      else b.outstanding ++ [⟨fieldOf h 16 5, fieldOf h 0 16⟩] }

/-- The opcodes that the chapters define: 0x0101 to 0x0106 and so on up to 0x1001 to 0x1007 (R17). -/
def definedOpcodes : List (Nat × Nat) :=
  [(0x0101, 6), (0x0201, 8), (0x0301, 4), (0x0401, 6), (0x0501, 6), (0x0601, 9), (0x0701, 7), (0x0801, 19), (0x0901, 15), (0x0A01, 10),
    (0x0B01, 8), (0x0C01, 9), (0x0D01, 7), (0x0E01, 10), (0x0F01, 9), (0x1001, 7)]

/-- A chapter defines the opcode. -/
def isDefined (op : Nat) : Prop := ∃ r ∈ definedOpcodes, r.1 ≤ op ∧ op < r.1 + r.2

end Sys2Proof.Machine

/-- The mailbox registers (R424): EN from 0 to 1 sets every index to 0 and a second write changes nothing; a producer index claiming more
than 32 slots, and a consumer index outside the written entries, are ignored and set their bit. A quarantine ends once the output time has
reached its end (R15, R439). Each clause gives the conditions and the whole next state as the model has it. The read of a quarantine's end
as an advance of time is assumption 28, and assumptions 68, 71 and 105 are the model's. -/
def Obligations.MailboxRegistersComplete : Prop :=
  (∀ f, DoesWhen (.mboxEnable f) (fun s => (funcBox f s).en = false)
    (fun s => setFunc f { funcBox f s with
      en := true, cmdPi := 0, cmdCi := 0, rspPi := 0, rspCi := 0, ntfPi := 0, ntfCi := 0, cmdNew := none, rspNew := none, ntfNew := none } s)) ∧
  (∀ f, DoesWhen (.mboxEnable f) (fun s => (funcBox f s).en = true) id) ∧
  (∀ f v, DoesWhen (.mboxCmdPi f v) (fun s => (v.toNat % 64 + 64 - (funcBox f s).cmdCi) % 64 ≤ 32)
    (fun s => setFunc f { funcBox f s with
      cmdPi := v.toNat % 64,
      cmdNew := pushMark ((v.toNat % 64 + 64 - (funcBox f s).cmdPi) % 64) s.clock.now (funcBox f s).cmdNew } s)) ∧
  (∀ f v, DoesWhen (.mboxCmdPi f v) (fun s => 32 < (v.toNat % 64 + 64 - (funcBox f s).cmdCi) % 64)
    (fun s => setFunc f (markStat 1 s.clock.now { funcBox f s with piBad := true }) s)) ∧
  (∀ f v, DoesWhen (.mboxRspCi f v) (fun s => consumerValid 64 (v.toNat % 128) (funcBox f s).rspCi (funcBox f s).rspPi = true)
    (fun s => popCycle (ahead 64 (v.toNat % 128) (funcBox f s).rspCi) (ahead 64 (funcBox f s).rspPi (funcBox f s).rspCi) (funcBox f s).rspNew
      (setFunc f { funcBox f s with rspCi := v.toNat % 128 } s))) ∧
  (∀ f v, DoesWhen (.mboxRspCi f v) (fun s => consumerValid 64 (v.toNat % 128) (funcBox f s).rspCi (funcBox f s).rspPi = false)
    (fun s => setFunc f (markStat 3 s.clock.now { funcBox f s with ciBad := true }) s)) ∧
  (∀ f v, DoesWhen (.mboxNtfCi f v) (fun s => consumerValid 256 (v.toNat % 512) (funcBox f s).ntfCi (funcBox f s).ntfPi = true)
    (fun s => popCycle (ahead 256 (v.toNat % 512) (funcBox f s).ntfCi) (ahead 256 (funcBox f s).ntfPi (funcBox f s).ntfCi) (funcBox f s).ntfNew
      (setFunc f { funcBox f s with ntfCi := v.toNat % 512 } s))) ∧
  (∀ f v, DoesWhen (.mboxNtfCi f v) (fun s => consumerValid 256 (v.toNat % 512) (funcBox f s).ntfCi (funcBox f s).ntfPi = false)
    (fun s => setFunc f (markStat 3 s.clock.now { funcBox f s with ciBad := true }) s)) ∧
  (∀ f v, bitOf v 0 = true → ∀ s, exec (.registerWrite f 0 v) s = exec (.mboxEnable f) s) ∧
  (∀ f v, bitOf v 0 = false → ∀ s, exec (.registerWrite f 0 v) s = exec (.mboxDisable f) s) ∧
  (∀ f v s, exec (.registerWrite f 0x20 v) s = exec (.mboxCmdPi f v) s) ∧
  (∀ f v s, exec (.registerWrite f 0x2C v) s = exec (.mboxRspCi f v) s) ∧
  (∀ f v s, exec (.registerWrite f 0x34 v) s = exec (.mboxNtfCi f v) s) ∧
  (∀ f v, bitOf v 0 = true → ∀ s, exec (.registerWrite f 0x31000 v) s = exec (.timeCapture f) s) ∧
  (∀ v, bitOf v 0 = true → ∀ s, exec (.registerWrite 0 0x31028 v) s = exec .tsqOvfClear s) ∧
  (∀ f v, bitOf v 0 = false → Does (.registerWrite f 0x31000 v) id ∧ Does (.registerWrite f 0x31028 v) id) ∧
  (∀ v, Does (.registerWrite 1 0x31028 v) id) ∧
  (∀ f n v s, n < 256 → exec (.registerWrite f (0x40000 + 0x400 * n) v) s = exec (.hqTxPi f n v) s ∧
    exec (.registerWrite f (0x40004 + 0x400 * n) v) s = exec (.hqRxPi f n v) s ∧
    exec (.registerWrite f (0x40008 + 0x400 * n) v) s = exec (.hqCqCi f n v) s) ∧
  (∀ f o v, DoesWhen (.registerWrite f o v) (fun s => o % 4 = 0 ∧ 0x8 ≤ o ∧ o < 0x20 ∧ (funcBox f s).en = true) id) ∧
  (∀ f o v, DoesWhen (.registerWrite f o v) (fun s => o % 4 = 0 ∧ 0x8 ≤ o ∧ o < 0x20 ∧ (funcBox f s).en = false)
    (fun s =>
      let b := funcBox f s
      let w := if o % 8 = 0 then v.toNat / 4096 * 4096 else v.toNat
      let g := fun n => setHalf (o % 8 == 4) n w
      setFunc f (if o < 0x10 then { b with cmdBase := g b.cmdBase } else if o < 0x18 then { b with rspBase := g b.rspBase }
        else { b with ntfBase := g b.ntfBase }) s)) ∧
  (∀ f v, Does (.registerWrite f 0x38 v) (fun s =>
    let b := funcBox f s
    let keep := fun i => !bitOf v i || (inCycle s.clock.now b.setAt).testBit i
    setFunc f { b with
      dupTag := b.dupTag && keep 0, piBad := b.piBad && keep 1, rspHeld := b.rspHeld && keep 2, ciBad := b.ciBad && keep 3 } s)) ∧
  (∀ f o v, o % 4 = 0 → 0x10000 ≤ o → o < 0x11020 → Does (.registerWrite f o v) (writeVector f (o - 0x10000) v)) ∧
  (∀ f o v, (o % 4 ≠ 0 ∨ o = 0x4 ∨ o = 0x24 ∨ o = 0x28 ∨ o = 0x30 ∨ (0x3C ≤ o ∧ o < 0x10000) ∨ (0x11020 ≤ o ∧ o < 0x31000) ∨
      (0x31004 ≤ o ∧ o < 0x31028) ∨ (0x3102C ≤ o ∧ o < 0x40000) ∨ (0x40000 ≤ o ∧ o < 0x80000 ∧ 0xC ≤ o % 0x400) ∨ 0x80000 ≤ o) → Does (.registerWrite f o v) id) ∧
  (∀ ty ix, DoesWhen (.quarantineExpiry ty ix) (fun s => (chanSlot ty ix s).quarantined = true)
    (fun s => setChan ty ix { chanSlot ty ix s with quarantined := false, quarEnd := 0 }
      (advance (((chanSlot ty ix s).quarEnd - s.clock.outTime + timeIncrement s.clock.rate - 1) / timeIncrement s.clock.rate) s))) ∧
  (∀ ty ix, DoesWhen (.quarantineExpiry ty ix) (fun s => (chanSlot ty ix s).quarantined = false) id)

/-- MBOX_DISABLE (R434): the taking of commands stops at once; pending long commands of the function are gone and no response is
written; the response of a command that completes later is discarded. -/
def Obligations.DisablingAMailboxStopsIt : Prop :=
  ∀ f s, ∃ t, exec (.mboxDisable f) s = .next t ∧
    t = dropLongs (funcSource f) (setFunc f { funcBox f s with en := false, outstanding := [], heldRsp := [] } s) ∧
    t.hostMem = s.hostMem ∧ (∀ l ∈ t.zordin.longs, l.src ≠ funcSource f) ∧
    (f < 2 → ∀ slot, exec (.commandTake (funcSource f) slot) t = .next t) ∧
    (f < 2 → ∀ tag st ws, respond (funcSource f) tag st ws t = t)

/-- COMMAND_TAKE (R426, R447): a command with a defined opcode and a tag that is not outstanding becomes a task of its source's level and is
outstanding; a function that cannot give a command, and a sideband that has none or has four outstanding, gives none. That its row carries
out no command body is assumption 26, and what counts as one cycle is assumption 71. -/
def Obligations.TakingACommandCompletes : Prop :=
  (∀ f slot, f < 2 → DoesWhen (.commandTake (funcSource f) slot)
    (fun s => canTake f s ∧ isOutstanding (fieldOf (wordAt slot 0) 16 5) (funcBox f s).outstanding = false ∧
      opcodeDefined (fieldOf (wordAt slot 0) 0 16) = true)
    (fun s =>
      let u := createTask (commandLevel (funcSource f)) (commandTask (funcSource f) (fieldOf (wordAt slot 0) 16 5))
        (afterTake f (wordAt slot 0) s)
      modFunc f (fun b => { b with cntDup := satAdd 32 b.cntDup 0, cntBadOpcode := satAdd 32 b.cntBadOpcode 0 }) u)) ∧
  (∀ f slot, f < 2 → DoesWhen (.commandTake (funcSource f) slot) (fun s => ¬ canTake f s) id) ∧
  (∀ slot, DoesWhen (.commandTake .sideband slot)
    (fun s =>
      let h := wordAt (s.zordin.sb.requests.headD []) 0
      s.zordin.sb.requests ≠ [] ∧ s.zordin.sb.heldRsp = [] ∧ s.zordin.sb.outstanding.length < 4 ∧
      isOutstanding (fieldOf h 16 5) s.zordin.sb.outstanding = false ∧ opcodeDefined (fieldOf h 0 16) = true)
    (fun s =>
      let h := wordAt (s.zordin.sb.requests.headD []) 0
      modSb (fun b => { b with cntDup := satAdd 32 b.cntDup 0, cntBadOpcode := satAdd 32 b.cntBadOpcode 0 })
        (createTask 48 (commandTask .sideband (fieldOf h 16 5)) (modSb takenSideband s)))) ∧
  (∀ slot, DoesWhen (.commandTake .sideband slot)
    (fun s => s.zordin.sb.requests = [] ∨ s.zordin.sb.heldRsp ≠ [] ∨ 4 ≤ s.zordin.sb.outstanding.length) id)

/-- An opcode outside 0x0100 to 0x10FF, or one that no chapter defines, ends with BAD_OPCODE and has no side effect: nothing but the
mailboxes, host memory and the place of the next free value changes, and no task is created (R17). -/
def Obligations.UnknownOpcodesEndWithBadOpcode : Prop :=
  (∀ op, opcodeDefined op = true ↔ isDefined op) ∧
  (∀ f slot s, f < 2 → canTake f s → isOutstanding (fieldOf (wordAt slot 0) 16 5) (funcBox f s).outstanding = false →
    ¬ isDefined (fieldOf (wordAt slot 0) 0 16) →
    let u := respond (funcSource f) (fieldOf (wordAt slot 0) 16 5) .badOpcode [] (afterTake f (wordAt slot 0) s)
    let t := modFunc f (fun b => { b with cntDup := satAdd 32 b.cntDup 0, cntBadOpcode := satAdd 32 b.cntBadOpcode 1 }) u
    exec (.commandTake (funcSource f) slot) s = .next t ∧ t.zordin.sched = s.zordin.sched ∧ t.zordin.longs = s.zordin.longs ∧
      (inCycle s.clock.now (funcBox f s).cmdNew < filledSlots (funcBox f s) →
        { t with zordin := s.zordin, hostMem := s.hostMem, free := s.free } = s)) ∧
  (∀ slot s,
    let h := wordAt (s.zordin.sb.requests.headD []) 0
    s.zordin.sb.requests ≠ [] → s.zordin.sb.heldRsp = [] → s.zordin.sb.outstanding.length < 4 →
    isOutstanding (fieldOf h 16 5) s.zordin.sb.outstanding = false → ¬ isDefined (fieldOf h 0 16) →
    let u := respond .sideband (fieldOf h 16 5) .badOpcode [] (modSb takenSideband s)
    let t := modSb (fun b => { b with cntDup := satAdd 32 b.cntDup 0, cntBadOpcode := satAdd 32 b.cntBadOpcode 1 }) u
    exec (.commandTake .sideband slot) s = .next t ∧ t.zordin.sched = s.zordin.sched ∧ t.zordin.longs = s.zordin.longs ∧
      { t with zordin := s.zordin, hostMem := s.hostMem, free := s.free } = s)

/-- A command taken with a tag that is outstanding is not executed: one final response with dup = 1 and CONFLICT goes out, DUP_TAG is set,
no task is created, and the outstanding command stays outstanding (R428). -/
def Obligations.RepeatedTagsAreNotExecuted : Prop :=
  (∀ f slot s, f < 2 → canTake f s → isOutstanding (fieldOf (wordAt slot 0) 16 5) (funcBox f s).outstanding = true →
    let u := deliver (funcSource f) ⟨fieldOf (wordAt slot 0) 16 5, 0x09, true, true, []⟩
      (afterTake f (wordAt slot 0) s)
    let t := modFunc f (fun b => { markStat 0 u.clock.now b with
      dupTag := true, cntDup := satAdd 32 b.cntDup 1, cntBadOpcode := satAdd 32 b.cntBadOpcode 0 }) u
    exec (.commandTake (funcSource f) slot) s = .next t ∧ (funcBox f t).dupTag = true ∧
      (funcBox f t).outstanding = (funcBox f s).outstanding ∧ t.zordin.sched = s.zordin.sched ∧ t.zordin.longs = s.zordin.longs) ∧
  (∀ slot s,
    let h := wordAt (s.zordin.sb.requests.headD []) 0
    s.zordin.sb.requests ≠ [] → s.zordin.sb.heldRsp = [] → s.zordin.sb.outstanding.length < 4 →
    isOutstanding (fieldOf h 16 5) s.zordin.sb.outstanding = true →
    let u := deliver .sideband ⟨fieldOf h 16 5, 0x09, true, true, []⟩ (modSb takenSideband s)
    let t := modSb (fun b => { b with cntDup := satAdd 32 b.cntDup 1, cntBadOpcode := satAdd 32 b.cntBadOpcode 0 }) u
    exec (.commandTake .sideband slot) s = .next t ∧ t.zordin.sb.outstanding = s.zordin.sb.outstanding ∧
      t.zordin.sched = s.zordin.sched ∧ t.zordin.longs = s.zordin.longs)

/-- A final response of PF0 that finds a free slot lies in that slot, word 0 with its phase, number of words, final bit, tag and status,
then its words, and no other byte of host memory changes but the 4 bytes of the message of vector 0 (R425, R429, R481). -/
def Obligations.ResponsesLieInTheirSlots : Prop :=
  ∀ tag st ws s,
    let b := s.zordin.pf0
    let base := b.rspBase + 512 * (b.rspPi % 64)
    let t := answered .pf0 tag st ws s
    let x := tabGet vectorReset b.msix 0
    let msg := (x.addrLo.toNat + 2 ^ 32 * x.addrHi.toNat) % 2 ^ 64
    b.en = true → b.halted = false → b.heldRsp = [] → 0 < ringFree 64 b.rspPi b.rspCi → ws.length < 128 → base + 512 ≤ 2 ^ 64 →
    Memory.wf s.hostMem = true →
    t.zordin.pf0.rspPi = (b.rspPi + 1) % 128 ∧
    t.zordin.pf0.outstanding = b.outstanding.filter (fun o => o.tag != tag) ∧
    (∀ a, (a < base ∨ base + 4 * (ws.length + 1) ≤ a) → (a < msg ∨ msg + 4 ≤ a) → memRead t.hostMem a = memRead s.hostMem a) ∧
    (msg + 4 ≤ base ∨ base + 4 * (ws.length + 1) ≤ msg →
      ∀ k, k < 4 * (ws.length + 1) → memRead t.hostMem (base + k) =
        (bytesOfWords (pack [(31, ringPhase 64 b.rspPi), (24, ws.length), (23, 1), (22, 0), (16, tag % 32), (0, statusCode st)] :: ws)).getD k 0)

/-- While a function's rings are off or its engine is halted its responses are discarded and no byte of host memory changes (R433, R434);
one that finds no free slot is held and sets RSP_HELD, nothing is written, and the function takes no command until it has been written
(R429). -/
def Obligations.ResponsesAreDiscardedOrHeld : Prop :=
  (∀ f tag st ws s, f < 2 → (funcBox f s).en = false ∨ (funcBox f s).halted = true →
    (respond (funcSource f) tag st ws s).hostMem = s.hostMem ∧ { respond (funcSource f) tag st ws s with zordin := s.zordin } = s) ∧
  (∀ f tag st ws s slot, f < 2 → (funcBox f s).en = true → (funcBox f s).halted = false →
    ringFree 64 (funcBox f s).rspPi (funcBox f s).rspCi = 0 →
    let t := respond (funcSource f) tag st ws s
    t.hostMem = s.hostMem ∧ (funcBox f t).rspHeld = true ∧
    (funcBox f t).heldRsp = (funcBox f s).heldRsp ++ [⟨tag, statusCode st, true, false, ws⟩] ∧
    exec (.commandTake (funcSource f) slot) t = .next t ∧
    exec (.responseWrite (funcSource f)) t = .next t)
/-- The rings' held entries, the sideband and the delay list (R429, R431, R432, R441 to R444, R449): a held response or notice goes out once
a slot is free, an event record that finds the ring full counts as lost, fragments of a request join in order, the oldest response leaves
fragment by fragment, and the tasks whose delay is due join their ready queues in order. Each clause gives the conditions and the whole next
state as the model has it. The sideband's phase bit is assumption 4; assumptions 71 and 95 are the model's. -/
def Obligations.SidebandAndRingEventsComplete : Prop :=
  (∀ f r rs, f < 2 → DoesWhen (.responseWrite (funcSource f))
    (fun s => (funcBox f s).heldRsp = r :: rs ∧ (funcBox f s).halted = false ∧ (funcBox f s).en = true ∧
      ringFree 64 (funcBox f s).rspPi (funcBox f s).rspCi ≠ 0)
    (fun s => writeResponse f r (setFunc f { funcBox f s with heldRsp := rs } s))) ∧
  (∀ f, f < 2 → DoesWhen (.responseWrite (funcSource f)) (fun s => (funcBox f s).heldRsp = []) id) ∧
  (∀ r rs, DoesWhen (.responseWrite .sideband) (fun s => s.zordin.sb.heldRsp = r :: rs ∧ s.zordin.sb.responses.length < 8)
    (fun s => modSb (fun b => { b with
      heldRsp := rs, responses := b.responses ++ [(sidebandSlot r s).1], outstanding := settle r b.outstanding }) (sidebandSlot r s).2)) ∧
  (∀ f n ns, DoesWhen (.notificationWrite f)
    (fun s => (funcBox f s).en = true ∧ (funcBox f s).halted = false ∧ (funcBox f s).notices = n :: ns ∧
      ringFree 256 (funcBox f s).ntfPi (funcBox f s).ntfCi ≠ 0)
    (fun s => writeNotification f (fun p => noticeWords p s.pins.slotId n) (setFunc f { funcBox f s with notices := ns } s))) ∧
  (∀ f r rs, DoesWhen (.notificationWrite f)
    (fun s => (funcBox f s).en = true ∧ (funcBox f s).halted = false ∧ (funcBox f s).notices = [] ∧ (funcBox f s).events = r :: rs ∧
      ringFree 256 (funcBox f s).ntfPi (funcBox f s).ntfCi ≠ 0)
    (fun s => modClass f r.sev (fun k => { k with delivered := satAdd 32 k.delivered 1 })
      (writeNotification f (fun p => recordWords p s.pins.slotId r)
        (setFunc f { funcBox f s with events := rs } (popCycle 1 (rs.length + 1) (funcBox f s).evtNew s))))) ∧
  (∀ f r rs, DoesWhen (.notificationWrite f)
    (fun s => (funcBox f s).en = true ∧ (funcBox f s).halted = false ∧ (funcBox f s).notices = [] ∧ (funcBox f s).events = r :: rs ∧
      ringFree 256 (funcBox f s).ntfPi (funcBox f s).ntfCi = 0)
    (fun s => loseRecord f r.sev (setFunc f { funcBox f s with events := rs } (popCycle 1 (rs.length + 1) (funcBox f s).evtNew s)))) ∧
  (∀ h data, h.toNat % 4 = 0 → 1 ≤ data.length → data.length ≤ 128 → ∀ s,
    exec (.sbReq (some (writePec 0x20 (h :: data) s)) (h :: data)) s = .next (joinFragment 0 (h.getLsbD 7) data s)) ∧
  (∀ h data bs, h.toNat % 4 ≠ 0 → 1 ≤ data.length → data.length ≤ 128 → ∀ s, s.zordin.sb.partialReq = some (h.toNat % 4, bs) →
    exec (.sbReq (some (writePec 0x20 (h :: data) s)) (h :: data)) s =
      .next (joinFragment (h.toNat % 4) (h.getLsbD 7) (bs ++ data) s)) ∧
  (∀ pec bytes, DoesWhen (.sbReq pec bytes) (fun s => pec ≠ some (writePec 0x20 bytes s) ∨ bytes.length < 2 ∨ 129 < bytes.length)
    (modSb (fun b => { b with rejected := true }))) ∧
  (DoesWhen .sbRsp (fun s => s.zordin.sb.responses = []) (returnBytes 0x21 true [0xFF])) ∧
  (∀ r rs, DoesWhen .sbRsp (fun s => s.zordin.sb.responses = r :: rs ∧ r.length ≤ 128 * (s.zordin.sb.rspFragment + 1))
    (fun s =>
      let i := s.zordin.sb.rspFragment
      modSb (fun b => { b with responses := rs, rspFragment := 0 })
        (returnBytes 0x21 true (BitVec.ofNat 8 (128 + i) :: (r.drop (128 * i)).take 128) s))) ∧
  (∀ r rs, DoesWhen .sbRsp (fun s => s.zordin.sb.responses = r :: rs ∧ 128 * (s.zordin.sb.rspFragment + 1) < r.length)
    (fun s =>
      let i := s.zordin.sb.rspFragment
      modSb (fun b => { b with rspFragment := i + 1 }) (returnBytes 0x21 true (BitVec.ofNat 8 i :: (r.drop (128 * i)).take 128) s))) ∧
  (Does .sbStatus (fun s =>
    let b := s.zordin.sb
    modSb (fun b => { b with rejected := false }) (returnBytes 0x22 false [BitVec.ofNat 8
      (bitNat (b.responses ≠ []) + 2 * bitNat (b.ntfs ≠ []) + 4 * bitNat b.partialReq.isSome + 8 * bitNat s.start.running +
        16 * bitNat b.rejected)] s))) ∧
  (DoesWhen .sbNtf (fun s => s.zordin.sb.ntfs = []) (returnBytes 0x23 true [0xFF])) ∧
  (∀ e es, DoesWhen .sbNtf (fun s => s.zordin.sb.ntfs = e :: es)
    (fun s => modSb (fun b => { b with ntfs := es }) (returnBytes 0x23 true (bytesOfWords e) s))) ∧
  (∀ tick, Does (.delayListDue tick) (fun x =>
    let s := advanceTo (tick * (10 * usCc)) x
    wakeTasks ((s.zordin.sched.delayed.filter (fun d => d.1 ≤ tick)).map (fun d => d.2))
      { s with zordin := { s.zordin with sched := { s.zordin.sched with
        delayed := s.zordin.sched.delayed.filter (fun d => tick < d.1) } } }))

/-! ### Joining -/

namespace Sys2Proof.Machine

/-- A stage message of one of these modes, where `pre` holds of the state that has taken it, answers what `post` gives of that state. -/
def Obeys (modes : List Nat) (c : StageMsg → Instr) (pre : StageMsg → State → Prop) (post : StageMsg → State → State) : Prop :=
  ∀ m s, m.mode ∈ modes → pre m (takeMsg m s) → exec (c m) s = .next (post m (takeMsg m s))

/-- A message of another mode is only counted, in index 4 of its lane (R94, R103). -/
def WrongMode (modes : List Nat) (c : StageMsg → Instr) : Prop :=
  ∀ m s, m.mode ∉ modes → exec (c m) s = .next (countLane m.hub m.plane 4 1 (takeMsg m s))

/-- The state at an instant, and at the start of a slot, with the messages that have reached the machines by then handled (R131). -/
def atInstant (t : Nat) (s : State) : State := handleMessages (advanceTo t s).cue.inbox (advanceTo t s)
def atSlot (n : Nat) (s : State) : State := handleMessages (toSlot n s).cue.inbox (toSlot n s)

/-- A timer that runs out: its row passes the time up to the deadline `reach t`, where messages that have arrived come first; a timer that
they leave running fires with `post`, one that they stop or start afresh does not, and where none runs nothing changes (R131). -/
def FiresAt (reach : Nat → State → State) (c : Instr) (deadline : State → Option Nat) (post : State → State) : Prop :=
  (∀ t, DoesWhen c (fun s => deadline s = some t ∧ deadline (reach t s) = some t) (fun s => post (reach t s))) ∧
  (∀ t, DoesWhen c (fun s => deadline s = some t ∧ deadline (reach t s) ≠ some t) (reach t)) ∧
  DoesWhen c (fun s => deadline s = none) id

/-- A deadline before which nothing else comes: its row passes the time up to it. -/
def TimesOut (c : Instr) (deadline : State → Option Nat) (post : State → State) : Prop :=
  (∀ t, DoesWhen c (fun s => deadline s = some t) (fun s => post (advanceTo t s))) ∧ DoesWhen c (fun s => deadline s = none) id

/-- The same for a deadline that is an instant. -/
def Expires (c : Instr) (deadline : State → Option Nat) (post : State → State) : Prop := FiresAt atInstant c deadline post

end Sys2Proof.Machine

/-- The stage messages (R119 to R128, R133 to R139): what each one changes when its fields and the states that they name are in order, and
that a message of a wrong mode is only counted. Each clause gives the conditions and the whole next state as the model has it. Assumptions
30, 31, 75, 101 and 111 are the model's. -/
def Obligations.JoinMessagesComplete : Prop :=
  (Obeys [2] .discoveryOpen
    (fun m s => 2 ≤ bodyField m 8 8 ∧ bodyField m 8 8 ≤ 63 ∧ 0 < bodyField m 88 8 ∧ bodyField m 88 8 ≤ 74 ∧
      bodyField m 88 8 < bodyField m 72 16 ∧
      windowAcceptable m (bodyField m 0 4) (bodySlot m 16 64) (bodyField m 72 16) (bodyField m 88 8) s = true ∧ s.join.phase = .discWait)
    (fun m s => answerWindow m (bodyField m 0 4) (bodySlot m 16 64) (bodyField m 72 16) (bodyField m 88 8) s)) ∧
  (Obeys [3] .discoveryAck
    (fun m s => ownSerial m s = true ∧ ownsPlane m.hub (bodyField m 288 4) s = true ∧
      (∃ x y, s.join.discovery = some (x, bodyField m 288 4, y)) ∧ 2 ≤ bodyField m 296 8 ∧ bodyField m 296 8 ≤ 63 ∧
      s.clock.slot < bodySlot m 304 352 ∧ bodyField m 368 8 ≠ 0 ∧ s.join.phase = .discSent ∧ identitySegments s ≤ bodyField m 360 8)
    (fun m s => makeIdentity (bodyField m 128 128) m.sfn { s with
      join := { s.join with
        phase := .identity,
        answers := identityAnswers m (bodyField m 288 4) (bodyField m 296 8) (bodySlot m 304 352) (bodyField m 368 8)
          (bodyField m 256 26) (identitySegments s),
        tId := some (slotInstant (bodySlot m 304 352 + (identitySegments s - 1) * bodyField m 368 8) s + 100 * msCc) } })) ∧
  (Obeys [3] .tnAssign (fun m s => ownSerial m s = true ∧ bodyField m 128 5 ≤ 29 ∧ s.join.phase = .identity)
    (fun m s => storeTn (bodyField m 128 5) (bodyField m 144 16) s)) ∧
  (Obeys [3] .tnAssign (fun m s => ownSerial m s = true ∧ 29 < bodyField m 128 5) (fun m s => discardMsg m s)) ∧
  (Obeys [3] .reject (fun m s => ownSerial m s = true ∧ (s.join.phase = .discSent ∨ s.join.phase = .identity))
    (fun m s => enterRejected (if 1 ≤ bodyField m 128 8 ∧ bodyField m 128 8 ≤ 4 then bodyField m 128 8 else 4)
      (max 1 (bodyField m 136 16)) s)) ∧
  (Obeys [1] .rangeWindow
    (fun m s => ownsPlane m.hub (bodyField m 0 4) s = true ∧ maskBit s.join.planeMask (bodyField m 0 4) = true ∧
      2 ≤ bodyField m 8 8 ∧ bodyField m 8 8 ≤ 63 ∧ s.clock.slot < bodySlot m 16 64 ∧ 2 ≤ bodyField m 72 8 ∧
      (planeOf (bodyField m 0 4) s).phase = .waitWindow)
    (fun m s =>
      let p := bodyField m 0 4
      let first := bodySlot m 16 64
      let u := modPlane p (fun x =>
        { stopTimers x with phase := .ranging, rwinRun := 0, resultBy := some (first + bodyField m 72 8 - 1 + 512) }) s
      { u with join := { u.join with
        answers := u.join.answers ++ [⟨.ranging, p, bodyField m 8 8, first, first, 0, 0, 0, 0, 0, hubTn m.hub⟩] } })) ∧
  (Obeys [1] .rangeResult
    (fun m s => ownsPlane m.hub (bodyField m 0 4) s = true ∧ (planeOf (bodyField m 0 4) s).phase = .ranging ∧
      bodyField m 4 4 = 0 ∧ leadOk (bodyField m 8 26) (signedOf 26 (bodyField m 34 26)) = true)
    (fun m s =>
      modPlane (bodyField m 0 4) (fun x =>
        { stopTimers x with
          phase := .equalised, rt := planeRt (bodyField m 0 4) s, eqd := planeEqd (bodyField m 0 4) s,
          load := some (s.clock.slot + 1, bodyField m 8 26, signedOf 26 (bodyField m 34 26)), fails := 0, actSfn := none,
          tAct := some (s.clock.now + 50 * msCc) })
        (resetBaselines (bodyField m 0 4) s))) ∧
  (Obeys [1] .rangeResult
    (fun m s => ownsPlane m.hub (bodyField m 0 4) s = true ∧ (planeOf (bodyField m 0 4) s).phase = .ranging ∧ bodyField m 4 4 ≠ 0)
    (fun m s => rangingFailure (bodyField m 0 4) s)) ∧
  (Obeys [1] .activate (fun _ _ => True)
    (fun m s => forEach (fun p u =>
      if maskBit (bodyField m 0 16) p && (planeOf p u).phase == .equalised then
        modPlane p (fun x => { x with tAct := none, actSfn := some (effectiveSfn (bodyField m 16 48) s) }) u
      else u) (List.range 16) s)) ∧
  (Obeys [1] .fineCorrect
    (fun m s =>
      let x := planeOf (bodyField m 0 4) s
      let delta := signedOf 16 (bodyField m 16 16)
      ownsPlane m.hub (bodyField m 0 4) s = true ∧ x.phase = .active ∧ -512 ≤ delta ∧ delta ≤ 511 ∧
      leadOk (planeRt (bodyField m 0 4) s) (x.fine.foldl (fun a f => a + f.2.1) (planeEqd (bodyField m 0 4) s) + delta) = true)
    (fun m s =>
      modPlane (bodyField m 0 4) (fun x => { x with
        fine := x.fine ++ [(effectiveSfn (bodyField m 32 48) s, signedOf 16 (bodyField m 16 16),
          decide (bodyField m 32 48 ≤ sfnOf s.clock.slot))] }) s)) ∧
  (Obeys [1] .fineCorrect
    (fun m s => ownsPlane m.hub (bodyField m 0 4) s = true ∧ (planeOf (bodyField m 0 4) s).phase = .active ∧
      (signedOf 16 (bodyField m 16 16) < -512 ∨ 511 < signedOf 16 (bodyField m 16 16)))
    (fun m s => equalisationEvent (bodyField m 0 4) (countPlane (bodyField m 0 4) 2 s))) ∧
  (Obeys [1, 3] .deregister
    (fun m s => (m.mode = 1 ∨ ownSerial m s = true) ∧ (s.join.phase = .assigned ∨ s.join.phase = .registered))
    (fun _ s => enterCueAcq (forgetTn s))) ∧
  (Obeys [1, 3] .deregister (fun m s => (m.mode = 1 ∨ ownSerial m s = true) ∧ s.join.phase = .leaving)
    (fun _ s => endLongs (fun k => k == .joinLeave) .ok [] (enterOffline (forgetTn s)))) ∧
  WrongMode [2] .discoveryOpen ∧ WrongMode [3] .discoveryAck ∧ WrongMode [3] .tnAssign ∧ WrongMode [3] .reject ∧
  WrongMode [1] .rangeWindow ∧ WrongMode [1] .rangeResult ∧ WrongMode [1] .activate ∧ WrongMode [1] .fineCorrect ∧
  WrongMode [1, 3] .deregister

/-- The timers of joining (R116, R122, R124, R127 to R130), each at its deadline. Each clause gives the conditions and the whole next state
as the model has it. That the row of a deadline first passes the time up to it is assumption 28; T_RWIN and its repeats are assumption 9. -/
def Obligations.JoinTimersComplete : Prop :=
  Expires .tCue (fun s => s.join.tCue) (fun s =>
    let u := endJoinStart .timeout (raise 0x020D 1920 .major 0 0 s)
    { u with join := { u.join with tCue := some (u.clock.now + secCc) } }) ∧
  Expires .joinNoWindow (fun s => s.join.tNoWindow) (fun s =>
    let u := raise 0x020E 1920 .minor 0 0 s
    { u with join := { u.join with tNoWindow := some (u.clock.now + secCc) } }) ∧
  (FiresAt (fun n => atSlot (n + 1)) .discoveryTimeout
    (fun s => if s.join.phase = .discSent then s.join.discovery.map (fun d => d.2.2) else none)
    (fun u =>
      let v := { u with join := { u.join with delayRange := min (2 * u.join.delayRange) 256, round := min 255 (u.join.round + 1) } }
      enterDiscWait (if 8 ≤ u.join.round then raise 0x020F 1920 .minor 0 0 v else v))) ∧
  Expires .tId (fun s => s.join.tId) (fun s => retryDiscovery (raise 0x0210 1920 .minor 0 0 s)) ∧
  Expires .registrationLost (fun s => s.join.tNoPlane) (fun s => enterCueAcq (raise 0x0213 1920 .major 0 0 (forgetTn s))) ∧
  Expires .rejectHoldoff (fun s => s.join.tReject) retryDiscovery ∧
  Expires .tLeave (fun s => s.join.tLeave) (fun s => endLongs (fun k => k == .joinLeave) .ok [] (enterOffline (forgetTn s))) ∧
  (∀ p, Expires (.tRwin p) (fun s => (planeOf p s).tRwin) (fun s =>
    rangingEvent p (if 20 ≤ (planeOf p s).rwinRun + 1 then .major else .minor)
      (modPlane p (fun m => { m with rwinRun := (planeOf p s).rwinRun + 1, tRwin := some (s.clock.now + 50 * msCc) }) s))) ∧
  (∀ p, FiresAt (fun n => atSlot (n + 1)) (.rangingTimeout p) (fun s => (planeOf p s).resultBy) (rangingFailure p)) ∧
  (∀ p, Expires (.tAct p) (fun s => (planeOf p s).tAct) (fun s => restartRanging p (rangingEvent p .minor s))) ∧
  (∀ p, Expires (.tSkew p) (fun s => (planeOf p s).tSkew) (restartRanging p)) ∧
  (∀ p, Expires (.tSusp p) (fun s => (planeOf p s).tSusp)
    (fun s => watchPlanes (modPlane p planeDown (rangingEvent p .major s)))) ∧
  (∀ p n, DoesWhen (.planeActivation p)
    (fun s => (planeOf p s).phase = .equalised ∧ (planeOf p s).actSfn = some n ∧ insideWindow p (toSlot (128 * n) s) = true)
    (fun s => activatePlane p (toSlot (128 * n) s))) ∧
  (∀ p n, DoesWhen (.planeActivation p)
    (fun s => (planeOf p s).phase = .equalised ∧ (planeOf p s).actSfn = some n ∧ insideWindow p (toSlot (128 * n) s) = false)
    (fun s =>
      let u := toSlot (128 * n) s
      raise 0x020C (srcPlane p 6) .major 0 0
        (modPlane p (fun m => { stopTimers m with phase := .skewed, actSfn := none, tSkew := some (u.clock.now + secCc) }) u))) ∧
  (∀ p n d late, DoesWhen (.fineCorrectApply p)
    (fun s => (planeOf p s).fine = [(n, d, late)] ∧ -(2 ^ 25) ≤ planeEqd p (toSlot (128 * n) s) + d ∧
      planeEqd p (toSlot (128 * n) s) + d < 2 ^ 25)
    (fun s =>
      let v := toSlot (128 * n) s
      let u := modPlane p (fun m => { m with rt := planeRt p v, eqd := planeEqd p v + d, load := none, fine := [] }) v
      modPlane p (fun m => { m with counters := bump 3 (if late then 1 else 0) m.counters }) u)) ∧
  (∀ p, DoesWhen (.planeHoldApply p) (fun s => (planeOf p s).holdPending = true)
    (fun s =>
      let v := modPlane p (fun m => { stopTimers m with phase := .held, holdPending := false, actSfn := none })
        (toSlot (nextBoundary s) s)
      watchPlanes { v with join := { v.join with answers := v.join.answers.filter (fun a => a.plane != p) } }))
/-! ### Cue lanes, the root, the freeze and sending -/

/-- The evaluation point of the cue lanes, the freeze and the root (R83, R84, R96, R132, R151 to R155): at an evaluation point the framers,
the root, ownership, the commits, the stage messages, the references and the plane machines follow in this order; at a freeze point the
grants of a slot are frozen once. Each clause gives the conditions and the whole next state as the model has it. The order within the point
and the readings of assumptions 28, 43 to 46, 76 to 79 and 114 are the model's. -/
def Obligations.CueAndRootEventsComplete : Prop :=
  (∀ slot lanes, DoesWhen (.cueFrame slot 0 lanes) (fun s => s.start.railsUp = true)
    (fun s =>
      let at_ := toEvaluation slot 0 s
      let e := evalLanes lanes true (rootSlot lanes at_) cueLanes at_
      let owned := rootUpdate (forEach setOwnership (List.range 16) e.2)
      let committed := forEach (commitPlane slot e.1) (List.range 16) owned
      let referred := forEach setReference (List.range 16) committed
      let walked := walkFrames e.1 referred
      let watched := watchPlanes (cueAcqDone (forEach tryWaitWindow (List.range 16) walked))
      let noted := noteUnusable (sampleFrames slot s e.1 watched)
      if noted.rx.slot.getD 0 ≤ slot then recordFrames slot e.1 (openRxSlot slot noted) else noted)) ∧
  (∀ slot cycle lanes, cycle ≠ 0 → DoesWhen (.cueFrame slot cycle lanes) (fun s => s.start.railsUp = true)
    (fun s =>
      let at_ := toEvaluation slot cycle s
      let e := evalLanes lanes false (rootSlot lanes at_) cueLanes at_
      let owned := rootUpdate (forEach setOwnership (List.range 16) e.2)
      watchPlanes (cueAcqDone (forEach tryWaitWindow (List.range 16) owned)))) ∧
  (∀ slot cycle lanes, DoesWhen (.cueFrame slot cycle lanes) (fun s => s.start.railsUp = false) id) ∧
  (∀ slot, DoesWhen (.freeze slot) (fun s => s.start.railsUp = true ∧ s.grants.frozenTo ≠ some slot)
    (fun s =>
      let u := forEach (freezePlane slot) (List.range 16) (toSlot (slot - 128) s)
      let tns := tabSet 0 (tabKeep (fun k => u.clock.slot ≤ k + 2) u.grants.frozenTn) slot (u.join.tn.elim 0 (fun t => t + 1))
      let v := assignSequence slot { u with grants := { u.grants with frozenTo := some slot, frozenTn := tns } }
      let w := modRx (fun x => { x with
        reserved := tabSet [] (tabKeep (fun k => v.clock.slot ≤ k + 2) x.reserved) slot (reservedLanes slot v) }) v
      checkPlacement slot (forEach rollKey (w.sec.keys.map (fun e => e.1)) w))) ∧
  (∀ slot, DoesWhen (.freeze slot) (fun s => s.start.railsUp = false ∨ s.grants.frozenTo = some slot) id) ∧
  (DoesWhen .rootTransferDone (fun s => s.cue.root.phase = .transfer ∧ laneQualified s.cue.root.lane s = true)
    (fun s => cueAcqDone (modRoot (fun r => { r with phase := .locked }) s))) ∧
  (DoesWhen .rootTransferDone (fun s => s.cue.root.phase ≠ .transfer ∨ laneQualified s.cue.root.lane s = false) id) ∧
  (∀ present, DoesWhen (.rootHoldover present) (fun s => s.cue.root.phase = .holdover)
    (fun s =>
      let u := advanceTo (s.cue.root.holdSince + 10 * secCc) s
      hold 0x0102 1921 .major 0 0
        (modRoot (fun r => { r with steering := present }) { u with pins := { u.pins with syncRef := present } }))) ∧
  (∀ l t, DoesWhen .rootDisplace (fun s => rootLane s = some l ∧ ripeAt s = some t ∧ l.1 ≠ s.time.cfg.primary)
    (fun s => modRoot (fun r => { r with lane := bestLane (advanceTo t s) (ripeLanes (advanceTo t s)) }) (advanceTo t s))) ∧
  (∀ l t, DoesWhen .rootDisplace (fun s => rootLane s = some l ∧ ripeAt s = some t ∧ l.1 = s.time.cfg.primary) id)

/-- The transmit side (R157, R175 to R186, R188 to R191): a slot's selection opens and closes at its instants before launch, launch plans
one burst or darkness per transmitter and the answers that are due follow, and the transmitters' states follow their tables, pedestals, tile
cut-outs, recalibration and drift. Each clause gives the conditions and the whole next state as the model has it. Assumptions 28, 38 to 42,
80 to 85 and 107 are the model's. -/
def Obligations.TransmitEventsComplete : Prop :=
  (∀ slot p, Does (.selectionWindow slot p) (fun s =>
    let u := advanceTo (launchInstant p slot s - 896).toNat s
    (ownGrants p slot u).foldl (windowGrant (ownGrants p slot u) p slot) u)) ∧
  (∀ slot p, Does (.selectionClose slot p) (fun s =>
    forEach (closeSelection slot) (planeTxs p) (advanceTo (launchInstant p slot s - 448).toNat s))) ∧
  (∀ slot p, Does (.launch slot p) (fun s =>
    let at_ := advanceTo (launchTime p slot s).toNat s
    let dark := forEach (fun x u => txBoundary x (modTx x (fun t => { t with burst := none }) u)) (planeTxs p) at_
    let own := ownGrants p slot dark
    let planned := own.foldl (launchGrant own p slot) dark
    let passed := forEach (fun x u => if (txOf x u).burst.isNone then dropSelected x slot u else u) (planeTxs p) planned
    fixPlans p (slot + 1) ((dueAnswers p slot passed).foldl launchAnswer passed))) ∧
  (∀ x f g l v c, DoesWhen (.tuneSequence x f g l v c) (fun s => (txOf x (txBoundary x s)).phase = .off) (txBoundary x)) ∧
  (∀ x f g l v c, DoesWhen (.tuneSequence x f g l v c)
    (fun s => (txOf x (txBoundary x s)).phase ≠ .off ∧ (txOf x (darkCheck x g (endBurst x l (txBoundary x s)))).burst = none)
    (fun s =>
      let u := darkCheck x g (endBurst x l (txBoundary x s))
      guardRetune x 64 u.clock.now u)) ∧
  (∀ x f g l v c b, DoesWhen (.tuneSequence x f g l v c)
    (fun s => (txOf x (txBoundary x s)).phase ≠ .off ∧ (txOf x (darkCheck x g (endBurst x l (txBoundary x s)))).burst = some b)
    (fun s => tuneBurst x f v c b (darkCheck x g (endBurst x l (txBoundary x s))))) ∧
  (∀ x ok, DoesWhen (.tableLoad x ok) (fun s => (nextPhase x s).1 = .off)
    (modTx x (fun t => { t with pending := t.pending ++ [if ok then .loaded else .fail .table] }))) ∧
  (∀ x ok, DoesWhen (.tableLoad x ok) (fun s => (nextPhase x s).1 ≠ .off) id) ∧
  (∀ x, Does (.pedestalSettled x) (fun s => maybeReady x (modTx x (fun t => { t with settled := true }) s))) ∧
  (∀ x, Does (.pedestalUnsettled x) (fun s =>
    let u := modTx x (fun t => { t with settled := false }) s
    if (nextPhase x u).1 == .ready then modTx x (fun t => { t with pending := t.pending ++ [.unsettled] }) u else u)) ∧
  (Does .trimCheckpoint (fun s => { s with tx := { s.tx with
    txs := tabMap txReset (fun _ t => { t with checkpoint := t.trims, checkpointOld := t.checkpoint }) s.tx.txs } })) ∧
  (∀ x high t, DoesWhen (.tileLaserCut x high) (fun s => (txOf x s).cutAt = some t)
    (fun s =>
      let u := modTx x (fun t => { t with cutAt := none }) (advanceTo (t + 10 * usCc) s)
      if high then forEach (fun y u => cutTx y .tileCut u) (tileTxs (x / 64)) u else u)) ∧
  (∀ x high, DoesWhen (.tileLaserCut x high) (fun s => (txOf x s).cutAt = none) id) ∧
  (∀ sfn, Does (.recalibration sfn) (fun s =>
    let u := if s.tx.cfg.calEnable then forEach (recalibrate sfn) (s.tx.txs.map (fun e => e.1)) s else s
    { u with tx := { u.tx with
      txs := tabMap txReset (fun _ t => if t.trimReset then { t with trims := [], trimReset := false } else t) u.tx.txs
      cfg := { u.tx.cfg with calEnable := u.tx.calPending.getD u.tx.cfg.calEnable }, calPending := none } })) ∧
  (∀ p, DoesWhen (.driftSupervision p) (fun s => (driftRows p s).isEmpty = true) id) ∧
  (∀ p, ∀ s, (driftRows p s).isEmpty = false →
    let n := (driftOf p s).1.natAbs
    let d := (driftOf p s).2
    let held := holdIf (256 * d < n) 0x020B (srcPlane p 5) .minor 0 0 s
    let u := { held with tx := { held.tx with
      arrivals := tabMap arrivalReset (fun k c => if k / 64 == p then { c with sum := 0, count := 0 } else c) held.tx.arrivals
      driftHigh := if 256 * d < n then (held.tx.driftHigh.filter (· != p)) ++ [p] else held.tx.driftHigh.filter (· != p) } }
    exec (.driftSupervision p) s = .next
      (if 384 * d < n then forEach (fun x v =>
        if (nextPhase x v).1 == .ready then awaitChange x (.leave .drift) v else v) (planeTxs p) u
      else if 256 * d < n then u
      else forEach (fun x v => if nextPhase x v = (.out, .drift) then awaitChange x .ready v else v) (planeTxs p) u)) ∧
  (∀ i slot lanes, Does (.rateControl true i slot lanes) (fun s =>
    let c := tribOf i s
    let r := chooseBits slot (tribTnom c.ttype) 16 1 (circuitUp c.lane s) lanes c.landing
    forEach (refreshTrib slot i) (s.tx.txs.map (fun e => e.1))
      (modTrib i (fun c => { c with landing := r.1, chosen := keepChoice r.2 c.chosen }) s))) ∧
  (∀ i slot lanes, DoesWhen (.rateControl false i slot lanes) (fun s => (groupOf i s).cfg.trib = true) id) ∧
  (∀ i slot lanes, DoesWhen (.rateControl false i slot lanes) (fun s => (groupOf i s).cfg.trib = false) (fun s =>
    let g := groupOf i s
    let r := chooseBits slot (clientTnom g.cfg.ctype) 64 (clientLanes g.cfg.ctype) (circuitUp g.cfg.port s) lanes g.landing
    let u := modGroup i (fun g => { g with landing := r.1, chosen := keepChoice r.2 g.chosen }) s
    forEach (fun j v => if (groupOf j v).bridged then forEach (refreshGroup slot j) (s.tx.txs.map (fun e => e.1)) v else v)
      (fedGroups i u) u))
/-! ### Receiving and express circuits -/

/-- The receive side (R197 to R222): a slot's bursts settle its lanes, an accepted burst's decode is recorded, the tag check hands over the
frames in lane order with tails first, the records of the slot move to the bank and the drain, and the drain settles one lane. Each clause
gives the conditions and the whole next state as the model has it. Assumptions 28, 47, 86 to 89, 107 and 112 are the model's. -/
def Obligations.ReceiveEventsComplete : Prop :=
  (∀ slot lights, Does (.burstReceive slot lights) (fun s =>
    let u := openRxSlot slot (toCycle slot 94 (toSlot slot s))
    let v := settleLanes slot (filterAll slot (lights.map (readBurst burstThreshold slot)) u) u
    modRx (fun x => { x with launched := x.launched.filter (fun l => slot < l.1) }) (meetContexts slot v.rx.contexts v))) ∧
  (∀ lane, DoesWhen (.payloadDecode lane) (fun s => (recordOf lane s).verdict = 5 ∧ (recordOf lane s).info = none)
    (modRecord lane (fun r =>
      let ws := payloadWords r.bits
      let bad := (ws.filter (fun w => w.isNone)).length
      { r with
        rsCorr := ws.foldl (fun n w => n + w.elim 0 (fun x => x.2)) 0, uncorr := bad, failed := r.failed || bad != 0,
        info := some (payloadInfo ws), readable := 5140 * (ws.takeWhile (fun w => w.isSome)).length / 64 * 8 }))) ∧
  (∀ lane, DoesWhen (.payloadDecode lane) (fun s => (recordOf lane s).verdict ≠ 5 ∨ (recordOf lane s).info.isSome = true)
    (modRecord lane id)) ∧
  (∀ slot, DoesWhen .tagCheck (fun s => s.rx.slot = some slot)
    (fun s =>
      let u := toCycle slot 1813 s
      let r := backEnds slot ((u.rx.records.filter (fun e => e.2.verdict == 5)).map (fun e => e.1)) [] u
      deliverAll (r.1.filter (fun d => d.tail) ++ r.1.filter (fun d => !d.tail)) r.2)) ∧
  (DoesWhen .tagCheck (fun s => s.rx.slot = none) id) ∧
  (∀ slot, Does (.ledgerLanding slot) (fun s =>
    modRx (fun x => { x with
      landed := some slot, drained := x.records,
      bank := tabMap 0 (fun _ e => e) (x.records.map (fun e => (e.1, entryBits e.2))), slot := none, records := [] })
      (openRxSlot slot (toCycle slot 1816 (toSlot slot s))))) ∧
  (∀ lane slot, DoesWhen (.reconcilerEntry lane) (fun s => s.rx.landed = some slot)
    (fun s =>
      let at_ := toCycle slot (1816 + lane) s
      let r := tabGet rxRecordReset at_.rx.drained lane
      let u := modRxLane lane (fun x => { x with entry := tabGet 0 at_.rx.bank lane }) at_
      answerTaps slot lane
        (if lane % 64 < 2 ∨ r.verdict = 8 then u
        else ownFeeds lane r (entryEvents lane r (missingRuns lane r (qualityWindow lane r (countAttributed (lane / 64) r
          (countEntry lane r u)))))))) ∧
  (∀ lane, DoesWhen (.reconcilerEntry lane) (fun s => s.rx.landed = none) id)

namespace Sys2Proof.Machine

/-- A resize message of mode 0b01 that names group `i` and matches its resize, where `pre` holds, answers what `post` gives (R252, R253). -/
def ResizeObeys (c : StageMsg → Instr) (pre : Nat → State → Prop) (post : Nat → Nat → State → State) : Prop :=
  ∀ m s i sfn, m.mode = 1 →
    resizeBody m (takeMsg m s) = some (i, (groupOf i (takeMsg m s)).resize.remove, (groupOf i (takeMsg m s)).resize.member, sfn) →
    pre i (takeMsg m s) → exec (c m) s = .next (post i sfn (takeMsg m s))

end Sys2Proof.Machine

/-- The express circuits' events (R231 to R260, R274 to R276): the containers of a slot are evaluated in group order, blocks of 1,024
containers decide signal degrade, the selector's timers and the client AIS hold end at their deadlines, a resize follows its messages,
timers, switchover and end, and a page swap takes effect at its superframe. Each clause gives the conditions and the whole next state as the
model has it. Assumptions 28, 48 and 87 to 94 are the model's. -/
def Obligations.ExpressEventsComplete : Prop :=
  (∀ slot, Does (.containerEval slot) (fun s =>
    let u := toSlot (slot + 1) s
    let gs := (List.range 256).filter (fun i => u.express.arrivals.any (fun c => c.group == i && c.slot == slot))
    let v := evaluateTribs slot (forEach (evaluateGroup slot) gs (forEach (closeSilent slot) (liveGroups u) u))
    let ws := (List.range 256).filter (fun w => (pairAt w v).isSome && gs.any (fun i => pairOfGroup i v == some w))
    modExpress (fun e => { e with arrivals := e.arrivals.filter (fun c => slot < c.slot), evalSlot := some slot })
      (forEach groupOutput (ws ++ gs.filter (fun i => (pairOfGroup i v).isNone)) v))) ∧
  (∀ g m, DoesWhen (.sdBlockClose g m) (fun s => (streamOf (groupOf g s) m).blockCount < 1024) id) ∧
  (∀ g m, DoesWhen (.sdBlockClose g m) (fun s => 1024 ≤ (streamOf (groupOf g s) m).blockCount)
    (fun s =>
      let st := streamOf (groupOf g s) m
      let lim := (groupOf g s).cfg.sdLimit
      groupOutput g (updateCondition g (syncMember g m (modStream g m (fun x => { x with
        sd := lim ≤ st.blockErrors || (st.sd && lim / 4 < st.blockErrors), blockCount := 0, blockErrors := 0 }) s))))) ∧
  (∀ w p t, DoesWhen (.holdOffExpiry w) (fun s => pairAt w s = some p ∧ p.timer = some t ∧ p.phase = .hold)
    (fun s =>
      let u := setPair w (some { p with phase := .steady, timer := none, aim := none }) (advanceTo t s)
      pairOutput w (if (pairTarget w p u).1 = p.selected then u else switchPair w (pairTarget w p u).1 u))) ∧
  (∀ w p t, DoesWhen (.wtrExpiry w) (fun s => pairAt w s = some p ∧ p.timer = some t ∧ p.phase = .wtr)
    (fun s =>
      let u := setPair w (some { p with phase := .steady, timer := none, aim := none }) (advanceTo t s)
      pairOutput w (if (pairTarget w p u).1 = p.selected then u else switchPair w (pairTarget w p u).1 u))) ∧
  (∀ g t, DoesWhen (.afHoldExpiry g) (fun s => (groupOf g s).afUntil = some t)
    (fun s =>
      let u := modGroup g (fun x => { x with afUntil := none }) (advanceTo t s)
      match pairOfGroup g u with
      | some w => pairOutput w u
      | none => setClientAis g (outputAis g u) u)) ∧
  (ResizeObeys .resizePrepare (fun i s => (groupOf i s).resize.phase = .request ∨ (groupOf i s).resize.phase = .farRequest)
    (fun i sfn s => modResize i (fun r => { r with phase := .preparing, prepSfn := sfn, tPrep := none }) s)) ∧
  (ResizeObeys .resizeCommit (fun i s => (groupOf i s).resize.phase = .ready)
    (fun i sfn s => modResize i (fun r => { r with
      phase := .switched, tCommit := none, oldMap := none, commitSfn := some (if sfn ≤ nowSfn s then nowSfn s + 1 else sfn) }) s)) ∧
  (ResizeObeys .resizeCancel (fun i s => (groupOf i s).resize.phase = .preparing ∨ (groupOf i s).resize.phase = .ready)
    (fun i _ s => failResize i .aborted s)) ∧
  WrongMode [1] .resizePrepare ∧ WrongMode [1] .resizeCommit ∧ WrongMode [1] .resizeCancel ∧
  (∀ g, TimesOut (.tPrep g) (fun s => (groupOf g s).resize.tPrep) (failResize g .timeout)) ∧
  (∀ g, TimesOut (.tCommit g) (fun s => (groupOf g s).resize.tCommit) (failResize g .timeout)) ∧
  (∀ g, DoesWhen (.resizePrepared g)
    (fun s => (groupOf g s).resize.phase = .preparing ∧ resizeConditions (groupOf g s) s = true)
    (fun s => modResize g (fun r => { r with phase := .ready, tCommit := some (s.clock.now + 64 * superframeCc) }) s)) ∧
  (∀ g n, DoesWhen (.resizeSwitchover g)
    (fun s => (groupOf g s).resize.phase = .switched ∧ (groupOf g s).resize.commitSfn = some n ∧ (groupOf g s).resize.oldMap = none)
    (fun s =>
      modGroup g (fun x => { x with
        map := withBit x.map x.resize.member (!x.resize.remove), resize := { x.resize with oldMap := some x.map } })
        (toSlot (128 * n) s))) ∧
  (∀ g n, DoesWhen (.resizeDone g)
    (fun s => (groupOf g s).resize.phase = .switched ∧ (groupOf g s).resize.commitSfn = some n ∧
      (groupOf g s).resize.oldMap.isSome = true ∧ 128 * n < s.clock.slot ∧
      (groupOf g s).resize.farG = mapCount (groupOf g s).map ∧ (groupOf g s).resize.remove = false)
    (fun s =>
      let u := modGroup g (fun x => { x with resize := idleResize x.resize }) s
      raise 0x060C srcExpress .info (handleOf 0x01 g u) (pairHandle g u) (endResizeCommand g .ok u))) ∧
  (∀ g n, DoesWhen (.resizeDone g)
    (fun s => (groupOf g s).resize.phase = .switched ∧ (groupOf g s).resize.commitSfn = some n ∧
      (groupOf g s).resize.oldMap.isSome = true ∧ 128 * n < s.clock.slot ∧
      (groupOf g s).resize.farG = mapCount (groupOf g s).map ∧ (groupOf g s).resize.remove = true)
    (fun s =>
      let k := (groupOf g s).resize.member
      let gone := (streamOf (groupOf g s) k).held
      let u := modGroup g (fun x => { x with
        resize := idleResize x.resize, ending := withBit x.ending k true,
        leaving := withBit x.leaving k (streamOf (groupOf g s) k).started }) s
      let v := gone.foldl (fun u c => clear c.1 c.2 0 0 u) (modStream g k (fun x => { x with held := [] }) u)
      raise 0x060C srcExpress .info (handleOf 0x01 g v) (pairHandle g v) (endResizeCommand g .ok v))) ∧
  (∀ n, DoesWhen .pageSwapped (fun s => s.express.swap = some n)
    (fun s =>
      let at_ := toSlot (128 * n) s
      let u := modExpress (fun x => { x with
        stage := x.wings, wings := x.stage, swap := none, swapped := some (n, at_.clock.now), elasticNext := []
        elastic := x.wings.foldl (fun t e => tabSet none t e.1 (swappedStore x e.1)) [] }) at_
      raise 0x0702 srcTrib .info (lowWord n) (wordOf (n / 2 ^ 32 % 65536)) u)) ∧
  DoesWhen .pageSwapped (fun s => s.express.swap = none) id
/-! ### Ports, queues and the Larder -/

/-- The ports, the parsers and egress (R287 to R296, R303, R313 to R316): training, links and faults, a received frame that is counted and
queued or dropped with its counter, the parse of the oldest frame, and the start of a frame at egress. Each clause gives the conditions and
the whole next state as the model has it. Assumptions 25, 28 and 50 to 52, 97 and 104 are the model's. -/
def Obligations.PortEventsComplete : Prop :=
  (∀ p, TimesOut (.tTrain p) (fun s => (portOf p s).tTrain) (fun s =>
    let n := (portOf p s).trainFails + 1
    let u := modPort p (fun x => { x with trainFails := n, tTrain := some (s.clock.now + 3 * secCc) }) s
    if n % 3 = 0 then raise 0x0803 (srcLane p) .minor 0 0 u else u)) ∧
  (∀ p, DoesWhen (.trainingComplete p) (fun s => (portOf p s).phase = .training)
    (modPort p (fun x => { x with phase := .aligning, trainFails := 0, tTrain := none }))) ∧
  (∀ p, DoesWhen (.trainingComplete p) (fun s => (portOf p s).phase ≠ .training) id) ∧
  (∀ p, DoesWhen (.linkUp p) (fun s => (portOf p s).phase = .aligning ∧ s.pins.cref = true ∧ (portOf p s).los = 0)
    (fun s => raise 0x0801 (srcLane p) .info 0 0 (modPort p (fun x => { x with phase := .up }) s))) ∧
  (∀ p, DoesWhen (.linkUp p) (fun s => (portOf p s).phase ≠ .aligning ∨ s.pins.cref = false ∨ (portOf p s).los ≠ 0) id) ∧
  (∀ p, DoesWhen (.linkDown p) (fun s => (portOf p s).phase = .up) (linkLost p)) ∧
  (∀ p, DoesWhen (.linkDown p) (fun s => (portOf p s).phase ≠ .up) id) ∧
  (∀ p rf lf, DoesWhen (.remoteFault p rf lf) (fun s => (portOf p s).phase = .up)
    (fun s =>
      let u := holdIf rf 0x0804 (srcLane p) .minor 0 0 (modPort p (fun x => { x with rf := rf, lf := lf }) s)
      if rf || lf then flushPort p u else u)) ∧
  (∀ p rf lf, DoesWhen (.remoteFault p rf lf) (fun s => (portOf p s).phase ≠ .up) id) ∧
  (∀ l p, DoesWhen (.laneLos l true) (fun s => portOfLane l s = some p ∧ maskBit (portOf p s).los (l - p) = false)
    (fun s =>
      let u := hold 0x0805 (srcLane l) .minor 0 0 (modPort p (fun x => { x with los := (portOf p s).los + 2 ^ (l - p) }) s)
      if (portOf p u).phase == .up then linkLost p u else u)) ∧
  (∀ l p, DoesWhen (.laneLos l false) (fun s => portOfLane l s = some p ∧ maskBit (portOf p s).los (l - p) = true)
    (fun s => clear 0x0805 (srcLane l) 0 0 (modPort p (fun x => { x with los := (portOf p s).los - 2 ^ (l - p) }) s))) ∧
  (∀ l b, DoesWhen (.laneLos l b) (fun s => portOfLane l s = none) id) ∧
  (Does .crefLoss (fun s =>
    let u := { s with pins := { s.pins with cref := false } }
    let v := if crefSeen u then forEach tellCref (enabledPorts u) u else u
    forEach (fun p u => if (portOf p u).phase = .up then linkLost p u else u) (enabledPorts v) v)) ∧
  (Does .crefReturn (fun s =>
    let u := { s with pins := { s.pins with cref := true } }
    if crefSeen u then forEach tellCref (enabledPorts u) u else u)) ∧
  (∀ p s, tellCref p s = forEach (fun l u => if u.pins.cref then clear 0x0806 (srcLane l) 0 0 u else hold 0x0806 (srcLane l) .major 0 0 u)
    (portLanes p s) s) ∧
  (∀ p data back i, DoesWhen (.clientFrame p data back)
    (fun s => packetPort p s = true ∧ (portOf p s).phase = .up ∧ macCheck (portOf p s).cfg.maxFrame data = some i) (countPort p i 1)) ∧
  (∀ p data back, DoesWhen (.clientFrame p data back)
    (fun s => packetPort p s = true ∧ (portOf p s).phase = .up ∧ macCheck (portOf p s).cfg.maxFrame data = none ∧
      64 ≤ (tabGet [] s.ports.fifos (p / 16)).length)
    (fun s => countPort p 6 1 (countPort p 1 data.length (countPort p 0 1 s)))) ∧
  (∀ p data back, DoesWhen (.clientFrame p data back)
    (fun s => packetPort p s = true ∧ (portOf p s).phase = .up ∧ macCheck (portOf p s).cfg.maxFrame data = none ∧
      (tabGet [] s.ports.fifos (p / 16)).length < 64)
    (fun s =>
      let u := countPort p 1 data.length (countPort p 0 1 s)
      let waiting := tabGet [] u.ports.fifos (p / 16) ++ [⟨p, data, receiveStamp p back u⟩]
      let mark := pushMark 1 u.clock.now (tabGet none u.ports.fifoNew (p / 16))
      { u with ports := { u.ports with
        fifos := tabSet [] u.ports.fifos (p / 16) waiting, fifoNew := tabSet none u.ports.fifoNew (p / 16) mark } })) ∧
  (∀ p data back, DoesWhen (.clientFrame p data back) (fun s => packetPort p s = false ∨ (portOf p s).phase ≠ .up) id) ∧
  (∀ i f fs, DoesWhen (.parse i) (fun s => tabGet [] s.ports.fifos i = f :: fs)
    (fun s =>
      let w := popCycle 1 (fs.length + 1) (tabGet none s.ports.fifoNew i) (advanceTo (tabGet 0 s.ports.parserFree i) s)
      let u := { w with ports := { w.ports with
        fifos := tabSet [] w.ports.fifos i fs, parserFree := tabSet 0 w.ports.parserFree i (w.clock.now + 1) } }
      if throttled u then countPort f.port 6 1 u else classify f u)) ∧
  (∀ i, DoesWhen (.parse i) (fun s => tabGet [] s.ports.fifos i = []) id) ∧
  (Does .epochDrain (fun s => { s with ports := { s.ports with older := none } })) ∧
  (∀ p q f fs, DoesWhen (.egressFrameStart p)
    (fun s => (portOf p s).phase = .up ∧ (portOf p s).lf = false ∧ (portOf p s).rf = false ∧ nextQueue p s = some q ∧
      (portOf p s).queues.getD q [] = f :: fs)
    (fun s =>
      let u := modPort p (fun x => { x with queues := x.queues.set q fs }) { s with readBack := wordsOfBytes (lineBytes p f s) }
      let v := countPort p 10 f.data.length (countPort p 9 1 (chargeShaper ((portOf p s).shapers.getD q none) f.data.length u))
      macDone p f (stampFrame p f v))) ∧
  (∀ p, DoesWhen (.egressFrameStart p)
    (fun s => (portOf p s).phase ≠ .up ∨ (portOf p s).lf = true ∨ (portOf p s).rf = true ∨ nextQueue p s = none) id)

/-- The Larder's engines and the loss of an HBM stack (R338 to R346): caches refill below 32 and spill above 48 tokens, tokens are given and
freed by their owners, a free that was held goes on, a pool that stalls is reported 1 µs later, and a retired stack's frames are purged.
Each clause gives the conditions and the whole next state as the model has it. What a token ring holds at first and assumption 53 are the
model's (assumption 21). -/
def Obligations.LarderEventsComplete : Prop :=
  (∀ k, DoesWhen (.larderRefill k) (fun s => (poolOf k s).cache.length < 32)
    (fun s =>
      let n := min 16 (ringCount (poolOf k s))
      modPool k (refill k n) (noteUse k (fun u => { u with fresh := u.fresh + n }) s))) ∧
  (∀ k, DoesWhen (.larderRefill k) (fun s => 32 ≤ (poolOf k s).cache.length) id) ∧
  (∀ k, DoesWhen (.larderSpill k) (fun s => 48 < (poolOf k s).cache.length)
    (fun s =>
      let p := poolOf k s
      let n := min 16 (min (p.cache.length - 48) (p.total - ringCount p))
      modPool k (spill n) (if p.cache.length < n + (useNow k s).fresh then advance 1 s else s))) ∧
  (∀ k, DoesWhen (.larderSpill k) (fun s => (poolOf k s).cache.length ≤ 48) id) ∧
  (∀ k o, Does (.larderAlloc k o) (fun s =>
    { (larderAlloc k o s).2 with readBack := [wordOf ((larderAlloc k o s).1.getD 0)] })) ∧
  (∀ t o, Does (.larderFree t o) (larderFree t o)) ∧
  (∀ t a l, Does (.larderShare t a l) (larderShare t a l)) ∧
  (∀ k t o rest u, DoesWhen (.heldFreeResume k) (fun s => (poolOf k s).held = (t, o) :: rest ∧ tryFree t o s = some u)
    (fun _ =>
      clear 0x0902 1926 (wordOf k) 0 (modPool k (fun p => { p with
        held := rest, heldSince := if rest.isEmpty then none else p.heldSince, stalled := false }) (countHeld k u)))) ∧
  (∀ k, DoesWhen (.heldFreeResume k) (fun s => (poolOf k s).held = []) id) ∧
  (∀ k, TimesOut (.poolStall k) (fun s => (poolOf k s).heldSince.map (fun t => t + usCc))
    (fun s => hold 0x0902 1926 .major (wordOf k) 0 (modPool k (fun p => { p with stalled := true }) s))) ∧
  (∀ n, DoesWhen (.hbmRetired n) (fun s => (s.start.hbm.getD n hbmStackReset).retired = false)
    (fun s => loseHostPools n (raise 0x0903 1926 .major (wordOf n) 0 { s with start := { s.start with
      hbm := s.start.hbm.modify n (fun h => { h with retired := true }) } }))) ∧
  (∀ n, DoesWhen (.hbmRetired n) (fun s => (s.start.hbm.getD n hbmStackReset).retired = true) id) ∧
  (∀ n, DoesWhen (.hbmPurgeDone n) (fun s => (s.start.hbm.getD n hbmStackReset).retired = true)
    (fun s => forEach (purgeQueue n) (s.queues.planeQueues.map (fun e => e.1)) s)) ∧
  (∀ n, DoesWhen (.hbmPurgeDone n) (fun s => (s.start.hbm.getD n hbmStackReset).retired = false) id)
/-! ### Host queues, events, tiles and time -/

/-- The host queues' events (R433, R457 to R466): a DMA error halts its function, a doorbell moves its index or, claiming more than its ring
holds, halts the pair with cause 5, a held completion is written once a slot is free, and descriptors and slow-path frames are taken in
order. Each clause gives the conditions and the whole next state as the model has it. Assumptions 24, 54 and 70 are the model's. -/
def Obligations.HostQueueEventsComplete : Prop :=
  (∀ f, Does (.dmaError f none) (haltFunc f)) ∧
  (∀ f n, Does (.dmaError f (some n)) (fun s => haltFunc f (modPair n (fun q => { q with haltCause := 6, haltIndex := q.txCi }) s))) ∧
  (∀ f n v, DoesWhen (.hqTxPi f n v)
    (fun s => doorbellOpen f n s = true ∧ (pairOf n s).txLog2 ≠ 0 ∧
      posted (pairOf n s).txLog2 (v.toNat % 65536 % 2 ^ ((pairOf n s).txLog2 + 1)) (pairOf n s).txCi ≤ 2 ^ (pairOf n s).txLog2)
    (fun s => modPair n (fun q => { q with txPi := v.toNat % 65536 % 2 ^ ((pairOf n s).txLog2 + 1) }) s)) ∧
  (∀ f n v, DoesWhen (.hqTxPi f n v)
    (fun s => doorbellOpen f n s = true ∧ (pairOf n s).txLog2 ≠ 0 ∧
      2 ^ (pairOf n s).txLog2 < posted (pairOf n s).txLog2 (v.toNat % 65536 % 2 ^ ((pairOf n s).txLog2 + 1)) (pairOf n s).txCi)
    (fun s => haltPair n 5 (pairOf n s).txCi s)) ∧
  (∀ f n v, DoesWhen (.hqTxPi f n v) (fun s => doorbellOpen f n s = false ∨ (pairOf n s).txLog2 = 0) id) ∧
  (∀ f n v, DoesWhen (.hqRxPi f n v)
    (fun s => doorbellOpen f n s = true ∧ (pairOf n s).rxLog2 ≠ 0 ∧
      posted (pairOf n s).rxLog2 (v.toNat % 65536 % 2 ^ ((pairOf n s).rxLog2 + 1)) (pairOf n s).rxCi ≤ 2 ^ (pairOf n s).rxLog2)
    (fun s => modPair n (fun q => { q with rxPi := v.toNat % 65536 % 2 ^ ((pairOf n s).rxLog2 + 1) }) s)) ∧
  (∀ f n v, DoesWhen (.hqRxPi f n v)
    (fun s => doorbellOpen f n s = true ∧ (pairOf n s).rxLog2 ≠ 0 ∧
      2 ^ (pairOf n s).rxLog2 < posted (pairOf n s).rxLog2 (v.toNat % 65536 % 2 ^ ((pairOf n s).rxLog2 + 1)) (pairOf n s).rxCi)
    (fun s => haltPair n 5 (pairOf n s).rxCi s)) ∧
  (∀ f n v, DoesWhen (.hqRxPi f n v) (fun s => doorbellOpen f n s = false ∨ (pairOf n s).rxLog2 = 0) id) ∧
  (∀ f n v, DoesWhen (.hqCqCi f n v)
    (fun s => (chanSlot 0x05 n s).live = true ∧ (pairOf n s).func = f ∧ pairHalted (pairOf n s) s = false ∧
      consumerValid (2 ^ (pairOf n s).cqLog2) (v.toNat % 65536 % 2 ^ ((pairOf n s).cqLog2 + 1)) (pairOf n s).cqCi (pairOf n s).cqPi = true)
    (fun s => modPair n (fun q => { q with cqCi := v.toNat % 65536 % 2 ^ ((pairOf n s).cqLog2 + 1) }) s)) ∧
  (∀ f n v, DoesWhen (.hqCqCi f n v)
    (fun s => (chanSlot 0x05 n s).live = true ∧ (pairOf n s).func = f ∧ pairHalted (pairOf n s) s = false ∧
      consumerValid (2 ^ (pairOf n s).cqLog2) (v.toNat % 65536 % 2 ^ ((pairOf n s).cqLog2 + 1)) (pairOf n s).cqCi (pairOf n s).cqPi = false)
    (fun s => haltPair n 5 (pairOf n s).cqCi s)) ∧
  (∀ n c cs, DoesWhen (.cqResume n)
    (fun s => (pairOf n s).held = c :: cs ∧ pairHalted (pairOf n s) s = false ∧
      ringFree (2 ^ (pairOf n s).cqLog2) (pairOf n s).cqPi (pairOf n s).cqCi ≠ 0)
    (fun s =>
      let u := writeCompletion n c (modPair n (fun q => { q with held := cs }) s)
      if cs = [] then answerStop n u else u)) ∧
  (∀ n, DoesWhen (.cqResume n) (fun s => (pairOf n s).held = []) id) ∧
  (∀ ws frame r u, DoesWhen (.txDescriptor ws frame) (fun s => nextPlace s = (some r, u))
    (fun _ => takeDescriptor r.pair ws frame (modHq (fun h => { h with round := { r with taken := r.taken + 1 } }) u))) ∧
  (∀ ws frame u, DoesWhen (.txDescriptor ws frame) (fun s => nextPlace s = (none, u)) (fun _ => u)) ∧
  (∀ ds f fs n, DoesWhen (.slowPathDelivery ds)
    (fun s => s.ports.slowQueue = f :: fs ∧ slowPair f { s with ports := { s.ports with slowQueue := fs } } = some n)
    (fun s => freeAll 0x005 f.tokens (deliverFrame f n ds { s with ports := { s.ports with slowQueue := fs } }))) ∧
  (∀ ds f fs, DoesWhen (.slowPathDelivery ds)
    (fun s => s.ports.slowQueue = f :: fs ∧ slowPair f { s with ports := { s.ports with slowQueue := fs } } = none)
    (fun s => freeAll 0x005 f.tokens (countHq 0 { s with ports := { s.ports with slowQueue := fs } }))) ∧
  (∀ ds, DoesWhen (.slowPathDelivery ds) (fun s => s.ports.slowQueue = []) id)

/-- The event machinery and the tiles (R473 to R484): records are raised, held and cleared, a coalescing window closes after 1 ms with its
summary, losses are reported at most every 100 ms, staged records reach the black box, a message held off goes out at the end of its
holdoff, the alarm table is read through its latch, and a tile's link follows its table. Each clause gives the conditions and the whole next
state as the model has it. Assumptions 5, 28 and 67 are the model's. -/
def Obligations.EventMachineryCompletes : Prop :=
  (∀ c src sev d e, Does (.eventRaise false false c src sev d e) (raise c src sev d e)) ∧
  (∀ c src sev d e, Does (.eventRaise false true c src sev d e) (hold c src sev d e)) ∧
  (∀ h c src sev d e, Does (.eventRaise true h c src sev d e) (clear c src d e)) ∧
  (∀ src c d w, DoesWhen (.coalesceWindowClose src c d)
    (fun s => s.ev.windows.find? (fun w => windowMatches src c d w && w.code == c) = some w ∧ w.count = 0)
    (fun s =>
      let u := advanceTo (w.opened + msCc) s
      { u with ev := { u.ev with windows := u.ev.windows.filter (fun x => !windowMatches src c d x) } })) ∧
  (∀ src c d w, DoesWhen (.coalesceWindowClose src c d)
    (fun s => s.ev.windows.find? (fun w => windowMatches src c d w && w.code == c) = some w ∧ w.count ≠ 0)
    (fun s =>
      let u := advanceTo (w.opened + msCc) s
      let v := emitSummary w { u with ev := { u.ev with windows := u.ev.windows.filter (fun x => !windowMatches src c d x) } }
      (openWindow src c w.detail4 (some w.maxSev) v).getD v)) ∧
  (∀ src c d, DoesWhen (.coalesceWindowClose src c d)
    (fun s => s.ev.windows.find? (fun w => windowMatches src c d w && w.code == c) = none) id) ∧
  (∀ f, DoesWhen (.evtLost f) (fun s => (destOf f s).lost ≠ 0)
    (fun s =>
      let u := ((destOf f s).lostAt.map (fun t => advanceTo (t + 100 * msCc) s)).getD s
      raise 0x0D05 1930 .info (wordOf f) (wordOf (min (destOf f s).lost (2 ^ 32 - 1)))
        (modDest f (fun d => { d with lost := 0, lostAt := some u.clock.now }) u))) ∧
  (∀ f, DoesWhen (.evtLost f) (fun s => (destOf f s).lost = 0) id) ∧
  (∀ r rs, DoesWhen .blackboxWrite (fun s => s.ev.staged = r :: rs)
    (fun s => { s with ev := { s.ev with
      staged := rs, blackBox := (blackBoxEntry s.pins.slotId r :: s.ev.blackBox).take 256 } })) ∧
  (DoesWhen .blackboxWrite (fun s => s.ev.staged = []) id) ∧
  (∀ f v t, DoesWhen (.msixHoldoffEnd f v)
    (fun s => (tabGet vectorReset (funcBox f s).msix v).holdEnd = some t ∧ (tabGet vectorReset (funcBox f s).msix v).waiting = true)
    (fun s => sendMessage f v (advanceTo t s))) ∧
  (∀ f v t, DoesWhen (.msixHoldoffEnd f v)
    (fun s => (tabGet vectorReset (funcBox f s).msix v).holdEnd = some t ∧ (tabGet vectorReset (funcBox f s).msix v).waiting = false)
    (fun s => modFunc f (fun b => { b with
      msix := tabSet vectorReset b.msix v { tabGet vectorReset (funcBox f s).msix v with holdEnd := none } }) (advanceTo t s))) ∧
  (∀ f src, Does (.almStateRead f src) (fun s =>
    let ws := alarmWords (alarmEntry src s)
    { modFunc f (fun b => { b with latch := ws.drop 1 }) s with readBack := ws.take 1 })) ∧
  (∀ t, DoesWhen (.tileLinkLost t) (fun s => (tileAt t s).phase = .running)
    (fun s => hold 0x0D01 (srcTile t) .major 0 0 (forEach powerOffTx (tileTxs t)
      (modTile t (fun x => { x with phase := .retrain, attempts := 0, tryFrom := s.clock.now }) s)))) ∧
  (∀ t, DoesWhen (.tileLinkLost t) (fun s => (tileAt t s).phase ≠ .running) id) ∧
  (∀ t, DoesWhen (.tileDegraded t) (fun s => (tileAt t s).phase = .running) (hold 0x0D02 (srcTile t) .minor 0 0)) ∧
  (∀ t, Does (.tileDegradedClear t) (clear 0x0D02 (srcTile t) 0 0)) ∧
  (∀ t, DoesWhen (.tileRetrain t true) (fun s => (tileAt t s).phase = .retrain)
    (fun s => raise 0x0D03 (srcTile t) .info 0 0 (clear 0x0D01 (srcTile t) 0 0
      (modTile t (fun x => { x with phase := .running, attempts := 0, record := false }) (advanceTo (tileAt t s).tryFrom s))))) ∧
  (∀ t, DoesWhen (.tileRetrain t false) (fun s => (tileAt t s).phase = .retrain ∧ ((tileAt t s).attempts + 1) % 3 ≠ 0)
    (fun s =>
      let u := advanceTo ((tileAt t s).tryFrom + 10 * msCc) s
      modTile t (fun x => { x with attempts := (tileAt t s).attempts + 1, tryFrom := u.clock.now }) u)) ∧
  (∀ t, DoesWhen (.tileRetrain t false)
    (fun s =>
      let u := advanceTo ((tileAt t s).tryFrom + 10 * msCc) s
      (tileAt t s).phase = .retrain ∧ ((tileAt t s).attempts + 1) % 3 = 0 ∧
        ((tileAt t s).attempts = 2 ∨ (recentCycles (tileAt t s) u.clock.now).length < 3))
    (fun s =>
      let u := advanceTo ((tileAt t s).tryFrom + 10 * msCc) s
      modTile t (fun x => { x with
        attempts := (tileAt t s).attempts + 1, tryFrom := u.clock.now + 100 * msCc
        cycles := recentCycles (tileAt t s) u.clock.now ++ [u.clock.now] }) u)) ∧
  (∀ t, DoesWhen (.tileRetrain t false)
    (fun s =>
      let u := advanceTo ((tileAt t s).tryFrom + 10 * msCc) s
      (tileAt t s).phase = .retrain ∧ ((tileAt t s).attempts + 1) % 3 = 0 ∧
        (tileAt t s).attempts ≠ 2 ∧ 3 ≤ (recentCycles (tileAt t s) u.clock.now).length)
    (fun s =>
      let u := advanceTo ((tileAt t s).tryFrom + 10 * msCc) s
      hold 0x0D04 (srcTile t) .critical 0 0 (modTile t (fun x => { x with phase := .failed, attempts := 0, record := true }) u)))

/-- Of the holding registers up to that of a port only the port's own can hold an entry, and no register has pushed in this cycle. -/
def Sys2Proof.Machine.alone (p : Nat) (s : State) : Prop :=
  (∀ q, q < p → tabGet none s.time.holding q = none) ∧ s.time.tsqNew.map Prod.fst ≠ some s.clock.now

/-- Time (R393 to R402, R405, R410 to R414): a capture latches the output time, the timestamp queue pops on the read of its high word and
drops what finds it full, PPS edges rise and fall on the output time, PTM dialogues start, end and fail, and the servo measures both hubs,
judges them and steers at the next superframe boundary. Each clause gives the conditions and the whole next state as the model has it.
Assumptions 18 to 20, 28 and 55 are the model's. -/
def Obligations.TimeEventsComplete : Prop :=
  (∀ f, Does (.timeCapture f) (fun s => modTime (fun t => { t with captures := t.captures.set f s.clock.outTime }) s)) ∧
  (DoesWhen .timeTsqHiRead (fun s => s.time.tsq = []) (fun s => { s with readBack := [0] })) ∧
  (∀ e es, DoesWhen .timeTsqHiRead (fun s => s.time.tsq = e :: es)
    (fun s => { popCycle 1 (es.length + 1) s.time.tsqNew s with
      time := { s.time with tsq := es, tsqLo := e.ts }
      readBack := [pack [(31, 1), (24, es.length), (16, e.port), (0, e.tsId)]] })) ∧
  (DoesWhen .tsqOvfClear (fun s => inCycle s.clock.now s.time.tsqLost = 0) (modTime (fun t => { t with tsqOvf := false, tsqDrops := 0 }))) ∧
  (∀ n, DoesWhen .tsqOvfClear (fun s => inCycle s.clock.now s.time.tsqLost = n + 1)
    (modTime (fun t => { t with tsqOvf := true, tsqDrops := n + 1 }))) ∧
  (∀ p e, DoesWhen (.tsqPush p)
    (fun s => alone p s ∧ tabGet none s.time.holding p = some e ∧ s.time.tsq.length < 64)
    (fun s => modTime (fun t => { t with
      holding := tabSet none t.holding p none, tsqNew := pushMark 1 s.clock.now t.tsqNew, tsq := t.tsq ++ [e] }) s)) ∧
  (∀ p e, DoesWhen (.tsqPush p)
    (fun s => alone p s ∧ tabGet none s.time.holding p = some e ∧ 64 ≤ s.time.tsq.length)
    (fun s => dropTimestamp (modTime (fun t => { t with
      holding := tabSet none t.holding p none, tsqNew := pushMark 0 s.clock.now t.tsqNew }) s))) ∧
  (∀ p, DoesWhen (.tsqPush p) (fun s => alone p s ∧ tabGet none s.time.holding p = none) id) ∧
  (∀ p, Does (.tsqPush p) (fun s => (List.range (p + 1)).foldl (fun s q => pushHolding q s) s)) ∧
  (DoesWhen .ppsOutPulse
    (fun s => s.time.cfg.ppsOut = true ∧ s.time.phase ≠ .unset ∧ pulseEarly (advance (toNextSecond s) s) = false)
    (fun s =>
      let u := advance (toNextSecond s) s
      { u with
        pins := { u.pins with ppsOut := true }
        time := { u.time with ppsRise := some u.clock.now, ppsFall := some (u.clock.now + u.time.cfg.ppsWidth * usCc) } })) ∧
  (DoesWhen .ppsOutPulse
    (fun s => s.time.cfg.ppsOut = false ∨ s.time.phase = .unset)
    (fun s => advance (toNextSecond s) s)) ∧
  (TimesOut .ppsOutFall (fun s => s.time.ppsFall)
    (fun s => { s with pins := { s.pins with ppsOut := false }, time := { s.time with ppsFall := none } })) ∧
  (∀ ns, 100 ≤ ns → DoesWhen (.ppsInEdge ns) (fun s => s.pins.retained = false)
    (fun s =>
      let e := secondOffset s.clock.outTime
      let u := modTime (fun t => { t with
        ppsEdge := some s.clock.outTime, ppsOffset := e, ppsEdges := satAdd 32 t.ppsEdges 1 }) s
      if s.time.cfg.ppsinLimit ≠ 0 ∧ s.time.cfg.ppsinLimit < e.natAbs then raise 0x0B07 1928 .minor (wordOfInt e) 0 u else u)) ∧
  (∀ ns, DoesWhen (.ppsInEdge ns) (fun s => ns < 100 ∨ s.pins.retained = true) id) ∧
  (DoesWhen (.ptmDialog true) (fun s => s.time.ptm.enable = true ∧ s.time.ptm.lastAt = none)
    (fun s => modTime (fun t => { t with ptm := { t.ptm with
      running := some s.clock.now, lastAt := some s.clock.now, startedAt := s.clock.outTime } }) s)) ∧
  (∀ t, DoesWhen (.ptmDialog true) (fun s => s.time.ptm.enable = true ∧ s.time.ptm.lastAt = some t)
    (fun s =>
      let u := advanceTo (t + s.time.ptm.interval * msCc) s
      modTime (fun t => { t with ptm := { t.ptm with
        running := some u.clock.now, lastAt := some u.clock.now, startedAt := u.clock.outTime } }) u)) ∧
  (Does (.ptmDialog false) id) ∧
  (∀ m p t, DoesWhen (.ptmResponse m p) (fun s => s.time.ptm.running = some t)
    (fun s => modTime (fun t => { t with ptm := { t.ptm with
      running := none, t1 := t.ptm.startedAt, t4 := s.clock.outTime, master := m, prop := p, valid := true } }) s)) ∧
  (∀ m p, DoesWhen (.ptmResponse m p) (fun s => s.time.ptm.running = none) id) ∧
  (TimesOut .ptmFail (fun s => s.time.ptm.running.map (fun t => t + msCc))
    (fun s => raise 0x0B08 1928 .minor 0 0 (modTime (fun t =>
      { t with ptm := { t.ptm with running := none }, ptmFails := satAdd 16 t.ptmFails 1 }) s))) ∧
  (Does .servoUpdate (fun s =>
    let u := toSlot (nextBoundary s) s
    let v := modTime (fun t => judgeDivergence (measureHub u.clock.now .b (measureHub u.clock.now .a (applyTimeConfig t)))) u
    let w := divergeEvent (outlierEvents v)
    steerBy (servoAct (servoAction w.clock.now w.time) w).1 (servoAct (servoAction w.clock.now w.time) w).2))
/-! ### Security and sensing -/

namespace Sys2Proof.Machine

/-- The rows of the record kinds, each with its kind (R372). -/
def recordRows : List ((Nat → Nat → Instr) × Nat) :=
  [(Instr.offer, 0x0A01), (Instr.answer, 0x0A02), (Instr.hubAnswer, 0x0A03), (Instr.groupKey, 0x0A04)]

/-- The reassembled record of a kind, an originator and a number, while the DRBG is not blocked (R372, R379). -/
def recordReady (kind f n : Nat) (q : KeyRecord) (s : State) : Prop :=
  completeRecord kind f n s = some q ∧ s.sec.entropy = .running

/-- What becomes of a record: `post` where its signatures verify, and otherwise it is rejected and told (R372). -/
def orBad (q : KeyRecord) (post : State → State) (s : State) : State := if recordVerifies q then post s else badSignature q s

/-- The state in which an epoch has been active for KEY_ROLL_INTERVAL slots (R367, R582). -/
def rollDue (e : KeyEpoch) (s : State) : State := toSlot (128 * e.act + 2 ^ (policyFor s.clock.slot s).rollLog2) s

end Sys2Proof.Machine

/-- Key agreement, key records and the transmit sequence (R358 to R376): a record with a bad signature is counted and one that comes while
the DRBG is blocked waits; a good one is taken by its association, the hub's or its group's key, or refused; segments join their record;
epochs are erased, rolled and reoffered at their slots; and the sequence resumes from the last of its two records. Each clause gives the
conditions and the whole next state as the model has it. Assumptions 17, 28, 31 to 33, 74 and 99 are the model's, and 73 what the
functions of the named standards return. -/
def Obligations.KeyEventsComplete : Prop :=
  (∀ c ∈ recordRows, ∀ f n, DoesWhen (c.1 f n) (fun s => completeRecord c.2 f n s = none) id) ∧
  (∀ c ∈ recordRows, ∀ f n q, DoesWhen (c.1 f n) (fun s => completeRecord c.2 f n s = some q ∧ s.sec.entropy ≠ .running)
    (orBad q (fun s => { s with sec := { s.sec with waitingRecords := s.sec.waitingRecords ++ [q] } }))) ∧
  (∀ f n q, DoesWhen (.offer f n) (recordReady 0x0A01 f n q) (orBad q (takeOffer q))) ∧
  (∀ f n q i, DoesWhen (.answer f n) (fun s => recordReady 0x0A02 f n q s ∧ assocWith q.fromTn s = some i) (orBad q (answerTo i q))) ∧
  (∀ f n q, DoesWhen (.answer f n) (fun s => recordReady 0x0A02 f n q s ∧ assocWith q.fromTn s = none) (orBad q (closeRecord q false))) ∧
  (∀ f n q, DoesWhen (.hubAnswer f n)
    (fun s => recordReady 0x0A03 f n q s ∧ s.sec.hubAssoc.phase = .idle ∧ hubKeyHeld s = false ∧ s.sec.identity ≠ [] ∧ answerEpoch q = 0)
    (orBad q (fun s =>
      let keys := offerKeys 1 0 s.sec.hubAssoc.offer.act s.sec.hubAssoc.secret q s
      installEpoch hubKey { num := 0, act := s.sec.hubAssoc.offer.act, inst := 0, tx := keys.1, rx := keys.2 } (closeRecord q true s)))) ∧
  (∀ f n q, DoesWhen (.hubAnswer f n)
    (fun s => recordReady 0x0A03 f n q s ∧ s.sec.hubAssoc.phase = .idle ∧ hubKeyHeld s = false ∧
      (s.sec.identity = [] ∨ answerEpoch q ≠ 0)) (orBad q (closeRecord q false))) ∧
  (∀ f n q, DoesWhen (.hubAnswer f n)
    (fun s => recordReady 0x0A03 f n q s ∧ (s.sec.hubAssoc.phase ≠ .idle ∨ hubKeyHeld s = true)) (orBad q (answerTo 64 q))) ∧
  (∀ f n q, DoesWhen (.groupKey f n)
    (fun s => recordReady 0x0A04 f n q s ∧ s.join.tn = some (groupAddressee q) ∧ groupField q ≤ 1023)
    (orBad q (fun s =>
      match unwrapUnder (lineKey hubKey s).epochs.reverse (groupWrapped q) s with
      | (some k, u) =>
        installEpoch (groupKeyNo (groupField q)) { num := groupEpoch q, act := groupAct q, inst := 0, tx := k, rx := k } (closeRecord q true u)
      | (none, u) => closeRecord q false u))) ∧
  (∀ f n q, DoesWhen (.groupKey f n)
    (fun s => recordReady 0x0A04 f n q s ∧ (s.join.tn ≠ some (groupAddressee q) ∨ 1023 < groupField q)) (orBad q (closeRecord q false))) ∧
  (Obeys [1, 3] .keySeg
    (fun m s => (m.mode = 1 ∨ ownSerial m s = true) ∧ segmentOk (readSegment m (if m.mode = 3 then 128 else 0)) s.join.tn = true)
    (fun m s => joinSegment (readSegment m (if m.mode = 3 then 128 else 0)) s)) ∧
  (Obeys [1, 3] .keySeg
    (fun m s => (m.mode = 1 ∨ ownSerial m s = true) ∧ segmentOk (readSegment m (if m.mode = 3 then 128 else 0)) s.join.tn = false)
    (fun _ s => countSec 3 1 s)) ∧
  WrongMode [1, 3] .keySeg ∧
  (∀ f r q, DoesWhen (.keyRecordTimeout f r) (fun s => s.sec.partials.find? (fun q => q.fromTn == f && q.recId == r) = some q)
    (fun s =>
      let u := toSlot q.deadline s
      { u with sec := { u.sec with partials := u.sec.partials.filter (fun q => !(q.fromTn == f && q.recId == r)) } })) ∧
  (∀ f r, DoesWhen (.keyRecordTimeout f r) (fun s => s.sec.partials.find? (fun q => q.fromTn == f && q.recId == r) = none) id) ∧
  (∀ k x y, DoesWhen (.keyEpochErase k) (fun s => oldestPair (lineKey k s).epochs = some (x, y))
    (fun s => modKey k (fun l => { l with epochs := l.epochs.drop 1 }) (toSlot (128 * (y.act + 2)) s))) ∧
  (∀ k, DoesWhen (.keyEpochErase k) (fun s => oldestPair (lineKey k s).epochs = none) id) ∧
  (∀ e, DoesWhen (.keyRollInterval selfKey)
    (fun s => activeEpoch s.clock.slot (lineKey selfKey s) = some e ∧
      (standbyEpoch (rollDue e s).clock.slot (lineKey selfKey (rollDue e s))).isSome = false)
    (fun s => rollSelfKey (rollDue e s))) ∧
  (∀ k e, DoesWhen (.keyRollInterval k)
    (fun s => activeEpoch s.clock.slot (lineKey k s) = some e ∧
      (standbyEpoch (rollDue e s).clock.slot (lineKey k (rollDue e s))).isSome = true) (rollDue e)) ∧
  (∀ k e i, k ≠ selfKey → DoesWhen (.keyRollInterval k)
    (fun s => activeEpoch s.clock.slot (lineKey k s) = some e ∧
      (standbyEpoch (rollDue e s).clock.slot (lineKey k (rollDue e s))).isSome = false ∧
      assocOfKey k (rollDue e s) = some i ∧ (assocOf i (rollDue e s)).phase = .idle)
    (fun s => sendOffer i 0 (rollDue e s))) ∧
  (∀ k e, k ≠ selfKey → DoesWhen (.keyRollInterval k)
    (fun s => activeEpoch s.clock.slot (lineKey k s) = some e ∧
      (standbyEpoch (rollDue e s).clock.slot (lineKey k (rollDue e s))).isSome = false ∧
      ∀ i, assocOfKey k (rollDue e s) = some i → (assocOf i (rollDue e s)).phase ≠ .idle) (rollDue e)) ∧
  (∀ k, DoesWhen (.keyRollInterval k) (fun s => activeEpoch s.clock.slot (lineKey k s) = none) id) ∧
  (∀ i t, DoesWhen (.tAns i) (fun s => (assocOf i s).tAns = some t ∧ (assocOf i s).expiries + 1 < 3)
    (fun s => sendOffer i ((assocOf i s).expiries + 1) (toSlot t s))) ∧
  (∀ i t, DoesWhen (.tAns i) (fun s => (assocOf i s).tAns = some t ∧ 3 ≤ (assocOf i s).expiries + 1)
    (fun s => endKeyCommand i .timeout (raise 0x0A04 1927 .major 0 0
      (setAssoc i { assocOf i s with phase := .idle, expiries := 0, tAns := none } (toSlot t s))))) ∧
  (∀ i t, DoesWhen (.withdrawnReoffer i) (fun s => (assocOf i s).reofferAt = some t)
    (fun s => sendOffer i 0 (setAssoc i { assocOf i s with phase := .idle, reofferAt := none } (toSlot t s)))) ∧
  (∀ n, DoesWhen (.sequenceResume n) (fun s => (lastRecord (toSlot n s).sec.seq).isNone = true)
    (fun s => seqHalt (modSeq (fun q => { q with disabled := true, offset := none }) (toSlot n s)))) ∧
  (∀ n v, DoesWhen (.sequenceResume n)
    (fun s => (lastRecord (toSlot n s).sec.seq).isNone = false ∧ resumeValue (toSlot n s).sec.seq = some v)
    (fun s => modSeq (fun q => { q with offset := some ((v : Int) - n), writing := none }) (modSeq (commitRecord v) (toSlot n s)))) ∧
  (∀ v, DoesWhen (.seqRecordCommit true) (fun s => s.sec.seq.writing = some v)
    (fun s => modSeq (fun q => { q with writing := none }) (modSeq (commitRecord v) s))) ∧
  (∀ v, DoesWhen (.seqRecordCommit false) (fun s => s.sec.seq.writing = some v)
    (modSeq (fun q =>
      match lastRecord q with
      | some (_, _, true) => { q with recB := { q.recB with valid := false }, writing := none }
      | _ => { q with recA := { q.recA with valid := false }, writing := none }))) ∧
  (∀ ok, DoesWhen (.seqRecordCommit ok) (fun s => s.sec.seq.writing = none) id)

/-- Entropy, the debug port and the firewall (R377 to R387): a failed entropy source stops agreement until a retest passes, the start-up
test is repeated every second, the DRBG is reseeded after its requests or after 10 s, debug opens only for this serial with a good
signature and erases the keys, an access that the rules allow passes and every other is refused, and rule writes take effect one at a
time, each once the accesses checked under the old rule have completed or, after 1 µs, been aborted. Each clause gives the conditions and
the whole next state as the model has it. Assumptions 11, 12, 34, 98 and 99 are the model's. -/
def Obligations.SecurityEventsComplete : Prop :=
  (Does .entropyFail (fun s => hold 0x0A06 1927 .critical 0 0
    { s with sec := { s.sec with
        entropy := .failed, testedAt := s.clock.now, entropyFailures := satAdd 32 s.sec.entropyFailures 1 } })) ∧
  (DoesWhen (.entropyRetest true) (fun s => s.sec.entropy = .failed)
    (fun s =>
      let u := advanceTo (s.sec.testedAt + secCc) s
      resumeAgreement (clear 0x0A06 1927 0 0 (reseed { u with sec := { u.sec with entropy := .running } })))) ∧
  (DoesWhen (.entropyRetest false) (fun s => s.sec.entropy = .failed)
    (fun s =>
      let u := advanceTo (s.sec.testedAt + secCc) s
      hold 0x0A06 1927 .critical 0 0 { u with sec := { u.sec with
        entropy := .failed, testedAt := u.clock.now, entropyFailures := satAdd 32 u.sec.entropyFailures 1 } })) ∧
  (DoesWhen (.entropyRetest true) (fun s => s.sec.entropy ≠ .failed ∧ s.sec.entropy ≠ .running)
    (fun s => resumeAgreement (clear 0x0A06 1927 0 0 (reseed { s with sec := { s.sec with entropy := .running } })))) ∧
  (DoesWhen (.entropyRetest false) (fun s => s.sec.entropy ≠ .failed ∧ s.sec.entropy ≠ .running)
    (fun s => hold 0x0A06 1927 .critical 0 0 { s with sec := { s.sec with
        entropy := .failed, testedAt := s.clock.now, entropyFailures := satAdd 32 s.sec.entropyFailures 1 } })) ∧
  (∀ b, DoesWhen (.entropyRetest b) (fun s => s.sec.entropy = .running) id) ∧
  (DoesWhen .drbgReseed (fun s => s.sec.entropy = .running ∧ 65536 ≤ s.sec.drbgRequests) reseed) ∧
  (DoesWhen .drbgReseed (fun s => s.sec.entropy = .running ∧ s.sec.drbgRequests < 65536)
    (fun s => reseed (advanceTo (s.sec.reseedAt + 10 * secCc) s))) ∧
  (DoesWhen .drbgReseed (fun s => s.sec.entropy ≠ .running) id) ∧
  (∀ n, DoesWhen (.debugAuthorisation n true) (fun s => s.serial = n)
    (fun s => raise 0x0A07 1927 .critical 0 0 (eraseKeys { s with sec := { s.sec with debugOpen := true } }))) ∧
  (∀ n, DoesWhen (.debugAuthorisation n true) (fun s => s.serial ≠ n) id) ∧
  (∀ n, Does (.debugAuthorisation n false) id) ∧
  (∀ sec i w bar x len, DoesWhen (.firewallAccess sec i w bar x len)
    (fun s => sec = true ∨ normalAllows i w bar x len s = true)
    (fun s => { s with sec := { s.sec with inFlight := s.sec.inFlight + 1, unsupported := false } })) ∧
  (∀ i bar x len, DoesWhen (.firewallAccess false i true bar x len) (fun s => normalAllows i true bar x len s = false)
    (fun s => raise 0x0A0A 1927 .major (wordOf i) (wordOf x)
      (countSec 9 1 { s with sec := { s.sec with unsupported := i == 1 || i == 2 } }))) ∧
  (∀ i bar x len, DoesWhen (.firewallAccess false i false bar x len) (fun s => normalAllows i false bar x len s = false)
    (fun s => raise 0x0A0A 1927 .major (wordOf i) (wordOf x)
      (countSec 9 1 { s with
        sec := { s.sec with unsupported := i == 1 || i == 2 }, readBack := List.replicate ((len + 3) / 4) 0xFFFFFFFF }))) ∧
  (∀ k b l f, DoesWhen (.fwRuleWrite k b l f)
    (fun s => s.sec.ruleWrites = [] ∧ bitOf (tabGet fwRuleReset s.sec.rules k).flags 3 = false)
    (fun s => { s with sec := { s.sec with
      rules := tabSet fwRuleReset s.sec.rules k ⟨b, l, f &&& 0xFF⟩, ruleWrites := [(k, ⟨b, l, f &&& 0xFF⟩)]
      oldFlight := s.sec.inFlight, inFlight := 0, ruleAt := s.clock.now } })) ∧
  (∀ k b l f, DoesWhen (.fwRuleWrite k b l f)
    (fun s => s.sec.ruleWrites = [] ∧ bitOf (tabGet fwRuleReset s.sec.rules k).flags 3 = true)
    (fun s => { s with sec := { s.sec with
      ruleWrites := [(k, ⟨b, l, f &&& 0xFF⟩)], oldFlight := s.sec.inFlight, inFlight := 0, ruleAt := s.clock.now } })) ∧
  (∀ k b l f, DoesWhen (.fwRuleWrite k b l f) (fun s => s.sec.ruleWrites ≠ [])
    (fun s => { s with sec := { s.sec with ruleWrites := s.sec.ruleWrites ++ [(k, ⟨b, l, f &&& 0xFF⟩)] } })) ∧
  (∀ n, DoesWhen (.firewallDrain n) (fun s => s.sec.ruleWrites = [])
    (fun s => { s with sec := { s.sec with inFlight := s.sec.inFlight - n } })) ∧
  (∀ n w ws, DoesWhen (.firewallDrain n) (fun s => s.sec.ruleWrites = w :: ws ∧ s.sec.oldFlight ≤ n)
    (fun s => applyRuleWrite (countSec 10 0 { s with sec := { s.sec with oldFlight := 0, ruleWrites := ws } }))) ∧
  (∀ n w ws, DoesWhen (.firewallDrain n) (fun s => s.sec.ruleWrites = w :: ws ∧ n < s.sec.oldFlight)
    (fun s =>
      let u := countSec 10 (s.sec.oldFlight - n) (advanceTo (s.sec.ruleAt + usCc) s)
      applyRuleWrite { u with sec := { u.sec with oldFlight := 0, ruleWrites := ws } }))

/-- The sensing chain and the island's interfaces (R493 to R508): an output of the chain at its grid instant, the captured period of the RC
oscillator, a fallback 2 s after the last good sample, the waits and wakes of the island, and the console's characters and breaks. Each
clause gives the conditions and the whole next state as the model has it. Assumptions 28 and 56 to 59, 96 and 102 are the model's. -/
def Obligations.SensingEventsComplete : Prop :=
  (∀ bits leads ov, DoesWhen (.senseOutput bits leads ov) (fun s => chainOn s = false) (modChain (fun c => { c with started := false }))) ∧
  (∀ bits leads ov, DoesWhen (.senseOutput bits leads ov) (fun s => chainOn s = true)
    (fun s =>
      let u := startChain s
      let v := chainOutput (nextGrid u).2 (!gridIsOutput u) bits (leads % 16) ov (advanceTo (nextGrid u).1 u)
      applySwap (nextGrid u).2 (endOutput (leads % 16 != 0) v))) ∧
  (∀ e : Nat, 6400000 < ((e : Int) - 128000000).natAbs →
    Does (.rcPeriodCapture e) (fun s => hold 0x0E06 1991 .minor 0 0 (modChain (fun c => { c with rcRun := 0 }) s))) ∧
  (∀ e : Nat, ((e : Int) - 128000000).natAbs ≤ 6400000 → Does (.rcPeriodCapture e) (fun s =>
    let u := modChain (fun c => { c with
      period := ((c.period : Int) + ((e * 2 ^ 22 : Nat) - (c.period : Int)) / 8).toNat, rcRun := min 8 (c.rcRun + 1) }) s
    if 8 ≤ u.island.chain.rcRun then clear 0x0E06 1991 0 0 u else u)) ∧
  (∀ i t, 2 ≤ i → i ≤ 6 → DoesWhen (.senseFallback i) (fun s => (inputOf i s).goodAt = some t ∧ fallenBack (i - 1) s = false)
    (fun s => hold 0x0E03 (srcInput i) .major 0 (wordOf (i - 1))
      (modIsland (fun x => { x with fallback := x.fallback.set (i - 2) true }) (advanceTo (t + 2 * secCc) s)))) ∧
  (∀ i, DoesWhen (.senseFallback i) (fun s => (inputOf i s).goodAt = none) id) ∧
  (DoesWhen .islandWait (fun s => s.island.wakePending = true ∨ s.power.heldWake.isSome = true)
    (fun s => modIsland (fun x => { x with
      wakePending := false, modeReq := bitNat (s.power.state == .standby && !s.island.cfg.scan) }) s)) ∧
  (DoesWhen .islandWait (fun s => s.island.wakePending = false ∧ s.power.heldWake = none)
    (fun s =>
      let low := s.power.state == .standby && !s.island.cfg.scan
      modIsland (fun x => { x with modeReq := bitNat low, waiting := true, low := low }) s)) ∧
  (Does .islandWake wakeIsland) ∧ (∀ a, DoesWhen (.smbusAddressMatch a) (fun s => a = smbusAddress s) wakeIsland) ∧
  (∀ a, DoesWhen (.smbusAddressMatch a) (fun s => a ≠ smbusAddress s) id) ∧
  (∀ xs, DoesWhen (.uartCharacter xs) (fun s => s.island.console.inBreak = true ∨ s.island.low = true) id) ∧
  (∀ xs, lineMajority xs 7 = true → DoesWhen (.uartCharacter xs) (fun s => s.island.console.inBreak = false ∧ s.island.low = false)
    (fun s => modIsland (fun x => { x with console := countConsole 1 s.island.console }) s)) ∧
  (∀ xs, lineMajority xs 7 = false → lineMajority xs 151 = true →
    DoesWhen (.uartCharacter xs) (fun s => s.island.console.inBreak = false ∧ s.island.low = false)
      (takeCharacter (BitVec.ofNat 8
        (maskOf (fun k => ((List.range 8).map (fun j => lineMajority xs (16 * (j + 1) + 7))).getD k false) 8)))) ∧
  (∀ xs, lineMajority xs 7 = false → lineMajority xs 151 = false →
    DoesWhen (.uartCharacter xs) (fun s => s.island.console.inBreak = false ∧ s.island.low = false)
      (fun s => modIsland (fun x => { x with console :=
        if ((List.range 8).map (fun j => lineMajority xs (16 * (j + 1) + 7))).any id then countConsole 2 s.island.console
        else { countConsole 3 (countConsole 2 s.island.console) with inBreak := true } }) s)) ∧
  (Does .uartBreakEnd (modIsland (fun x => { x with console := { x.console with inBreak := false } })))
/-! ### Power, the Curtain and start-up -/

/-- Zordin's cores lose power: POWER_STATE ends with OK and its target, every other command with ABORTED (R515, R538). -/
def Sys2Proof.Machine.coresOff (s : State) : State :=
  let u := endLongs (fun _ => true) .aborted [] (endLongs (fun k => k == .powerState) .ok [3] s)
  let v := abortOutstanding .pf0 u.zordin.pf0.outstanding u
  let w := abortOutstanding .pf1 v.zordin.pf1.outstanding v
  let z := abortOutstanding .sideband w.zordin.sb.outstanding w
  { z with start := { z.start with running := false }, zordin := { z.zordin with sched := schedulerReset } }

/-- Power states, wakes, gates, the triggers and the Curtain (R381, R513 to R518, R527 to R536). Each clause gives the conditions and the
whole next state as the model has it. Assumptions 28 and 60 to 62 are the model's. -/
def Obligations.PowerEventsComplete : Prop :=
  (DoesWhen .wakeN (fun s => s.power.state = .standby ∨ s.power.state = .dormant) (fun s => wake 1 (wakeIsland s))) ∧
  (DoesWhen .wakeN (fun s => s.power.state ≠ .standby ∧ s.power.state ≠ .dormant) id) ∧
  (TimesOut .islandTimerWake (fun s => s.power.wakeAt)
    (fun s => wake 3 (wakeIsland (modPower (fun p => { p with wakeAt := none }) s)))) ∧
  (Does .vinFail (fun s => trigger 1 (modPower (fun p => { p with
    vin := false, vinGood := false, store := { p.store with charging := false } }) s))) ∧
  (Does .pwrfailN (fun s => trigger 2 (modPower (fun p => { p with vinGood := false }) { s with pins := { s.pins with pwrfailN := false } }))) ∧
  (∀ c : Instr, c = .auxLoss ∨ c = .lossOfAux →
    DoesWhen c (fun s => s.power.state ≠ .standby ∧ (c = .lossOfAux → s.power.vin = true))
      (fun s => trigger 4 (modPower (fun p => { p with aux := false }) s)) ∧
    DoesWhen c (fun s => s.power.state = .standby ∧ s.start.vinGoodAt = none ∧ s.start.railsUp = false ∧ (c = .lossOfAux → s.power.vin = true))
      (fun s =>
        let u := modPower (fun p => { p with aux := false }) s
        { u with pins := { u.pins with retained := false, pcieRetained := false } }) ∧
    DoesWhen c
      (fun s => s.power.state = .standby ∧ (s.start.vinGoodAt ≠ none ∨ s.start.railsUp = true) ∧ (c = .lossOfAux → s.power.vin = true))
      (fun s =>
        let u := enterStandby (modPower (fun p => { p with aux := false }) s)
        { u with pins := { u.pins with retained := false, pcieRetained := false } })) ∧
  (DoesWhen .lossOfAux (fun s => s.power.vin = false)
    (fun s =>
      let u := modPower (fun p => { p with aux := false }) s
      { u with pins := { u.pins with retained := false, pcieRetained := false } })) ∧
  (∀ n, Does (.coreWait n) (fun s => { s with zordin := { s.zordin with sched := { s.zordin.sched with
    cores := s.zordin.sched.cores.modify n (fun c => { c with waiting := true }) } } })) ∧
  (∀ t, DoesWhen .corePowerOff
    (fun s => s.power.transition = some t ∧ t.target = 3 ∧ s.start.running = true ∧ s.zordin.sched.cores.all (fun c => c.waiting) = true)
    coresOff) ∧
  (∀ t, DoesWhen .corePowerOff
    (fun s => s.power.transition = some t ∧ t.target = 3 ∧ s.start.running = true ∧ s.zordin.sched.cores.all (fun c => c.waiting) = false)
    (fun s => coresOff (advanceTo (t.since + 10 * msCc) s))) ∧
  (∀ t, DoesWhen .corePowerOff (fun s => s.power.transition = some t ∧ (t.target ≠ 3 ∨ s.start.running = false)) id) ∧
  (DoesWhen .corePowerOff (fun s => s.power.transition = none) id) ∧
  (∀ t, DoesWhen .powerTransitionDone
    (fun s => s.power.transition = some t ∧ s.power.state = .standby ∧ s.start.running = true ∧ t.target = 0)
    (fun s => endLongs (fun k => k == .powerState) .ok [0] (reachTarget 0 s))) ∧
  (∀ t, DoesWhen .powerTransitionDone
    (fun s => s.power.transition = some t ∧ s.power.state = .standby ∧ s.start.running = true ∧ t.target ≠ 0)
    (fun s => beginTransition t.target (modPower (fun p => { p with state := .run }) s))) ∧
  (∀ t, ∀ s, s.power.transition = some t → s.power.state ≠ .standby →
    let held := holdPlanes s
    let u := if t.gaveUp || t.target = 3 then held else closeForIsland (targetGates t.target held) held
    (u.power.transition.any (fun t => !t.waiting.isEmpty) || (t.target == 3 && u.start.running)) = false →
    exec .powerTransitionDone s = .next (endLongs (fun k => k == .powerState) .ok [wordOf t.target] (reachTarget t.target u))) ∧
  (∀ t, DoesWhen .powerDeferred (fun s => s.power.transition = some t ∧ t.waiting.isEmpty = false)
    (fun s => modPower (fun p => { p with transition := some { t with waiting := [], gaveUp := true } })
      (countPower 7 1 (tellDeferred t.waiting (advanceTo (t.since + 100 * msCc) s))))) ∧
  (DoesWhen .powerDeferred (fun s => s.power.transition = none) id) ∧
  (TimesOut .powerStateTimeout (fun s => s.power.transition.map (fun t => t.since + 10 * secCc))
    (endLongs (fun k => k == .powerState) .timeout [])) ∧
  (∀ g, DoesWhen (.gateRelease g) (fun s => tabGet none s.sec.deferred g = none)
    (fun s => { s with sec := { s.sec with owned := s.sec.owned.filter (fun k => k != g) } })) ∧
  (∀ g c, DoesWhen (.gateRelease g) (fun s => tabGet none s.sec.deferred g = some c)
    (fun s =>
      let u := { s with sec := { s.sec with owned := s.sec.owned.filter (fun k => k != g) } }
      raise 0x0A09 1927 .info 0 0 (modPower (fun p => { p with transition := p.transition.map (fun t =>
        { t with waiting := t.waiting.filter (fun k => k != g) }) })
        (carryGate (s.power.gateReq.contains g) c g (recordGate g none false u))))) ∧
  (∀ c t, DoesWhen .curtainStart (fun s => s.power.trigger = some (c, t) ∧ s.power.state ≠ .dormant)
    (fun s => beginCurtain c t (advanceTo (t + 2 * usCc) s))) ∧
  (∀ c t, DoesWhen .curtainStart (fun s => s.power.trigger = some (c, t) ∧ s.power.state = .dormant)
    (fun s => enterStandby (endLongs (fun k => k == .powerState) .aborted [] s))) ∧
  (DoesWhen .curtainStart (fun s => s.power.trigger = none) id) ∧
  (∀ c, DoesWhen .curtainStop (fun s => s.power.curtain = some c)
    (fun s =>
      let n := s.power.counters
      let u := raise 0x0F0F 1990 .major 0 (pack [(0, min (n.getD 2 0) 65535), (16, min (n.getD 4 0) 65535)]) s
      heldResets s.power.resetHeld s.start.pendingReset
        (modPower (fun p => { p with startWanted := if c.cause = 3 then none else some 4 }) (flushBlackBox (enterStandby u))))) ∧
  (DoesWhen .curtainStop (fun s => s.power.curtain = none) id)

/-- The lasers, the demultiplexers, the thermal watches, the store and its gauge (R519 to R528). Each clause gives the conditions and the
whole next state as the model has it. Assumptions 28, 63 and 64 are the model's. -/
def Obligations.ThermalAndStoreEventsComplete : Prop :=
  (∀ x, DoesWhen (.laserHeaterFault x) (fun s => s.power.heaterFault.contains x = false)
    (fun s => hold 0x0F09 1987 .minor 0 (wordOf x) (modPower (fun p => { p with heaterFault := s.power.heaterFault ++ [x] }) s))) ∧
  (∀ x, Does (.laserHeaterFaultClear x) (fun s =>
    let u := modPower (fun p => { p with heaterFault := p.heaterFault.filter (fun y => y != x) }) s
    if u.power.heaterFault.isEmpty then clear 0x0F09 1987 0 (wordOf x) u else u)) ∧
  (∀ p, Does (.demuxSettled p) (fun s => tryWaitWindow p (modDemux p (fun _ => ⟨true, true⟩) s))) ∧
  (∀ p, DoesWhen (.demuxUnsettled p) (fun s => (demuxOf p s).settledOnce = true)
    (fun s => hold 0x0F0A 1988 .major 0 (wordOf p) (modDemux p (fun d => { d with settled := false }) s))) ∧
  (∀ p, DoesWhen (.demuxUnsettled p) (fun s => (demuxOf p s).settledOnce = false) id) ∧
  (∀ p, Does (.demuxSettledAgain p) (fun s =>
    let u := modDemux p (fun d => { d with settled := d.settledOnce }) s
    if u.power.demux.all (fun d => d.settled || !d.settledOnce) then clear 0x0F0A 1988 0 (wordOf p) u else u)) ∧
  (∀ d t, DoesWhen (.coolantCondition d)
    (fun s => ((useCoolant d s).power.watches.zipIdx.filterMap (fun e => watchDue e.2 e.1)).min? = some t)
    (fun s => forEach applyWatch [0, 1, 2, 3] (advanceTo t (useCoolant d s)))) ∧
  (∀ d, DoesWhen (.coolantCondition d)
    (fun s => ((useCoolant d s).power.watches.zipIdx.filterMap (fun e => watchDue e.2 e.1)).min? = none) (useCoolant d)) ∧
  (∀ rs, DoesWhen (.junctionHigh rs) (fun s => (hottest (readJunctions rs s).power.junctions).1 ≤ 10000) (readJunctions rs)) ∧
  (∀ rs, DoesWhen (.junctionHigh rs) (fun s => 10000 < (hottest (readJunctions rs s).power.junctions).1)
    (fun s =>
      let u := readJunctions rs s
      hold 0x0F07 1986 .major 0 (wordOf (hottest u.power.junctions).2) (modPower (fun p => { p with junctionHigh := true }) u))) ∧
  (∀ rs, DoesWhen (.junctionHighClear rs) (fun s => ∀ j ∈ (readJunctions rs s).power.junctions, j ≤ 9700)
    (fun s => clear 0x0F07 1986 0 0 (modPower (fun p => { p with junctionHigh := false }) (readJunctions rs s)))) ∧
  (∀ rs, DoesWhen (.thermalStop rs) (fun s => (hottest (readJunctions rs s).power.junctions).1 ≤ 10500) (readJunctions rs)) ∧
  (∀ rs, DoesWhen (.thermalStop rs) (fun s => 10500 < (hottest (readJunctions rs s).power.junctions).1)
    (fun s => trigger 3 (raise 0x0F08 1986 .critical 0 0 (countPower 1 1 (readJunctions rs s))))) ∧
  (DoesWhen .chargeStart
    (fun s => (s.power.state = .run ∨ s.power.state = .quiet ∨ s.power.state = .dormant ∨ s.start.railsUp = true) ∧
      s.power.vin = true ∧ s.power.trigger = none ∧ s.power.curtain = none)
    (fun s => modStore (fun g => { g with charging := true, chargeAt := s.clock.now, failed := false, checked := false }) s)) ∧
  (DoesWhen .chargeStart
    (fun s => s.power.vin = false ∨ s.power.trigger.isSome = true ∨ s.power.curtain.isSome = true) id) ∧
  (∀ dq, DoesWhen (.capacitanceMeasure dq) (fun s => s.power.store.charging = false) id) ∧
  (∀ dq : Nat, ∀ s, s.power.store.charging = true →
    let g := s.power.store
    let learn := if g.measured then ((g.cLearn : Int) + (((dq / 1500 : Nat) : Int) - g.cLearn) / 4).toNat else dq / 1500
    let missing := decide (s.clock.now ≤ g.chargeAt + 10 * msCc ∨ dq / 1500 < 5000000)
    let u := modStore (fun g => { g with cLearn := learn, measured := true, checked := true, failed := missing }) s
    let v := if missing then setMissing true u else u
    exec (.capacitanceMeasure dq) s = .next (if capacitanceOk v then v else setStoreFault true v)) ∧
  (DoesWhen .chargeComplete (fun s => s.power.store.charging = false) id) ∧
  (∀ s, s.power.store.charging = true →
    let g := s.power.store
    let u := modStore (fun g => { g with charging := false }) s
    let v := if g.checked && !g.failed then setMissing false u else u
    exec .chargeComplete s = .next (if capacitanceOk v && !g.failed then setStoreFault false v else v)) ∧
  (DoesWhen .chargeTimeout (fun s => s.power.store.charging = true)
    (fun s => setStoreFault true (modStore (fun g => { g with failed := true }) (advanceTo (s.power.store.chargeAt + 2 * secCc) s)))) ∧
  (DoesWhen .chargeTimeout (fun s => s.power.store.charging = false) id) ∧
  (DoesWhen .gaugeReanchor (fun s => s.power.curtain = none ∧ s.power.store.current.natAbs < 20)
    (fun s => countPower 8 1 (modStore (fun g => { g with charge := gaugeC s * gaugeV g / 1000 }) s))) ∧
  (DoesWhen .gaugeReanchor (fun s => s.power.curtain.isSome = true ∨ 20 ≤ s.power.store.current.natAbs) id) ∧
  (DoesWhen .gaugeSkew (fun s => 15 * energyFull s < 100 * gaugeGap s)
    (fun s => hold 0x0F0D 1989 .minor 0 0 (modStore (fun g => { g with skew := true }) s))) ∧
  (DoesWhen .gaugeSkew (fun s => 100 * gaugeGap s ≤ 15 * energyFull s) id) ∧
  (DoesWhen .gaugeSkewClear (fun s => 10 * gaugeGap s < energyFull s)
    (fun s => clear 0x0F0D 1989 0 0 (modStore (fun g => { g with skew := false }) s))) ∧
  (DoesWhen .gaugeSkewClear (fun s => energyFull s ≤ 10 * gaugeGap s) id)
/-- Start-up, the resets and the boot (R537, R539 to R548, R551): supplies, straps and rails, every reset with its cause, the choice of an
image, the start of Zordin, the lock to the reference and the training of an HBM stack. Each clause gives the conditions and the whole next
state as the model has it. Assumptions 14, 28, 35, 65, 66, 68, 69, 99, 103, 106 and 113 are the model's. -/
def Obligations.StartEventsComplete : Prop :=
  (Does .vinGood (fun s => tryStart (modPower (fun p => { p with vin := true, vinGood := true })
    { s with pins := { s.pins with pwrfailN := true } }))) ∧
  (DoesWhen .railUp (fun s => s.start.vinGoodAt.isSome = true ∧ s.start.railsUp = false)
    (fun s =>
      let u := modStart (fun u => { u with railsUp := true }) s
      let v := { u with pins := { u.pins with pcieRetained := false } }
      let tiles := (List.range 8).foldl (fun t k => tabMod tileReset t k (fun x =>
        if x.phase = .failed then x
        else { x with phase := if x.record then .retrain else .running, attempts := 0, tryFrom := s.clock.now })) v.ev.tiles
      powerCueLanes (openForIsland 0 (tellTiles { v with ev := { v.ev with tiles := tiles } })))) ∧
  (DoesWhen .railUp (fun s => s.start.vinGoodAt = none ∨ s.start.railsUp = true) id) ∧
  (∀ reads r, strapSets 9 reads = some r → Does (.strapSample reads) (fun s =>
    tryStart (clear 0x0101 1922 0 0 { s with pins := { s.pins with slotId := r.1 % 64, mfgTest := r.2, strapFault := false, strapped := true } }))) ∧
  (∀ reads r, strapSets 9 reads = none → (reads.take 27).getLast? = some r → Does (.strapSample reads) (fun s =>
    tryStart (hold 0x0101 1922 .major 0 0 { s with pins := { s.pins with slotId := r.1 % 64, mfgTest := r.2, strapFault := true, strapped := true } }))) ∧
  (DoesWhen .powerOnReset (fun s => s.power.lastCause = 4 ∧ s.power.aux = false) (resetModule true .curtainAux)) ∧
  (DoesWhen .powerOnReset (fun s => s.power.lastCause ≠ 4 ∨ s.power.aux = true) (resetModule true .powerOn)) ∧
  (DoesWhen .resetN (fun s => s.power.curtain = none)
    (fun s => resetModule true .resetN { s with pins := { s.pins with resetN := false } })) ∧
  (DoesWhen .resetN (fun s => s.power.curtain.isSome = true)
    (fun s => modPower (fun p => { p with resetHeld := true }) { s with pins := { s.pins with resetN := false } })) ∧
  (Does .resetNRelease (fun s => modPower (fun p => { p with resetHeld := false }) { s with pins := { s.pins with resetN := true } })) ∧
  (Does .warmReset (warmReset .resetWarm)) ∧
  (∀ n, Does (.watchdogReset n) (fun s => raise 0x1004 1992 .major 0 (wordOf n) (warmReset .watchdog s))) ∧
  (Does .brownOutReset (fun s =>
    let u := modIsland (fun x => { x with
      low := false, modeReq := 0, bor := true, borCount := satAdd 16 x.borCount 1, waiting := false, wakePending := false,
      inForce := x.cfg, chain := chainReset, channels := tabMap sensorChannelReset (fun _ c => { c with fifo := [] }) x.channels,
      console := { consoleReset with counters := x.console.counters } }) s
    let v := modSb (fun b => { b with
      partialReq := none, requests := [], outstanding := [], responses := [], rspFragment := 0, heldRsp := [],
      ntfs := [], rejected := false }) (dropLongs .sideband u)
    raise 0x0E07 1991 .major 0 (wordOf v.island.borCount) v)) ∧
  (∀ f, Does (.flr f) (flrFunction f)) ∧
  (DoesWhen (.perstN false) (fun s => s.pins.pcieRetained = false)
    (fun s => flrFunction 1 (flrFunction 0 { s with pins := { s.pins with perstN := false } }))) ∧
  (DoesWhen (.perstN false) (fun s => s.pins.pcieRetained = true) (fun s => { s with pins := { s.pins with perstN := false } })) ∧
  (Does (.perstN true) (fun s => { s with pins := { s.pins with perstN := true } })) ∧
  (∀ a b x y, Does (.imageChoice a b x y) (fun s =>
    let u := if x then mramUncorrectable (modStart (fun u => { u with recA := { u.recA with valid := false } }) s) else s
    let v := trialStep (if y then mramUncorrectable (modStart (fun u => { u with recB := { u.recB with valid := false } }) u) else u)
    chooseImage (fun i => if i = 0 then a else b) [(bootRecord v.start).preferred, 1 - (bootRecord v.start).preferred] v)) ∧
  (Does (.strongroomVerify false) (modStart (fun u => { u with strongroomOk := false }))) ∧
  (Does (.strongroomVerify true) (fun s => startEntropy (modStart (fun u => { u with strongroomOk := true }) s))) ∧
  (∀ n lost bad, DoesWhen (.zordinRunning n lost bad)
    (fun s => s.start.running = false ∧ s.start.recovery = false ∧ s.start.image.isSome = true ∧ s.start.strongroomOk = true ∧
      s.start.railsUp = true ∧ s.pins.mfgTest = false)
    (fun s =>
      let u := modStart (fun u => { u with
        running := true, coresAt := some s.clock.now, tZordin := (s.clock.now - s.start.vinGoodAt.getD s.clock.now) / msCc }) s
      let v := reevaluate { u with pins := { u.pins with pcieReleased := true } }
      autoJoin (tellGateStuck (startPorts (restartQuarantines (loseItems lost (loseWords bad (mramCorrected n v)))))))) ∧
  (∀ n lost bad, DoesWhen (.zordinRunning n lost bad)
    (fun s => s.start.running = true ∨ s.start.recovery = true ∨ s.start.image = none ∨ s.start.strongroomOk = false ∨
      s.start.railsUp = false ∨ s.pins.mfgTest = true) id) ∧
  (DoesWhen .syncLock (fun s => s.cue.root.phase = .syncAcq)
    (fun s => autoJoin (clear 0x1001 1992 0 0 { s with
      cue := { s.cue with root := { s.cue.root with phase := .syncHeld } }, pins := { s.pins with syncRef := true } }))) ∧
  (DoesWhen .syncLock (fun s => s.cue.root.phase ≠ .syncAcq) id) ∧
  (∀ t, DoesWhen .syncRefAbsent (fun s => s.start.coresAt = some t ∧ s.cue.root.phase = .syncAcq)
    (fun s => hold 0x1001 1992 .major 0 0 (advanceTo (t + secCc) { s with pins := { s.pins with syncRef := false } }))) ∧
  (DoesWhen .syncRefAbsent (fun s => s.start.coresAt = none ∨ s.cue.root.phase ≠ .syncAcq) id) ∧
  (∀ k ok, DoesWhen (.hbmTraining k ok)
    (fun s =>
      let h := s.start.hbm.getD k hbmStackReset
      s.cue.root.phase ≠ .syncAcq ∧ h.trained = false ∧ h.retired = false ∧ h.attempts < 3 ∧ (ok = true ∨ h.attempts < 2))
    (fun s => modStart (fun u => { u with hbm := u.hbm.modify k (fun h => { h with
      attempts := h.attempts + 1, trained := ok }) }) s)) ∧
  (∀ k, ∀ s,
    let h := s.start.hbm.getD k hbmStackReset
    s.cue.root.phase ≠ .syncAcq → h.trained = false → h.retired = false → h.attempts = 2 →
    exec (.hbmTraining k false) s = exec (.hbmRetired k) (raise 0x1002 1992 .major 0 (wordOf k)
      (modStart (fun u => { u with hbm := u.hbm.modify k (fun h => { h with attempts := h.attempts + 1, trained := false }) }) s))) ∧
  (∀ ok, DoesWhen (.fwVerifyDone ok) (fun s => s.start.verifying = false) id) ∧
  (∀ ok, DoesWhen (.fwVerifyDone ok)
    (fun s => s.start.verifying = true ∧
      imageFault (imageOf (inactiveImage s) (modStart (fun u => { u with verifying := false }) s)) ok (rollbackCounter s.sec) = none)
    (fun s => endLongs (fun k => k == .fwVerify) .ok [0]
      (modStart (modImage (inactiveImage s) (fun x => { x with verified := true })) (modStart (fun u => { u with verifying := false }) s)))) ∧
  (∀ ok r, DoesWhen (.fwVerifyDone ok)
    (fun s => s.start.verifying = true ∧
      imageFault (imageOf (inactiveImage s) (modStart (fun u => { u with verifying := false }) s)) ok (rollbackCounter s.sec) = some r)
    (fun s => endLongs (fun k => k == .fwVerify) .conflict [wordOf r] (modStart (fun u => { u with verifying := false }) s)))
/-! ### The scheduler -/

/-- A new task joins the core with the fewest ready tasks at or above its level, the lowest-numbered among equals, behind the tasks of its
level and above; every other core's queue stays (R447, R448). -/
def Obligations.NewTasksJoinTheLeastLoadedCore : Prop :=
  ∀ level id s, s.zordin.sched.cores ≠ [] →
    let core := fun u k => (State.zordin u).sched.cores.getD k coreQueueReset
    let t := createTask level id s
    ∃ i, i < s.zordin.sched.cores.length ∧
      (∀ k, k < s.zordin.sched.cores.length → readyAbove level (core s i) ≤ readyAbove level (core s k)) ∧
      (∀ k, k < i → readyAbove level (core s i) < readyAbove level (core s k)) ∧
      (core t i).ready = (core s i).ready.takeWhile (fun u => level ≤ u.level) ++
        ⟨level, id, s.clock.now⟩ :: (core s i).ready.dropWhile (fun u => level ≤ u.level) ∧
      ∀ k, k ≠ i → core t k = core s k

/-! ### What a host sees of its mailbox -/

/-- What a host reads back after it has written to its mailbox (R424, R426, R8, R10): EN from 0 to 1 leaves every index at 0; a producer
index of at most 32 filled slots and a consumer index of written entries are stored, and any other leaves its register and sets PI_BAD or
CI_BAD; a ring base is written while EN is 0 and stays while EN is 1; a write to a read-only register or to an address of no register
changes nothing; a command taken moves CMD_CI by one; and a quarantine that has ended leaves its index free at the same generation (R15,
R439). -/
def Obligations.HostWritesReadBack : Prop :=
  (∀ f s, f < 2 → (funcBox f s).en = false → ∃ t, exec (.mboxEnable f) s = .next t ∧ bitOf (readRegister f 0x00 t) 0 = true ∧
    ∀ o ∈ [0x20, 0x24, 0x28, 0x2C, 0x30, 0x34], readRegister f o t = 0) ∧
  (∀ f s, f < 2 → (funcBox f s).en = true → exec (.mboxEnable f) s = .next s) ∧
  (∀ f v s, f < 2 → (v.toNat % 64 + 64 - (funcBox f s).cmdCi) % 64 ≤ 32 →
    ∃ t, exec (.mboxCmdPi f v) s = .next t ∧ readRegister f 0x20 t = wordOf (v.toNat % 64)) ∧
  (∀ f v s, f < 2 → 32 < (v.toNat % 64 + 64 - (funcBox f s).cmdCi) % 64 →
    ∃ t, exec (.mboxCmdPi f v) s = .next t ∧ readRegister f 0x20 t = readRegister f 0x20 s ∧ bitOf (readRegister f 0x38 t) 1 = true) ∧
  (∀ f v s, f < 2 → consumerValid 64 (v.toNat % 128) (funcBox f s).rspCi (funcBox f s).rspPi = true →
    ∃ t, exec (.mboxRspCi f v) s = .next t ∧ readRegister f 0x2C t = wordOf (v.toNat % 128)) ∧
  (∀ f v s, f < 2 → consumerValid 64 (v.toNat % 128) (funcBox f s).rspCi (funcBox f s).rspPi = false →
    ∃ t, exec (.mboxRspCi f v) s = .next t ∧ readRegister f 0x2C t = readRegister f 0x2C s ∧ bitOf (readRegister f 0x38 t) 3 = true) ∧
  (∀ f v s, f < 2 → consumerValid 256 (v.toNat % 512) (funcBox f s).ntfCi (funcBox f s).ntfPi = true →
    ∃ t, exec (.mboxNtfCi f v) s = .next t ∧ readRegister f 0x34 t = wordOf (v.toNat % 512)) ∧
  (∀ f v s, f < 2 → consumerValid 256 (v.toNat % 512) (funcBox f s).ntfCi (funcBox f s).ntfPi = false →
    ∃ t, exec (.mboxNtfCi f v) s = .next t ∧ readRegister f 0x34 t = readRegister f 0x34 s ∧ bitOf (readRegister f 0x38 t) 3 = true) ∧
  (∀ f o v s, f < 2 → o ∈ [0x8, 0x10, 0x18] → (funcBox f s).en = false →
    ∃ t, exec (.registerWrite f o v) s = .next t ∧ readRegister f o t = wordOf (v.toNat / 4096 * 4096)) ∧
  (∀ f o v s, f < 2 → o ∈ [0xC, 0x14, 0x1C] → (funcBox f s).en = false →
    ∃ t, exec (.registerWrite f o v) s = .next t ∧ readRegister f o t = v) ∧
  (∀ f o v s, f < 2 → o ∈ [0x8, 0xC, 0x10, 0x14, 0x18, 0x1C] → (funcBox f s).en = true → exec (.registerWrite f o v) s = .next s) ∧
  (∀ f o v s, f < 2 → o ∈ [0x4, 0x24, 0x28, 0x30] ∨ (0x3C ≤ o ∧ o < 0x10000) ∨ (0x20000 ≤ o ∧ o < 0x31000) ∨ 0x80000 ≤ o →
    exec (.registerWrite f o v) s = .next s) ∧
  (∀ f slot s, f < 2 → canTake f s →
    ∃ t, exec (.commandTake (funcSource f) slot) s = .next t ∧ readRegister f 0x24 t = wordOf (((funcBox f s).cmdCi + 1) % 64)) ∧
  (∀ slot s r rs, s.zordin.sb.requests = r :: rs → s.zordin.sb.heldRsp = [] → s.zordin.sb.outstanding.length < 4 →
    ∃ t, exec (.commandTake .sideband slot) s = .next t ∧ t.zordin.sb.requests = rs) ∧
  (∀ ty ix s, soundChans s.chans → (chanSlot ty ix s).quarantined = true →
    ∃ t, exec (.quarantineExpiry ty ix) s = .next t ∧ (chanSlot ty ix t).quarantined = false ∧
      (chanSlot ty ix t).live = (chanSlot ty ix s).live ∧ (chanSlot ty ix t).gen = (chanSlot ty ix s).gen)
end

