-- ==== Sys2Proof/Laws/State.lean ====
section
/-! SUPPORT. What the updates of one part of the state leave of the others: one lemma for each field and update. -/

set_option Elab.async false

namespace Sys2Proof.Machine

@[simp] theorem setFunc_pending (f : Nat) (b : FuncBox) (s : State) : (setFunc f b s).pending = s.pending := by
  unfold setFunc; split <;> rfl
@[simp] theorem setFunc_clock (f : Nat) (b : FuncBox) (s : State) : (setFunc f b s).clock = s.clock := by
  unfold setFunc; split <;> rfl
@[simp] theorem setFunc_pins (f : Nat) (b : FuncBox) (s : State) : (setFunc f b s).pins = s.pins := by
  unfold setFunc; split <;> rfl
@[simp] theorem setFunc_chans (f : Nat) (b : FuncBox) (s : State) : (setFunc f b s).chans = s.chans := by
  unfold setFunc; split <;> rfl
@[simp] theorem setFunc_ev (f : Nat) (b : FuncBox) (s : State) : (setFunc f b s).ev = s.ev := by
  unfold setFunc; split <;> rfl
@[simp] theorem setFunc_start (f : Nat) (b : FuncBox) (s : State) : (setFunc f b s).start = s.start := by
  unfold setFunc; split <;> rfl
@[simp] theorem setFunc_cue (f : Nat) (b : FuncBox) (s : State) : (setFunc f b s).cue = s.cue := by
  unfold setFunc; split <;> rfl
@[simp] theorem setFunc_join (f : Nat) (b : FuncBox) (s : State) : (setFunc f b s).join = s.join := by
  unfold setFunc; split <;> rfl
@[simp] theorem setFunc_grants (f : Nat) (b : FuncBox) (s : State) : (setFunc f b s).grants = s.grants := by
  unfold setFunc; split <;> rfl
@[simp] theorem setFunc_tx (f : Nat) (b : FuncBox) (s : State) : (setFunc f b s).tx = s.tx := by
  unfold setFunc; split <;> rfl
@[simp] theorem setFunc_rx (f : Nat) (b : FuncBox) (s : State) : (setFunc f b s).rx = s.rx := by
  unfold setFunc; split <;> rfl
@[simp] theorem setFunc_express (f : Nat) (b : FuncBox) (s : State) : (setFunc f b s).express = s.express := by
  unfold setFunc; split <;> rfl
@[simp] theorem setFunc_power (f : Nat) (b : FuncBox) (s : State) : (setFunc f b s).power = s.power := by
  unfold setFunc; split <;> rfl
@[simp] theorem setFunc_island (f : Nat) (b : FuncBox) (s : State) : (setFunc f b s).island = s.island := by
  unfold setFunc; split <;> rfl
@[simp] theorem setFunc_sec (f : Nat) (b : FuncBox) (s : State) : (setFunc f b s).sec = s.sec := by
  unfold setFunc; split <;> rfl
@[simp] theorem setFunc_ports (f : Nat) (b : FuncBox) (s : State) : (setFunc f b s).ports = s.ports := by
  unfold setFunc; split <;> rfl
@[simp] theorem setFunc_queues (f : Nat) (b : FuncBox) (s : State) : (setFunc f b s).queues = s.queues := by
  unfold setFunc; split <;> rfl
@[simp] theorem setFunc_hq (f : Nat) (b : FuncBox) (s : State) : (setFunc f b s).hq = s.hq := by
  unfold setFunc; split <;> rfl
@[simp] theorem setFunc_time (f : Nat) (b : FuncBox) (s : State) : (setFunc f b s).time = s.time := by
  unfold setFunc; split <;> rfl
@[simp] theorem setFunc_serial (f : Nat) (b : FuncBox) (s : State) : (setFunc f b s).serial = s.serial := by
  unfold setFunc; split <;> rfl
@[simp] theorem setFunc_certLen (f : Nat) (b : FuncBox) (s : State) : (setFunc f b s).certLen = s.certLen := by
  unfold setFunc; split <;> rfl
@[simp] theorem setFunc_hostMem (f : Nat) (b : FuncBox) (s : State) : (setFunc f b s).hostMem = s.hostMem := by
  unfold setFunc; split <;> rfl
@[simp] theorem setFunc_readBack (f : Nat) (b : FuncBox) (s : State) : (setFunc f b s).readBack = s.readBack := by
  unfold setFunc; split <;> rfl
@[simp] theorem setFunc_free (f : Nat) (b : FuncBox) (s : State) : (setFunc f b s).free = s.free := by
  unfold setFunc; split <;> rfl

@[simp] theorem modFunc_pending (f : Nat) (g : FuncBox → FuncBox) (s : State) : (modFunc f g s).pending = s.pending :=
  setFunc_pending _ _ _
@[simp] theorem modFunc_clock (f : Nat) (g : FuncBox → FuncBox) (s : State) : (modFunc f g s).clock = s.clock :=
  setFunc_clock _ _ _
@[simp] theorem modFunc_pins (f : Nat) (g : FuncBox → FuncBox) (s : State) : (modFunc f g s).pins = s.pins :=
  setFunc_pins _ _ _
@[simp] theorem modFunc_chans (f : Nat) (g : FuncBox → FuncBox) (s : State) : (modFunc f g s).chans = s.chans :=
  setFunc_chans _ _ _
@[simp] theorem modFunc_ev (f : Nat) (g : FuncBox → FuncBox) (s : State) : (modFunc f g s).ev = s.ev :=
  setFunc_ev _ _ _
@[simp] theorem modFunc_start (f : Nat) (g : FuncBox → FuncBox) (s : State) : (modFunc f g s).start = s.start :=
  setFunc_start _ _ _
@[simp] theorem modFunc_cue (f : Nat) (g : FuncBox → FuncBox) (s : State) : (modFunc f g s).cue = s.cue :=
  setFunc_cue _ _ _
@[simp] theorem modFunc_join (f : Nat) (g : FuncBox → FuncBox) (s : State) : (modFunc f g s).join = s.join :=
  setFunc_join _ _ _
@[simp] theorem modFunc_grants (f : Nat) (g : FuncBox → FuncBox) (s : State) : (modFunc f g s).grants = s.grants :=
  setFunc_grants _ _ _
@[simp] theorem modFunc_tx (f : Nat) (g : FuncBox → FuncBox) (s : State) : (modFunc f g s).tx = s.tx :=
  setFunc_tx _ _ _
@[simp] theorem modFunc_rx (f : Nat) (g : FuncBox → FuncBox) (s : State) : (modFunc f g s).rx = s.rx :=
  setFunc_rx _ _ _
@[simp] theorem modFunc_express (f : Nat) (g : FuncBox → FuncBox) (s : State) : (modFunc f g s).express = s.express :=
  setFunc_express _ _ _
@[simp] theorem modFunc_power (f : Nat) (g : FuncBox → FuncBox) (s : State) : (modFunc f g s).power = s.power :=
  setFunc_power _ _ _
@[simp] theorem modFunc_island (f : Nat) (g : FuncBox → FuncBox) (s : State) : (modFunc f g s).island = s.island :=
  setFunc_island _ _ _
@[simp] theorem modFunc_sec (f : Nat) (g : FuncBox → FuncBox) (s : State) : (modFunc f g s).sec = s.sec :=
  setFunc_sec _ _ _
@[simp] theorem modFunc_ports (f : Nat) (g : FuncBox → FuncBox) (s : State) : (modFunc f g s).ports = s.ports :=
  setFunc_ports _ _ _
@[simp] theorem modFunc_queues (f : Nat) (g : FuncBox → FuncBox) (s : State) : (modFunc f g s).queues = s.queues :=
  setFunc_queues _ _ _
@[simp] theorem modFunc_hq (f : Nat) (g : FuncBox → FuncBox) (s : State) : (modFunc f g s).hq = s.hq :=
  setFunc_hq _ _ _
@[simp] theorem modFunc_time (f : Nat) (g : FuncBox → FuncBox) (s : State) : (modFunc f g s).time = s.time :=
  setFunc_time _ _ _
@[simp] theorem modFunc_serial (f : Nat) (g : FuncBox → FuncBox) (s : State) : (modFunc f g s).serial = s.serial :=
  setFunc_serial _ _ _
@[simp] theorem modFunc_certLen (f : Nat) (g : FuncBox → FuncBox) (s : State) : (modFunc f g s).certLen = s.certLen :=
  setFunc_certLen _ _ _
@[simp] theorem modFunc_hostMem (f : Nat) (g : FuncBox → FuncBox) (s : State) : (modFunc f g s).hostMem = s.hostMem :=
  setFunc_hostMem _ _ _
@[simp] theorem modFunc_readBack (f : Nat) (g : FuncBox → FuncBox) (s : State) : (modFunc f g s).readBack = s.readBack :=
  setFunc_readBack _ _ _
@[simp] theorem modFunc_free (f : Nat) (g : FuncBox → FuncBox) (s : State) : (modFunc f g s).free = s.free :=
  setFunc_free _ _ _

@[simp] theorem modSb_pending (g : SidebandBox → SidebandBox) (s : State) : (modSb g s).pending = s.pending := rfl
@[simp] theorem modSb_clock (g : SidebandBox → SidebandBox) (s : State) : (modSb g s).clock = s.clock := rfl
@[simp] theorem modSb_pins (g : SidebandBox → SidebandBox) (s : State) : (modSb g s).pins = s.pins := rfl
@[simp] theorem modSb_chans (g : SidebandBox → SidebandBox) (s : State) : (modSb g s).chans = s.chans := rfl
@[simp] theorem modSb_ev (g : SidebandBox → SidebandBox) (s : State) : (modSb g s).ev = s.ev := rfl
@[simp] theorem modSb_start (g : SidebandBox → SidebandBox) (s : State) : (modSb g s).start = s.start := rfl
@[simp] theorem modSb_cue (g : SidebandBox → SidebandBox) (s : State) : (modSb g s).cue = s.cue := rfl
@[simp] theorem modSb_join (g : SidebandBox → SidebandBox) (s : State) : (modSb g s).join = s.join := rfl
@[simp] theorem modSb_grants (g : SidebandBox → SidebandBox) (s : State) : (modSb g s).grants = s.grants := rfl
@[simp] theorem modSb_tx (g : SidebandBox → SidebandBox) (s : State) : (modSb g s).tx = s.tx := rfl
@[simp] theorem modSb_rx (g : SidebandBox → SidebandBox) (s : State) : (modSb g s).rx = s.rx := rfl
@[simp] theorem modSb_express (g : SidebandBox → SidebandBox) (s : State) : (modSb g s).express = s.express := rfl
@[simp] theorem modSb_power (g : SidebandBox → SidebandBox) (s : State) : (modSb g s).power = s.power := rfl
@[simp] theorem modSb_island (g : SidebandBox → SidebandBox) (s : State) : (modSb g s).island = s.island := rfl
@[simp] theorem modSb_sec (g : SidebandBox → SidebandBox) (s : State) : (modSb g s).sec = s.sec := rfl
@[simp] theorem modSb_ports (g : SidebandBox → SidebandBox) (s : State) : (modSb g s).ports = s.ports := rfl
@[simp] theorem modSb_queues (g : SidebandBox → SidebandBox) (s : State) : (modSb g s).queues = s.queues := rfl
@[simp] theorem modSb_hq (g : SidebandBox → SidebandBox) (s : State) : (modSb g s).hq = s.hq := rfl
@[simp] theorem modSb_time (g : SidebandBox → SidebandBox) (s : State) : (modSb g s).time = s.time := rfl
@[simp] theorem modSb_serial (g : SidebandBox → SidebandBox) (s : State) : (modSb g s).serial = s.serial := rfl
@[simp] theorem modSb_certLen (g : SidebandBox → SidebandBox) (s : State) : (modSb g s).certLen = s.certLen := rfl
@[simp] theorem modSb_hostMem (g : SidebandBox → SidebandBox) (s : State) : (modSb g s).hostMem = s.hostMem := rfl
@[simp] theorem modSb_readBack (g : SidebandBox → SidebandBox) (s : State) : (modSb g s).readBack = s.readBack := rfl
@[simp] theorem modSb_free (g : SidebandBox → SidebandBox) (s : State) : (modSb g s).free = s.free := rfl

@[simp] theorem hostWrite_pending (a : Nat) (bs : List Byte) (s : State) : (hostWrite a bs s).pending = s.pending := rfl
@[simp] theorem hostWrite_clock (a : Nat) (bs : List Byte) (s : State) : (hostWrite a bs s).clock = s.clock := rfl
@[simp] theorem hostWrite_pins (a : Nat) (bs : List Byte) (s : State) : (hostWrite a bs s).pins = s.pins := rfl
@[simp] theorem hostWrite_zordin (a : Nat) (bs : List Byte) (s : State) : (hostWrite a bs s).zordin = s.zordin := rfl
@[simp] theorem hostWrite_chans (a : Nat) (bs : List Byte) (s : State) : (hostWrite a bs s).chans = s.chans := rfl
@[simp] theorem hostWrite_ev (a : Nat) (bs : List Byte) (s : State) : (hostWrite a bs s).ev = s.ev := rfl
@[simp] theorem hostWrite_start (a : Nat) (bs : List Byte) (s : State) : (hostWrite a bs s).start = s.start := rfl
@[simp] theorem hostWrite_cue (a : Nat) (bs : List Byte) (s : State) : (hostWrite a bs s).cue = s.cue := rfl
@[simp] theorem hostWrite_join (a : Nat) (bs : List Byte) (s : State) : (hostWrite a bs s).join = s.join := rfl
@[simp] theorem hostWrite_grants (a : Nat) (bs : List Byte) (s : State) : (hostWrite a bs s).grants = s.grants := rfl
@[simp] theorem hostWrite_tx (a : Nat) (bs : List Byte) (s : State) : (hostWrite a bs s).tx = s.tx := rfl
@[simp] theorem hostWrite_rx (a : Nat) (bs : List Byte) (s : State) : (hostWrite a bs s).rx = s.rx := rfl
@[simp] theorem hostWrite_express (a : Nat) (bs : List Byte) (s : State) : (hostWrite a bs s).express = s.express := rfl
@[simp] theorem hostWrite_power (a : Nat) (bs : List Byte) (s : State) : (hostWrite a bs s).power = s.power := rfl
@[simp] theorem hostWrite_island (a : Nat) (bs : List Byte) (s : State) : (hostWrite a bs s).island = s.island := rfl
@[simp] theorem hostWrite_sec (a : Nat) (bs : List Byte) (s : State) : (hostWrite a bs s).sec = s.sec := rfl
@[simp] theorem hostWrite_ports (a : Nat) (bs : List Byte) (s : State) : (hostWrite a bs s).ports = s.ports := rfl
@[simp] theorem hostWrite_queues (a : Nat) (bs : List Byte) (s : State) : (hostWrite a bs s).queues = s.queues := rfl
@[simp] theorem hostWrite_hq (a : Nat) (bs : List Byte) (s : State) : (hostWrite a bs s).hq = s.hq := rfl
@[simp] theorem hostWrite_time (a : Nat) (bs : List Byte) (s : State) : (hostWrite a bs s).time = s.time := rfl
@[simp] theorem hostWrite_serial (a : Nat) (bs : List Byte) (s : State) : (hostWrite a bs s).serial = s.serial := rfl
@[simp] theorem hostWrite_certLen (a : Nat) (bs : List Byte) (s : State) : (hostWrite a bs s).certLen = s.certLen := rfl
@[simp] theorem hostWrite_readBack (a : Nat) (bs : List Byte) (s : State) : (hostWrite a bs s).readBack = s.readBack := rfl
@[simp] theorem hostWrite_free (a : Nat) (bs : List Byte) (s : State) : (hostWrite a bs s).free = s.free := rfl

@[simp] theorem startLong_pending (src : Source) (tag : Nat) (k : LongKind) (s : State) : (startLong src tag k s).pending = s.pending := rfl
@[simp] theorem startLong_clock (src : Source) (tag : Nat) (k : LongKind) (s : State) : (startLong src tag k s).clock = s.clock := rfl
@[simp] theorem startLong_pins (src : Source) (tag : Nat) (k : LongKind) (s : State) : (startLong src tag k s).pins = s.pins := rfl
@[simp] theorem startLong_chans (src : Source) (tag : Nat) (k : LongKind) (s : State) : (startLong src tag k s).chans = s.chans := rfl
@[simp] theorem startLong_ev (src : Source) (tag : Nat) (k : LongKind) (s : State) : (startLong src tag k s).ev = s.ev := rfl
@[simp] theorem startLong_start (src : Source) (tag : Nat) (k : LongKind) (s : State) : (startLong src tag k s).start = s.start := rfl
@[simp] theorem startLong_cue (src : Source) (tag : Nat) (k : LongKind) (s : State) : (startLong src tag k s).cue = s.cue := rfl
@[simp] theorem startLong_join (src : Source) (tag : Nat) (k : LongKind) (s : State) : (startLong src tag k s).join = s.join := rfl
@[simp] theorem startLong_grants (src : Source) (tag : Nat) (k : LongKind) (s : State) : (startLong src tag k s).grants = s.grants := rfl
@[simp] theorem startLong_tx (src : Source) (tag : Nat) (k : LongKind) (s : State) : (startLong src tag k s).tx = s.tx := rfl
@[simp] theorem startLong_rx (src : Source) (tag : Nat) (k : LongKind) (s : State) : (startLong src tag k s).rx = s.rx := rfl
@[simp] theorem startLong_express (src : Source) (tag : Nat) (k : LongKind) (s : State) : (startLong src tag k s).express = s.express := rfl
@[simp] theorem startLong_power (src : Source) (tag : Nat) (k : LongKind) (s : State) : (startLong src tag k s).power = s.power := rfl
@[simp] theorem startLong_island (src : Source) (tag : Nat) (k : LongKind) (s : State) : (startLong src tag k s).island = s.island := rfl
@[simp] theorem startLong_sec (src : Source) (tag : Nat) (k : LongKind) (s : State) : (startLong src tag k s).sec = s.sec := rfl
@[simp] theorem startLong_ports (src : Source) (tag : Nat) (k : LongKind) (s : State) : (startLong src tag k s).ports = s.ports := rfl
@[simp] theorem startLong_queues (src : Source) (tag : Nat) (k : LongKind) (s : State) : (startLong src tag k s).queues = s.queues := rfl
@[simp] theorem startLong_hq (src : Source) (tag : Nat) (k : LongKind) (s : State) : (startLong src tag k s).hq = s.hq := rfl
@[simp] theorem startLong_time (src : Source) (tag : Nat) (k : LongKind) (s : State) : (startLong src tag k s).time = s.time := rfl
@[simp] theorem startLong_serial (src : Source) (tag : Nat) (k : LongKind) (s : State) : (startLong src tag k s).serial = s.serial := rfl
@[simp] theorem startLong_certLen (src : Source) (tag : Nat) (k : LongKind) (s : State) : (startLong src tag k s).certLen = s.certLen := rfl
@[simp] theorem startLong_hostMem (src : Source) (tag : Nat) (k : LongKind) (s : State) : (startLong src tag k s).hostMem = s.hostMem := rfl
@[simp] theorem startLong_readBack (src : Source) (tag : Nat) (k : LongKind) (s : State) : (startLong src tag k s).readBack = s.readBack := rfl
@[simp] theorem startLong_free (src : Source) (tag : Nat) (k : LongKind) (s : State) : (startLong src tag k s).free = s.free := rfl

@[simp] theorem setChan_pending (ty : Nat) (ix : Nat) (c : ChanSlot) (s : State) : (setChan ty ix c s).pending = s.pending := rfl
@[simp] theorem setChan_clock (ty : Nat) (ix : Nat) (c : ChanSlot) (s : State) : (setChan ty ix c s).clock = s.clock := rfl
@[simp] theorem setChan_pins (ty : Nat) (ix : Nat) (c : ChanSlot) (s : State) : (setChan ty ix c s).pins = s.pins := rfl
@[simp] theorem setChan_zordin (ty : Nat) (ix : Nat) (c : ChanSlot) (s : State) : (setChan ty ix c s).zordin = s.zordin := rfl
@[simp] theorem setChan_ev (ty : Nat) (ix : Nat) (c : ChanSlot) (s : State) : (setChan ty ix c s).ev = s.ev := rfl
@[simp] theorem setChan_start (ty : Nat) (ix : Nat) (c : ChanSlot) (s : State) : (setChan ty ix c s).start = s.start := rfl
@[simp] theorem setChan_cue (ty : Nat) (ix : Nat) (c : ChanSlot) (s : State) : (setChan ty ix c s).cue = s.cue := rfl
@[simp] theorem setChan_join (ty : Nat) (ix : Nat) (c : ChanSlot) (s : State) : (setChan ty ix c s).join = s.join := rfl
@[simp] theorem setChan_grants (ty : Nat) (ix : Nat) (c : ChanSlot) (s : State) : (setChan ty ix c s).grants = s.grants := rfl
@[simp] theorem setChan_tx (ty : Nat) (ix : Nat) (c : ChanSlot) (s : State) : (setChan ty ix c s).tx = s.tx := rfl
@[simp] theorem setChan_rx (ty : Nat) (ix : Nat) (c : ChanSlot) (s : State) : (setChan ty ix c s).rx = s.rx := rfl
@[simp] theorem setChan_express (ty : Nat) (ix : Nat) (c : ChanSlot) (s : State) : (setChan ty ix c s).express = s.express := rfl
@[simp] theorem setChan_power (ty : Nat) (ix : Nat) (c : ChanSlot) (s : State) : (setChan ty ix c s).power = s.power := rfl
@[simp] theorem setChan_island (ty : Nat) (ix : Nat) (c : ChanSlot) (s : State) : (setChan ty ix c s).island = s.island := rfl
@[simp] theorem setChan_sec (ty : Nat) (ix : Nat) (c : ChanSlot) (s : State) : (setChan ty ix c s).sec = s.sec := rfl
@[simp] theorem setChan_ports (ty : Nat) (ix : Nat) (c : ChanSlot) (s : State) : (setChan ty ix c s).ports = s.ports := rfl
@[simp] theorem setChan_queues (ty : Nat) (ix : Nat) (c : ChanSlot) (s : State) : (setChan ty ix c s).queues = s.queues := rfl
@[simp] theorem setChan_hq (ty : Nat) (ix : Nat) (c : ChanSlot) (s : State) : (setChan ty ix c s).hq = s.hq := rfl
@[simp] theorem setChan_time (ty : Nat) (ix : Nat) (c : ChanSlot) (s : State) : (setChan ty ix c s).time = s.time := rfl
@[simp] theorem setChan_serial (ty : Nat) (ix : Nat) (c : ChanSlot) (s : State) : (setChan ty ix c s).serial = s.serial := rfl
@[simp] theorem setChan_certLen (ty : Nat) (ix : Nat) (c : ChanSlot) (s : State) : (setChan ty ix c s).certLen = s.certLen := rfl
@[simp] theorem setChan_hostMem (ty : Nat) (ix : Nat) (c : ChanSlot) (s : State) : (setChan ty ix c s).hostMem = s.hostMem := rfl
@[simp] theorem setChan_readBack (ty : Nat) (ix : Nat) (c : ChanSlot) (s : State) : (setChan ty ix c s).readBack = s.readBack := rfl
@[simp] theorem setChan_free (ty : Nat) (ix : Nat) (c : ChanSlot) (s : State) : (setChan ty ix c s).free = s.free := rfl

@[simp] theorem openChan_pending (t : ChanType) (ix : Nat) (s : State) : (openChan t ix s).pending = s.pending := rfl
@[simp] theorem openChan_clock (t : ChanType) (ix : Nat) (s : State) : (openChan t ix s).clock = s.clock := rfl
@[simp] theorem openChan_pins (t : ChanType) (ix : Nat) (s : State) : (openChan t ix s).pins = s.pins := rfl
@[simp] theorem openChan_zordin (t : ChanType) (ix : Nat) (s : State) : (openChan t ix s).zordin = s.zordin := rfl
@[simp] theorem openChan_ev (t : ChanType) (ix : Nat) (s : State) : (openChan t ix s).ev = s.ev := rfl
@[simp] theorem openChan_start (t : ChanType) (ix : Nat) (s : State) : (openChan t ix s).start = s.start := rfl
@[simp] theorem openChan_cue (t : ChanType) (ix : Nat) (s : State) : (openChan t ix s).cue = s.cue := rfl
@[simp] theorem openChan_join (t : ChanType) (ix : Nat) (s : State) : (openChan t ix s).join = s.join := rfl
@[simp] theorem openChan_grants (t : ChanType) (ix : Nat) (s : State) : (openChan t ix s).grants = s.grants := rfl
@[simp] theorem openChan_tx (t : ChanType) (ix : Nat) (s : State) : (openChan t ix s).tx = s.tx := rfl
@[simp] theorem openChan_rx (t : ChanType) (ix : Nat) (s : State) : (openChan t ix s).rx = s.rx := rfl
@[simp] theorem openChan_express (t : ChanType) (ix : Nat) (s : State) : (openChan t ix s).express = s.express := rfl
@[simp] theorem openChan_power (t : ChanType) (ix : Nat) (s : State) : (openChan t ix s).power = s.power := rfl
@[simp] theorem openChan_island (t : ChanType) (ix : Nat) (s : State) : (openChan t ix s).island = s.island := rfl
@[simp] theorem openChan_sec (t : ChanType) (ix : Nat) (s : State) : (openChan t ix s).sec = s.sec := rfl
@[simp] theorem openChan_ports (t : ChanType) (ix : Nat) (s : State) : (openChan t ix s).ports = s.ports := rfl
@[simp] theorem openChan_queues (t : ChanType) (ix : Nat) (s : State) : (openChan t ix s).queues = s.queues := rfl
@[simp] theorem openChan_hq (t : ChanType) (ix : Nat) (s : State) : (openChan t ix s).hq = s.hq := rfl
@[simp] theorem openChan_time (t : ChanType) (ix : Nat) (s : State) : (openChan t ix s).time = s.time := rfl
@[simp] theorem openChan_serial (t : ChanType) (ix : Nat) (s : State) : (openChan t ix s).serial = s.serial := rfl
@[simp] theorem openChan_certLen (t : ChanType) (ix : Nat) (s : State) : (openChan t ix s).certLen = s.certLen := rfl
@[simp] theorem openChan_hostMem (t : ChanType) (ix : Nat) (s : State) : (openChan t ix s).hostMem = s.hostMem := rfl
@[simp] theorem openChan_readBack (t : ChanType) (ix : Nat) (s : State) : (openChan t ix s).readBack = s.readBack := rfl
@[simp] theorem openChan_free (t : ChanType) (ix : Nat) (s : State) : (openChan t ix s).free = s.free := rfl

@[simp] theorem closeChan_pending (t : ChanType) (ix : Nat) (s : State) : (closeChan t ix s).pending = s.pending := rfl
@[simp] theorem closeChan_clock (t : ChanType) (ix : Nat) (s : State) : (closeChan t ix s).clock = s.clock := rfl
@[simp] theorem closeChan_pins (t : ChanType) (ix : Nat) (s : State) : (closeChan t ix s).pins = s.pins := rfl
@[simp] theorem closeChan_zordin (t : ChanType) (ix : Nat) (s : State) : (closeChan t ix s).zordin = s.zordin := rfl
@[simp] theorem closeChan_ev (t : ChanType) (ix : Nat) (s : State) : (closeChan t ix s).ev = s.ev := rfl
@[simp] theorem closeChan_start (t : ChanType) (ix : Nat) (s : State) : (closeChan t ix s).start = s.start := rfl
@[simp] theorem closeChan_cue (t : ChanType) (ix : Nat) (s : State) : (closeChan t ix s).cue = s.cue := rfl
@[simp] theorem closeChan_join (t : ChanType) (ix : Nat) (s : State) : (closeChan t ix s).join = s.join := rfl
@[simp] theorem closeChan_grants (t : ChanType) (ix : Nat) (s : State) : (closeChan t ix s).grants = s.grants := rfl
@[simp] theorem closeChan_tx (t : ChanType) (ix : Nat) (s : State) : (closeChan t ix s).tx = s.tx := rfl
@[simp] theorem closeChan_rx (t : ChanType) (ix : Nat) (s : State) : (closeChan t ix s).rx = s.rx := rfl
@[simp] theorem closeChan_express (t : ChanType) (ix : Nat) (s : State) : (closeChan t ix s).express = s.express := rfl
@[simp] theorem closeChan_power (t : ChanType) (ix : Nat) (s : State) : (closeChan t ix s).power = s.power := rfl
@[simp] theorem closeChan_island (t : ChanType) (ix : Nat) (s : State) : (closeChan t ix s).island = s.island := rfl
@[simp] theorem closeChan_sec (t : ChanType) (ix : Nat) (s : State) : (closeChan t ix s).sec = s.sec := rfl
@[simp] theorem closeChan_ports (t : ChanType) (ix : Nat) (s : State) : (closeChan t ix s).ports = s.ports := rfl
@[simp] theorem closeChan_queues (t : ChanType) (ix : Nat) (s : State) : (closeChan t ix s).queues = s.queues := rfl
@[simp] theorem closeChan_hq (t : ChanType) (ix : Nat) (s : State) : (closeChan t ix s).hq = s.hq := rfl
@[simp] theorem closeChan_time (t : ChanType) (ix : Nat) (s : State) : (closeChan t ix s).time = s.time := rfl
@[simp] theorem closeChan_serial (t : ChanType) (ix : Nat) (s : State) : (closeChan t ix s).serial = s.serial := rfl
@[simp] theorem closeChan_certLen (t : ChanType) (ix : Nat) (s : State) : (closeChan t ix s).certLen = s.certLen := rfl
@[simp] theorem closeChan_hostMem (t : ChanType) (ix : Nat) (s : State) : (closeChan t ix s).hostMem = s.hostMem := rfl
@[simp] theorem closeChan_readBack (t : ChanType) (ix : Nat) (s : State) : (closeChan t ix s).readBack = s.readBack := rfl
@[simp] theorem closeChan_free (t : ChanType) (ix : Nat) (s : State) : (closeChan t ix s).free = s.free := rfl

@[simp] theorem modDest_pending (i : Nat) (g : Destination → Destination) (s : State) : (modDest i g s).pending = s.pending := rfl
@[simp] theorem modDest_clock (i : Nat) (g : Destination → Destination) (s : State) : (modDest i g s).clock = s.clock := rfl
@[simp] theorem modDest_pins (i : Nat) (g : Destination → Destination) (s : State) : (modDest i g s).pins = s.pins := rfl
@[simp] theorem modDest_zordin (i : Nat) (g : Destination → Destination) (s : State) : (modDest i g s).zordin = s.zordin := rfl
@[simp] theorem modDest_chans (i : Nat) (g : Destination → Destination) (s : State) : (modDest i g s).chans = s.chans := rfl
@[simp] theorem modDest_start (i : Nat) (g : Destination → Destination) (s : State) : (modDest i g s).start = s.start := rfl
@[simp] theorem modDest_cue (i : Nat) (g : Destination → Destination) (s : State) : (modDest i g s).cue = s.cue := rfl
@[simp] theorem modDest_join (i : Nat) (g : Destination → Destination) (s : State) : (modDest i g s).join = s.join := rfl
@[simp] theorem modDest_grants (i : Nat) (g : Destination → Destination) (s : State) : (modDest i g s).grants = s.grants := rfl
@[simp] theorem modDest_tx (i : Nat) (g : Destination → Destination) (s : State) : (modDest i g s).tx = s.tx := rfl
@[simp] theorem modDest_rx (i : Nat) (g : Destination → Destination) (s : State) : (modDest i g s).rx = s.rx := rfl
@[simp] theorem modDest_express (i : Nat) (g : Destination → Destination) (s : State) : (modDest i g s).express = s.express := rfl
@[simp] theorem modDest_power (i : Nat) (g : Destination → Destination) (s : State) : (modDest i g s).power = s.power := rfl
@[simp] theorem modDest_island (i : Nat) (g : Destination → Destination) (s : State) : (modDest i g s).island = s.island := rfl
@[simp] theorem modDest_sec (i : Nat) (g : Destination → Destination) (s : State) : (modDest i g s).sec = s.sec := rfl
@[simp] theorem modDest_ports (i : Nat) (g : Destination → Destination) (s : State) : (modDest i g s).ports = s.ports := rfl
@[simp] theorem modDest_queues (i : Nat) (g : Destination → Destination) (s : State) : (modDest i g s).queues = s.queues := rfl
@[simp] theorem modDest_hq (i : Nat) (g : Destination → Destination) (s : State) : (modDest i g s).hq = s.hq := rfl
@[simp] theorem modDest_time (i : Nat) (g : Destination → Destination) (s : State) : (modDest i g s).time = s.time := rfl
@[simp] theorem modDest_serial (i : Nat) (g : Destination → Destination) (s : State) : (modDest i g s).serial = s.serial := rfl
@[simp] theorem modDest_certLen (i : Nat) (g : Destination → Destination) (s : State) : (modDest i g s).certLen = s.certLen := rfl
@[simp] theorem modDest_hostMem (i : Nat) (g : Destination → Destination) (s : State) : (modDest i g s).hostMem = s.hostMem := rfl
@[simp] theorem modDest_readBack (i : Nat) (g : Destination → Destination) (s : State) : (modDest i g s).readBack = s.readBack := rfl
@[simp] theorem modDest_free (i : Nat) (g : Destination → Destination) (s : State) : (modDest i g s).free = s.free := rfl

@[simp] theorem modAlarm_pending (src : Nat) (g : AlarmEntry → AlarmEntry) (s : State) : (modAlarm src g s).pending = s.pending := rfl
@[simp] theorem modAlarm_clock (src : Nat) (g : AlarmEntry → AlarmEntry) (s : State) : (modAlarm src g s).clock = s.clock := rfl
@[simp] theorem modAlarm_pins (src : Nat) (g : AlarmEntry → AlarmEntry) (s : State) : (modAlarm src g s).pins = s.pins := rfl
@[simp] theorem modAlarm_zordin (src : Nat) (g : AlarmEntry → AlarmEntry) (s : State) : (modAlarm src g s).zordin = s.zordin := rfl
@[simp] theorem modAlarm_chans (src : Nat) (g : AlarmEntry → AlarmEntry) (s : State) : (modAlarm src g s).chans = s.chans := rfl
@[simp] theorem modAlarm_start (src : Nat) (g : AlarmEntry → AlarmEntry) (s : State) : (modAlarm src g s).start = s.start := rfl
@[simp] theorem modAlarm_cue (src : Nat) (g : AlarmEntry → AlarmEntry) (s : State) : (modAlarm src g s).cue = s.cue := rfl
@[simp] theorem modAlarm_join (src : Nat) (g : AlarmEntry → AlarmEntry) (s : State) : (modAlarm src g s).join = s.join := rfl
@[simp] theorem modAlarm_grants (src : Nat) (g : AlarmEntry → AlarmEntry) (s : State) : (modAlarm src g s).grants = s.grants := rfl
@[simp] theorem modAlarm_tx (src : Nat) (g : AlarmEntry → AlarmEntry) (s : State) : (modAlarm src g s).tx = s.tx := rfl
@[simp] theorem modAlarm_rx (src : Nat) (g : AlarmEntry → AlarmEntry) (s : State) : (modAlarm src g s).rx = s.rx := rfl
@[simp] theorem modAlarm_express (src : Nat) (g : AlarmEntry → AlarmEntry) (s : State) : (modAlarm src g s).express = s.express := rfl
@[simp] theorem modAlarm_power (src : Nat) (g : AlarmEntry → AlarmEntry) (s : State) : (modAlarm src g s).power = s.power := rfl
@[simp] theorem modAlarm_island (src : Nat) (g : AlarmEntry → AlarmEntry) (s : State) : (modAlarm src g s).island = s.island := rfl
@[simp] theorem modAlarm_sec (src : Nat) (g : AlarmEntry → AlarmEntry) (s : State) : (modAlarm src g s).sec = s.sec := rfl
@[simp] theorem modAlarm_ports (src : Nat) (g : AlarmEntry → AlarmEntry) (s : State) : (modAlarm src g s).ports = s.ports := rfl
@[simp] theorem modAlarm_queues (src : Nat) (g : AlarmEntry → AlarmEntry) (s : State) : (modAlarm src g s).queues = s.queues := rfl
@[simp] theorem modAlarm_hq (src : Nat) (g : AlarmEntry → AlarmEntry) (s : State) : (modAlarm src g s).hq = s.hq := rfl
@[simp] theorem modAlarm_time (src : Nat) (g : AlarmEntry → AlarmEntry) (s : State) : (modAlarm src g s).time = s.time := rfl
@[simp] theorem modAlarm_serial (src : Nat) (g : AlarmEntry → AlarmEntry) (s : State) : (modAlarm src g s).serial = s.serial := rfl
@[simp] theorem modAlarm_certLen (src : Nat) (g : AlarmEntry → AlarmEntry) (s : State) : (modAlarm src g s).certLen = s.certLen := rfl
@[simp] theorem modAlarm_hostMem (src : Nat) (g : AlarmEntry → AlarmEntry) (s : State) : (modAlarm src g s).hostMem = s.hostMem := rfl
@[simp] theorem modAlarm_readBack (src : Nat) (g : AlarmEntry → AlarmEntry) (s : State) : (modAlarm src g s).readBack = s.readBack := rfl
@[simp] theorem modAlarm_free (src : Nat) (g : AlarmEntry → AlarmEntry) (s : State) : (modAlarm src g s).free = s.free := rfl

@[simp] theorem modPower_pending (g : Power → Power) (s : State) : (modPower g s).pending = s.pending := rfl
@[simp] theorem modPower_clock (g : Power → Power) (s : State) : (modPower g s).clock = s.clock := rfl
@[simp] theorem modPower_pins (g : Power → Power) (s : State) : (modPower g s).pins = s.pins := rfl
@[simp] theorem modPower_zordin (g : Power → Power) (s : State) : (modPower g s).zordin = s.zordin := rfl
@[simp] theorem modPower_chans (g : Power → Power) (s : State) : (modPower g s).chans = s.chans := rfl
@[simp] theorem modPower_ev (g : Power → Power) (s : State) : (modPower g s).ev = s.ev := rfl
@[simp] theorem modPower_start (g : Power → Power) (s : State) : (modPower g s).start = s.start := rfl
@[simp] theorem modPower_cue (g : Power → Power) (s : State) : (modPower g s).cue = s.cue := rfl
@[simp] theorem modPower_join (g : Power → Power) (s : State) : (modPower g s).join = s.join := rfl
@[simp] theorem modPower_grants (g : Power → Power) (s : State) : (modPower g s).grants = s.grants := rfl
@[simp] theorem modPower_tx (g : Power → Power) (s : State) : (modPower g s).tx = s.tx := rfl
@[simp] theorem modPower_rx (g : Power → Power) (s : State) : (modPower g s).rx = s.rx := rfl
@[simp] theorem modPower_express (g : Power → Power) (s : State) : (modPower g s).express = s.express := rfl
@[simp] theorem modPower_island (g : Power → Power) (s : State) : (modPower g s).island = s.island := rfl
@[simp] theorem modPower_sec (g : Power → Power) (s : State) : (modPower g s).sec = s.sec := rfl
@[simp] theorem modPower_ports (g : Power → Power) (s : State) : (modPower g s).ports = s.ports := rfl
@[simp] theorem modPower_queues (g : Power → Power) (s : State) : (modPower g s).queues = s.queues := rfl
@[simp] theorem modPower_hq (g : Power → Power) (s : State) : (modPower g s).hq = s.hq := rfl
@[simp] theorem modPower_time (g : Power → Power) (s : State) : (modPower g s).time = s.time := rfl
@[simp] theorem modPower_serial (g : Power → Power) (s : State) : (modPower g s).serial = s.serial := rfl
@[simp] theorem modPower_certLen (g : Power → Power) (s : State) : (modPower g s).certLen = s.certLen := rfl
@[simp] theorem modPower_hostMem (g : Power → Power) (s : State) : (modPower g s).hostMem = s.hostMem := rfl
@[simp] theorem modPower_readBack (g : Power → Power) (s : State) : (modPower g s).readBack = s.readBack := rfl
@[simp] theorem modPower_free (g : Power → Power) (s : State) : (modPower g s).free = s.free := rfl

@[simp] theorem finishTask_pending (id : Nat) (s : State) : (finishTask id s).pending = s.pending := rfl
@[simp] theorem finishTask_clock (id : Nat) (s : State) : (finishTask id s).clock = s.clock := rfl
@[simp] theorem finishTask_pins (id : Nat) (s : State) : (finishTask id s).pins = s.pins := rfl
@[simp] theorem finishTask_chans (id : Nat) (s : State) : (finishTask id s).chans = s.chans := rfl
@[simp] theorem finishTask_ev (id : Nat) (s : State) : (finishTask id s).ev = s.ev := rfl
@[simp] theorem finishTask_start (id : Nat) (s : State) : (finishTask id s).start = s.start := rfl
@[simp] theorem finishTask_cue (id : Nat) (s : State) : (finishTask id s).cue = s.cue := rfl
@[simp] theorem finishTask_join (id : Nat) (s : State) : (finishTask id s).join = s.join := rfl
@[simp] theorem finishTask_grants (id : Nat) (s : State) : (finishTask id s).grants = s.grants := rfl
@[simp] theorem finishTask_tx (id : Nat) (s : State) : (finishTask id s).tx = s.tx := rfl
@[simp] theorem finishTask_rx (id : Nat) (s : State) : (finishTask id s).rx = s.rx := rfl
@[simp] theorem finishTask_express (id : Nat) (s : State) : (finishTask id s).express = s.express := rfl
@[simp] theorem finishTask_power (id : Nat) (s : State) : (finishTask id s).power = s.power := rfl
@[simp] theorem finishTask_island (id : Nat) (s : State) : (finishTask id s).island = s.island := rfl
@[simp] theorem finishTask_sec (id : Nat) (s : State) : (finishTask id s).sec = s.sec := rfl
@[simp] theorem finishTask_ports (id : Nat) (s : State) : (finishTask id s).ports = s.ports := rfl
@[simp] theorem finishTask_queues (id : Nat) (s : State) : (finishTask id s).queues = s.queues := rfl
@[simp] theorem finishTask_hq (id : Nat) (s : State) : (finishTask id s).hq = s.hq := rfl
@[simp] theorem finishTask_time (id : Nat) (s : State) : (finishTask id s).time = s.time := rfl
@[simp] theorem finishTask_serial (id : Nat) (s : State) : (finishTask id s).serial = s.serial := rfl
@[simp] theorem finishTask_certLen (id : Nat) (s : State) : (finishTask id s).certLen = s.certLen := rfl
@[simp] theorem finishTask_hostMem (id : Nat) (s : State) : (finishTask id s).hostMem = s.hostMem := rfl
@[simp] theorem finishTask_readBack (id : Nat) (s : State) : (finishTask id s).readBack = s.readBack := rfl
@[simp] theorem finishTask_free (id : Nat) (s : State) : (finishTask id s).free = s.free := rfl

@[simp] theorem modTx_pending (x : Nat) (g : Transmitter → Transmitter) (s : State) : (modTx x g s).pending = s.pending := rfl
@[simp] theorem modTx_clock (x : Nat) (g : Transmitter → Transmitter) (s : State) : (modTx x g s).clock = s.clock := rfl
@[simp] theorem modTx_pins (x : Nat) (g : Transmitter → Transmitter) (s : State) : (modTx x g s).pins = s.pins := rfl
@[simp] theorem modTx_zordin (x : Nat) (g : Transmitter → Transmitter) (s : State) : (modTx x g s).zordin = s.zordin := rfl
@[simp] theorem modTx_chans (x : Nat) (g : Transmitter → Transmitter) (s : State) : (modTx x g s).chans = s.chans := rfl
@[simp] theorem modTx_ev (x : Nat) (g : Transmitter → Transmitter) (s : State) : (modTx x g s).ev = s.ev := rfl
@[simp] theorem modTx_start (x : Nat) (g : Transmitter → Transmitter) (s : State) : (modTx x g s).start = s.start := rfl
@[simp] theorem modTx_cue (x : Nat) (g : Transmitter → Transmitter) (s : State) : (modTx x g s).cue = s.cue := rfl
@[simp] theorem modTx_join (x : Nat) (g : Transmitter → Transmitter) (s : State) : (modTx x g s).join = s.join := rfl
@[simp] theorem modTx_grants (x : Nat) (g : Transmitter → Transmitter) (s : State) : (modTx x g s).grants = s.grants := rfl
@[simp] theorem modTx_rx (x : Nat) (g : Transmitter → Transmitter) (s : State) : (modTx x g s).rx = s.rx := rfl
@[simp] theorem modTx_express (x : Nat) (g : Transmitter → Transmitter) (s : State) : (modTx x g s).express = s.express := rfl
@[simp] theorem modTx_power (x : Nat) (g : Transmitter → Transmitter) (s : State) : (modTx x g s).power = s.power := rfl
@[simp] theorem modTx_island (x : Nat) (g : Transmitter → Transmitter) (s : State) : (modTx x g s).island = s.island := rfl
@[simp] theorem modTx_sec (x : Nat) (g : Transmitter → Transmitter) (s : State) : (modTx x g s).sec = s.sec := rfl
@[simp] theorem modTx_ports (x : Nat) (g : Transmitter → Transmitter) (s : State) : (modTx x g s).ports = s.ports := rfl
@[simp] theorem modTx_queues (x : Nat) (g : Transmitter → Transmitter) (s : State) : (modTx x g s).queues = s.queues := rfl
@[simp] theorem modTx_hq (x : Nat) (g : Transmitter → Transmitter) (s : State) : (modTx x g s).hq = s.hq := rfl
@[simp] theorem modTx_time (x : Nat) (g : Transmitter → Transmitter) (s : State) : (modTx x g s).time = s.time := rfl
@[simp] theorem modTx_serial (x : Nat) (g : Transmitter → Transmitter) (s : State) : (modTx x g s).serial = s.serial := rfl
@[simp] theorem modTx_certLen (x : Nat) (g : Transmitter → Transmitter) (s : State) : (modTx x g s).certLen = s.certLen := rfl
@[simp] theorem modTx_hostMem (x : Nat) (g : Transmitter → Transmitter) (s : State) : (modTx x g s).hostMem = s.hostMem := rfl
@[simp] theorem modTx_readBack (x : Nat) (g : Transmitter → Transmitter) (s : State) : (modTx x g s).readBack = s.readBack := rfl
@[simp] theorem modTx_free (x : Nat) (g : Transmitter → Transmitter) (s : State) : (modTx x g s).free = s.free := rfl

@[simp] theorem modQueues_pending (g : Queues → Queues) (s : State) : (modQueues g s).pending = s.pending := rfl
@[simp] theorem modQueues_clock (g : Queues → Queues) (s : State) : (modQueues g s).clock = s.clock := rfl
@[simp] theorem modQueues_pins (g : Queues → Queues) (s : State) : (modQueues g s).pins = s.pins := rfl
@[simp] theorem modQueues_zordin (g : Queues → Queues) (s : State) : (modQueues g s).zordin = s.zordin := rfl
@[simp] theorem modQueues_chans (g : Queues → Queues) (s : State) : (modQueues g s).chans = s.chans := rfl
@[simp] theorem modQueues_ev (g : Queues → Queues) (s : State) : (modQueues g s).ev = s.ev := rfl
@[simp] theorem modQueues_start (g : Queues → Queues) (s : State) : (modQueues g s).start = s.start := rfl
@[simp] theorem modQueues_cue (g : Queues → Queues) (s : State) : (modQueues g s).cue = s.cue := rfl
@[simp] theorem modQueues_join (g : Queues → Queues) (s : State) : (modQueues g s).join = s.join := rfl
@[simp] theorem modQueues_grants (g : Queues → Queues) (s : State) : (modQueues g s).grants = s.grants := rfl
@[simp] theorem modQueues_tx (g : Queues → Queues) (s : State) : (modQueues g s).tx = s.tx := rfl
@[simp] theorem modQueues_rx (g : Queues → Queues) (s : State) : (modQueues g s).rx = s.rx := rfl
@[simp] theorem modQueues_express (g : Queues → Queues) (s : State) : (modQueues g s).express = s.express := rfl
@[simp] theorem modQueues_power (g : Queues → Queues) (s : State) : (modQueues g s).power = s.power := rfl
@[simp] theorem modQueues_island (g : Queues → Queues) (s : State) : (modQueues g s).island = s.island := rfl
@[simp] theorem modQueues_sec (g : Queues → Queues) (s : State) : (modQueues g s).sec = s.sec := rfl
@[simp] theorem modQueues_ports (g : Queues → Queues) (s : State) : (modQueues g s).ports = s.ports := rfl
@[simp] theorem modQueues_hq (g : Queues → Queues) (s : State) : (modQueues g s).hq = s.hq := rfl
@[simp] theorem modQueues_time (g : Queues → Queues) (s : State) : (modQueues g s).time = s.time := rfl
@[simp] theorem modQueues_serial (g : Queues → Queues) (s : State) : (modQueues g s).serial = s.serial := rfl
@[simp] theorem modQueues_certLen (g : Queues → Queues) (s : State) : (modQueues g s).certLen = s.certLen := rfl
@[simp] theorem modQueues_hostMem (g : Queues → Queues) (s : State) : (modQueues g s).hostMem = s.hostMem := rfl
@[simp] theorem modQueues_readBack (g : Queues → Queues) (s : State) : (modQueues g s).readBack = s.readBack := rfl
@[simp] theorem modQueues_free (g : Queues → Queues) (s : State) : (modQueues g s).free = s.free := rfl

@[simp] theorem modPlane_pending (p : Nat) (g : PlaneMachine → PlaneMachine) (s : State) : (modPlane p g s).pending = s.pending := rfl
@[simp] theorem modPlane_clock (p : Nat) (g : PlaneMachine → PlaneMachine) (s : State) : (modPlane p g s).clock = s.clock := rfl
@[simp] theorem modPlane_pins (p : Nat) (g : PlaneMachine → PlaneMachine) (s : State) : (modPlane p g s).pins = s.pins := rfl
@[simp] theorem modPlane_zordin (p : Nat) (g : PlaneMachine → PlaneMachine) (s : State) : (modPlane p g s).zordin = s.zordin := rfl
@[simp] theorem modPlane_chans (p : Nat) (g : PlaneMachine → PlaneMachine) (s : State) : (modPlane p g s).chans = s.chans := rfl
@[simp] theorem modPlane_ev (p : Nat) (g : PlaneMachine → PlaneMachine) (s : State) : (modPlane p g s).ev = s.ev := rfl
@[simp] theorem modPlane_start (p : Nat) (g : PlaneMachine → PlaneMachine) (s : State) : (modPlane p g s).start = s.start := rfl
@[simp] theorem modPlane_cue (p : Nat) (g : PlaneMachine → PlaneMachine) (s : State) : (modPlane p g s).cue = s.cue := rfl
@[simp] theorem modPlane_grants (p : Nat) (g : PlaneMachine → PlaneMachine) (s : State) : (modPlane p g s).grants = s.grants := rfl
@[simp] theorem modPlane_tx (p : Nat) (g : PlaneMachine → PlaneMachine) (s : State) : (modPlane p g s).tx = s.tx := rfl
@[simp] theorem modPlane_rx (p : Nat) (g : PlaneMachine → PlaneMachine) (s : State) : (modPlane p g s).rx = s.rx := rfl
@[simp] theorem modPlane_express (p : Nat) (g : PlaneMachine → PlaneMachine) (s : State) : (modPlane p g s).express = s.express := rfl
@[simp] theorem modPlane_power (p : Nat) (g : PlaneMachine → PlaneMachine) (s : State) : (modPlane p g s).power = s.power := rfl
@[simp] theorem modPlane_island (p : Nat) (g : PlaneMachine → PlaneMachine) (s : State) : (modPlane p g s).island = s.island := rfl
@[simp] theorem modPlane_sec (p : Nat) (g : PlaneMachine → PlaneMachine) (s : State) : (modPlane p g s).sec = s.sec := rfl
@[simp] theorem modPlane_ports (p : Nat) (g : PlaneMachine → PlaneMachine) (s : State) : (modPlane p g s).ports = s.ports := rfl
@[simp] theorem modPlane_queues (p : Nat) (g : PlaneMachine → PlaneMachine) (s : State) : (modPlane p g s).queues = s.queues := rfl
@[simp] theorem modPlane_hq (p : Nat) (g : PlaneMachine → PlaneMachine) (s : State) : (modPlane p g s).hq = s.hq := rfl
@[simp] theorem modPlane_time (p : Nat) (g : PlaneMachine → PlaneMachine) (s : State) : (modPlane p g s).time = s.time := rfl
@[simp] theorem modPlane_serial (p : Nat) (g : PlaneMachine → PlaneMachine) (s : State) : (modPlane p g s).serial = s.serial := rfl
@[simp] theorem modPlane_certLen (p : Nat) (g : PlaneMachine → PlaneMachine) (s : State) : (modPlane p g s).certLen = s.certLen := rfl
@[simp] theorem modPlane_hostMem (p : Nat) (g : PlaneMachine → PlaneMachine) (s : State) : (modPlane p g s).hostMem = s.hostMem := rfl
@[simp] theorem modPlane_readBack (p : Nat) (g : PlaneMachine → PlaneMachine) (s : State) : (modPlane p g s).readBack = s.readBack := rfl
@[simp] theorem modPlane_free (p : Nat) (g : PlaneMachine → PlaneMachine) (s : State) : (modPlane p g s).free = s.free := rfl

@[simp] theorem countJoin_pending (i : Nat) (s : State) : (countJoin i s).pending = s.pending := rfl
@[simp] theorem countJoin_clock (i : Nat) (s : State) : (countJoin i s).clock = s.clock := rfl
@[simp] theorem countJoin_pins (i : Nat) (s : State) : (countJoin i s).pins = s.pins := rfl
@[simp] theorem countJoin_zordin (i : Nat) (s : State) : (countJoin i s).zordin = s.zordin := rfl
@[simp] theorem countJoin_chans (i : Nat) (s : State) : (countJoin i s).chans = s.chans := rfl
@[simp] theorem countJoin_ev (i : Nat) (s : State) : (countJoin i s).ev = s.ev := rfl
@[simp] theorem countJoin_start (i : Nat) (s : State) : (countJoin i s).start = s.start := rfl
@[simp] theorem countJoin_cue (i : Nat) (s : State) : (countJoin i s).cue = s.cue := rfl
@[simp] theorem countJoin_grants (i : Nat) (s : State) : (countJoin i s).grants = s.grants := rfl
@[simp] theorem countJoin_tx (i : Nat) (s : State) : (countJoin i s).tx = s.tx := rfl
@[simp] theorem countJoin_rx (i : Nat) (s : State) : (countJoin i s).rx = s.rx := rfl
@[simp] theorem countJoin_express (i : Nat) (s : State) : (countJoin i s).express = s.express := rfl
@[simp] theorem countJoin_power (i : Nat) (s : State) : (countJoin i s).power = s.power := rfl
@[simp] theorem countJoin_island (i : Nat) (s : State) : (countJoin i s).island = s.island := rfl
@[simp] theorem countJoin_sec (i : Nat) (s : State) : (countJoin i s).sec = s.sec := rfl
@[simp] theorem countJoin_ports (i : Nat) (s : State) : (countJoin i s).ports = s.ports := rfl
@[simp] theorem countJoin_queues (i : Nat) (s : State) : (countJoin i s).queues = s.queues := rfl
@[simp] theorem countJoin_hq (i : Nat) (s : State) : (countJoin i s).hq = s.hq := rfl
@[simp] theorem countJoin_time (i : Nat) (s : State) : (countJoin i s).time = s.time := rfl
@[simp] theorem countJoin_serial (i : Nat) (s : State) : (countJoin i s).serial = s.serial := rfl
@[simp] theorem countJoin_certLen (i : Nat) (s : State) : (countJoin i s).certLen = s.certLen := rfl
@[simp] theorem countJoin_hostMem (i : Nat) (s : State) : (countJoin i s).hostMem = s.hostMem := rfl
@[simp] theorem countJoin_readBack (i : Nat) (s : State) : (countJoin i s).readBack = s.readBack := rfl
@[simp] theorem countJoin_free (i : Nat) (s : State) : (countJoin i s).free = s.free := rfl

@[simp] theorem modLane_pending (h : Hub) (p : Nat) (g : CueLane → CueLane) (s : State) : (modLane h p g s).pending = s.pending := rfl
@[simp] theorem modLane_clock (h : Hub) (p : Nat) (g : CueLane → CueLane) (s : State) : (modLane h p g s).clock = s.clock := rfl
@[simp] theorem modLane_pins (h : Hub) (p : Nat) (g : CueLane → CueLane) (s : State) : (modLane h p g s).pins = s.pins := rfl
@[simp] theorem modLane_zordin (h : Hub) (p : Nat) (g : CueLane → CueLane) (s : State) : (modLane h p g s).zordin = s.zordin := rfl
@[simp] theorem modLane_chans (h : Hub) (p : Nat) (g : CueLane → CueLane) (s : State) : (modLane h p g s).chans = s.chans := rfl
@[simp] theorem modLane_ev (h : Hub) (p : Nat) (g : CueLane → CueLane) (s : State) : (modLane h p g s).ev = s.ev := rfl
@[simp] theorem modLane_start (h : Hub) (p : Nat) (g : CueLane → CueLane) (s : State) : (modLane h p g s).start = s.start := rfl
@[simp] theorem modLane_join (h : Hub) (p : Nat) (g : CueLane → CueLane) (s : State) : (modLane h p g s).join = s.join := rfl
@[simp] theorem modLane_grants (h : Hub) (p : Nat) (g : CueLane → CueLane) (s : State) : (modLane h p g s).grants = s.grants := rfl
@[simp] theorem modLane_tx (h : Hub) (p : Nat) (g : CueLane → CueLane) (s : State) : (modLane h p g s).tx = s.tx := rfl
@[simp] theorem modLane_rx (h : Hub) (p : Nat) (g : CueLane → CueLane) (s : State) : (modLane h p g s).rx = s.rx := rfl
@[simp] theorem modLane_express (h : Hub) (p : Nat) (g : CueLane → CueLane) (s : State) : (modLane h p g s).express = s.express := rfl
@[simp] theorem modLane_power (h : Hub) (p : Nat) (g : CueLane → CueLane) (s : State) : (modLane h p g s).power = s.power := rfl
@[simp] theorem modLane_island (h : Hub) (p : Nat) (g : CueLane → CueLane) (s : State) : (modLane h p g s).island = s.island := rfl
@[simp] theorem modLane_sec (h : Hub) (p : Nat) (g : CueLane → CueLane) (s : State) : (modLane h p g s).sec = s.sec := rfl
@[simp] theorem modLane_ports (h : Hub) (p : Nat) (g : CueLane → CueLane) (s : State) : (modLane h p g s).ports = s.ports := rfl
@[simp] theorem modLane_queues (h : Hub) (p : Nat) (g : CueLane → CueLane) (s : State) : (modLane h p g s).queues = s.queues := rfl
@[simp] theorem modLane_hq (h : Hub) (p : Nat) (g : CueLane → CueLane) (s : State) : (modLane h p g s).hq = s.hq := rfl
@[simp] theorem modLane_time (h : Hub) (p : Nat) (g : CueLane → CueLane) (s : State) : (modLane h p g s).time = s.time := rfl
@[simp] theorem modLane_serial (h : Hub) (p : Nat) (g : CueLane → CueLane) (s : State) : (modLane h p g s).serial = s.serial := rfl
@[simp] theorem modLane_certLen (h : Hub) (p : Nat) (g : CueLane → CueLane) (s : State) : (modLane h p g s).certLen = s.certLen := rfl
@[simp] theorem modLane_hostMem (h : Hub) (p : Nat) (g : CueLane → CueLane) (s : State) : (modLane h p g s).hostMem = s.hostMem := rfl
@[simp] theorem modLane_readBack (h : Hub) (p : Nat) (g : CueLane → CueLane) (s : State) : (modLane h p g s).readBack = s.readBack := rfl
@[simp] theorem modLane_free (h : Hub) (p : Nat) (g : CueLane → CueLane) (s : State) : (modLane h p g s).free = s.free := rfl

@[simp] theorem modTime_pending (g : Time → Time) (s : State) : (modTime g s).pending = s.pending := rfl
@[simp] theorem modTime_clock (g : Time → Time) (s : State) : (modTime g s).clock = s.clock := rfl
@[simp] theorem modTime_pins (g : Time → Time) (s : State) : (modTime g s).pins = s.pins := rfl
@[simp] theorem modTime_zordin (g : Time → Time) (s : State) : (modTime g s).zordin = s.zordin := rfl
@[simp] theorem modTime_chans (g : Time → Time) (s : State) : (modTime g s).chans = s.chans := rfl
@[simp] theorem modTime_ev (g : Time → Time) (s : State) : (modTime g s).ev = s.ev := rfl
@[simp] theorem modTime_start (g : Time → Time) (s : State) : (modTime g s).start = s.start := rfl
@[simp] theorem modTime_cue (g : Time → Time) (s : State) : (modTime g s).cue = s.cue := rfl
@[simp] theorem modTime_join (g : Time → Time) (s : State) : (modTime g s).join = s.join := rfl
@[simp] theorem modTime_grants (g : Time → Time) (s : State) : (modTime g s).grants = s.grants := rfl
@[simp] theorem modTime_tx (g : Time → Time) (s : State) : (modTime g s).tx = s.tx := rfl
@[simp] theorem modTime_rx (g : Time → Time) (s : State) : (modTime g s).rx = s.rx := rfl
@[simp] theorem modTime_express (g : Time → Time) (s : State) : (modTime g s).express = s.express := rfl
@[simp] theorem modTime_power (g : Time → Time) (s : State) : (modTime g s).power = s.power := rfl
@[simp] theorem modTime_island (g : Time → Time) (s : State) : (modTime g s).island = s.island := rfl
@[simp] theorem modTime_sec (g : Time → Time) (s : State) : (modTime g s).sec = s.sec := rfl
@[simp] theorem modTime_ports (g : Time → Time) (s : State) : (modTime g s).ports = s.ports := rfl
@[simp] theorem modTime_queues (g : Time → Time) (s : State) : (modTime g s).queues = s.queues := rfl
@[simp] theorem modTime_hq (g : Time → Time) (s : State) : (modTime g s).hq = s.hq := rfl
@[simp] theorem modTime_serial (g : Time → Time) (s : State) : (modTime g s).serial = s.serial := rfl
@[simp] theorem modTime_certLen (g : Time → Time) (s : State) : (modTime g s).certLen = s.certLen := rfl
@[simp] theorem modTime_hostMem (g : Time → Time) (s : State) : (modTime g s).hostMem = s.hostMem := rfl
@[simp] theorem modTime_readBack (g : Time → Time) (s : State) : (modTime g s).readBack = s.readBack := rfl
@[simp] theorem modTime_free (g : Time → Time) (s : State) : (modTime g s).free = s.free := rfl

@[simp] theorem modPort_pending (p : Nat) (g : Port → Port) (s : State) : (modPort p g s).pending = s.pending := rfl
@[simp] theorem modPort_clock (p : Nat) (g : Port → Port) (s : State) : (modPort p g s).clock = s.clock := rfl
@[simp] theorem modPort_pins (p : Nat) (g : Port → Port) (s : State) : (modPort p g s).pins = s.pins := rfl
@[simp] theorem modPort_zordin (p : Nat) (g : Port → Port) (s : State) : (modPort p g s).zordin = s.zordin := rfl
@[simp] theorem modPort_chans (p : Nat) (g : Port → Port) (s : State) : (modPort p g s).chans = s.chans := rfl
@[simp] theorem modPort_ev (p : Nat) (g : Port → Port) (s : State) : (modPort p g s).ev = s.ev := rfl
@[simp] theorem modPort_start (p : Nat) (g : Port → Port) (s : State) : (modPort p g s).start = s.start := rfl
@[simp] theorem modPort_cue (p : Nat) (g : Port → Port) (s : State) : (modPort p g s).cue = s.cue := rfl
@[simp] theorem modPort_join (p : Nat) (g : Port → Port) (s : State) : (modPort p g s).join = s.join := rfl
@[simp] theorem modPort_grants (p : Nat) (g : Port → Port) (s : State) : (modPort p g s).grants = s.grants := rfl
@[simp] theorem modPort_tx (p : Nat) (g : Port → Port) (s : State) : (modPort p g s).tx = s.tx := rfl
@[simp] theorem modPort_rx (p : Nat) (g : Port → Port) (s : State) : (modPort p g s).rx = s.rx := rfl
@[simp] theorem modPort_express (p : Nat) (g : Port → Port) (s : State) : (modPort p g s).express = s.express := rfl
@[simp] theorem modPort_power (p : Nat) (g : Port → Port) (s : State) : (modPort p g s).power = s.power := rfl
@[simp] theorem modPort_island (p : Nat) (g : Port → Port) (s : State) : (modPort p g s).island = s.island := rfl
@[simp] theorem modPort_sec (p : Nat) (g : Port → Port) (s : State) : (modPort p g s).sec = s.sec := rfl
@[simp] theorem modPort_queues (p : Nat) (g : Port → Port) (s : State) : (modPort p g s).queues = s.queues := rfl
@[simp] theorem modPort_hq (p : Nat) (g : Port → Port) (s : State) : (modPort p g s).hq = s.hq := rfl
@[simp] theorem modPort_time (p : Nat) (g : Port → Port) (s : State) : (modPort p g s).time = s.time := rfl
@[simp] theorem modPort_serial (p : Nat) (g : Port → Port) (s : State) : (modPort p g s).serial = s.serial := rfl
@[simp] theorem modPort_certLen (p : Nat) (g : Port → Port) (s : State) : (modPort p g s).certLen = s.certLen := rfl
@[simp] theorem modPort_hostMem (p : Nat) (g : Port → Port) (s : State) : (modPort p g s).hostMem = s.hostMem := rfl
@[simp] theorem modPort_readBack (p : Nat) (g : Port → Port) (s : State) : (modPort p g s).readBack = s.readBack := rfl
@[simp] theorem modPort_free (p : Nat) (g : Port → Port) (s : State) : (modPort p g s).free = s.free := rfl

@[simp] theorem countClassify_pending (i : Nat) (n : Nat) (s : State) : (countClassify i n s).pending = s.pending := rfl
@[simp] theorem countClassify_clock (i : Nat) (n : Nat) (s : State) : (countClassify i n s).clock = s.clock := rfl
@[simp] theorem countClassify_pins (i : Nat) (n : Nat) (s : State) : (countClassify i n s).pins = s.pins := rfl
@[simp] theorem countClassify_zordin (i : Nat) (n : Nat) (s : State) : (countClassify i n s).zordin = s.zordin := rfl
@[simp] theorem countClassify_chans (i : Nat) (n : Nat) (s : State) : (countClassify i n s).chans = s.chans := rfl
@[simp] theorem countClassify_ev (i : Nat) (n : Nat) (s : State) : (countClassify i n s).ev = s.ev := rfl
@[simp] theorem countClassify_start (i : Nat) (n : Nat) (s : State) : (countClassify i n s).start = s.start := rfl
@[simp] theorem countClassify_cue (i : Nat) (n : Nat) (s : State) : (countClassify i n s).cue = s.cue := rfl
@[simp] theorem countClassify_join (i : Nat) (n : Nat) (s : State) : (countClassify i n s).join = s.join := rfl
@[simp] theorem countClassify_grants (i : Nat) (n : Nat) (s : State) : (countClassify i n s).grants = s.grants := rfl
@[simp] theorem countClassify_tx (i : Nat) (n : Nat) (s : State) : (countClassify i n s).tx = s.tx := rfl
@[simp] theorem countClassify_rx (i : Nat) (n : Nat) (s : State) : (countClassify i n s).rx = s.rx := rfl
@[simp] theorem countClassify_express (i : Nat) (n : Nat) (s : State) : (countClassify i n s).express = s.express := rfl
@[simp] theorem countClassify_power (i : Nat) (n : Nat) (s : State) : (countClassify i n s).power = s.power := rfl
@[simp] theorem countClassify_island (i : Nat) (n : Nat) (s : State) : (countClassify i n s).island = s.island := rfl
@[simp] theorem countClassify_sec (i : Nat) (n : Nat) (s : State) : (countClassify i n s).sec = s.sec := rfl
@[simp] theorem countClassify_queues (i : Nat) (n : Nat) (s : State) : (countClassify i n s).queues = s.queues := rfl
@[simp] theorem countClassify_hq (i : Nat) (n : Nat) (s : State) : (countClassify i n s).hq = s.hq := rfl
@[simp] theorem countClassify_time (i : Nat) (n : Nat) (s : State) : (countClassify i n s).time = s.time := rfl
@[simp] theorem countClassify_serial (i : Nat) (n : Nat) (s : State) : (countClassify i n s).serial = s.serial := rfl
@[simp] theorem countClassify_certLen (i : Nat) (n : Nat) (s : State) : (countClassify i n s).certLen = s.certLen := rfl
@[simp] theorem countClassify_hostMem (i : Nat) (n : Nat) (s : State) : (countClassify i n s).hostMem = s.hostMem := rfl
@[simp] theorem countClassify_readBack (i : Nat) (n : Nat) (s : State) : (countClassify i n s).readBack = s.readBack := rfl
@[simp] theorem countClassify_free (i : Nat) (n : Nat) (s : State) : (countClassify i n s).free = s.free := rfl

@[simp] theorem modGrants_pending (p : Nat) (g : PlaneGrants → PlaneGrants) (s : State) : (modGrants p g s).pending = s.pending := rfl
@[simp] theorem modGrants_clock (p : Nat) (g : PlaneGrants → PlaneGrants) (s : State) : (modGrants p g s).clock = s.clock := rfl
@[simp] theorem modGrants_pins (p : Nat) (g : PlaneGrants → PlaneGrants) (s : State) : (modGrants p g s).pins = s.pins := rfl
@[simp] theorem modGrants_zordin (p : Nat) (g : PlaneGrants → PlaneGrants) (s : State) : (modGrants p g s).zordin = s.zordin := rfl
@[simp] theorem modGrants_chans (p : Nat) (g : PlaneGrants → PlaneGrants) (s : State) : (modGrants p g s).chans = s.chans := rfl
@[simp] theorem modGrants_ev (p : Nat) (g : PlaneGrants → PlaneGrants) (s : State) : (modGrants p g s).ev = s.ev := rfl
@[simp] theorem modGrants_start (p : Nat) (g : PlaneGrants → PlaneGrants) (s : State) : (modGrants p g s).start = s.start := rfl
@[simp] theorem modGrants_cue (p : Nat) (g : PlaneGrants → PlaneGrants) (s : State) : (modGrants p g s).cue = s.cue := rfl
@[simp] theorem modGrants_join (p : Nat) (g : PlaneGrants → PlaneGrants) (s : State) : (modGrants p g s).join = s.join := rfl
@[simp] theorem modGrants_tx (p : Nat) (g : PlaneGrants → PlaneGrants) (s : State) : (modGrants p g s).tx = s.tx := rfl
@[simp] theorem modGrants_rx (p : Nat) (g : PlaneGrants → PlaneGrants) (s : State) : (modGrants p g s).rx = s.rx := rfl
@[simp] theorem modGrants_express (p : Nat) (g : PlaneGrants → PlaneGrants) (s : State) : (modGrants p g s).express = s.express := rfl
@[simp] theorem modGrants_power (p : Nat) (g : PlaneGrants → PlaneGrants) (s : State) : (modGrants p g s).power = s.power := rfl
@[simp] theorem modGrants_island (p : Nat) (g : PlaneGrants → PlaneGrants) (s : State) : (modGrants p g s).island = s.island := rfl
@[simp] theorem modGrants_sec (p : Nat) (g : PlaneGrants → PlaneGrants) (s : State) : (modGrants p g s).sec = s.sec := rfl
@[simp] theorem modGrants_ports (p : Nat) (g : PlaneGrants → PlaneGrants) (s : State) : (modGrants p g s).ports = s.ports := rfl
@[simp] theorem modGrants_queues (p : Nat) (g : PlaneGrants → PlaneGrants) (s : State) : (modGrants p g s).queues = s.queues := rfl
@[simp] theorem modGrants_hq (p : Nat) (g : PlaneGrants → PlaneGrants) (s : State) : (modGrants p g s).hq = s.hq := rfl
@[simp] theorem modGrants_time (p : Nat) (g : PlaneGrants → PlaneGrants) (s : State) : (modGrants p g s).time = s.time := rfl
@[simp] theorem modGrants_serial (p : Nat) (g : PlaneGrants → PlaneGrants) (s : State) : (modGrants p g s).serial = s.serial := rfl
@[simp] theorem modGrants_certLen (p : Nat) (g : PlaneGrants → PlaneGrants) (s : State) : (modGrants p g s).certLen = s.certLen := rfl
@[simp] theorem modGrants_hostMem (p : Nat) (g : PlaneGrants → PlaneGrants) (s : State) : (modGrants p g s).hostMem = s.hostMem := rfl
@[simp] theorem modGrants_readBack (p : Nat) (g : PlaneGrants → PlaneGrants) (s : State) : (modGrants p g s).readBack = s.readBack := rfl
@[simp] theorem modGrants_free (p : Nat) (g : PlaneGrants → PlaneGrants) (s : State) : (modGrants p g s).free = s.free := rfl

@[simp] theorem modRx_pending (g : Rx → Rx) (s : State) : (modRx g s).pending = s.pending := rfl
@[simp] theorem modRx_clock (g : Rx → Rx) (s : State) : (modRx g s).clock = s.clock := rfl
@[simp] theorem modRx_pins (g : Rx → Rx) (s : State) : (modRx g s).pins = s.pins := rfl
@[simp] theorem modRx_zordin (g : Rx → Rx) (s : State) : (modRx g s).zordin = s.zordin := rfl
@[simp] theorem modRx_chans (g : Rx → Rx) (s : State) : (modRx g s).chans = s.chans := rfl
@[simp] theorem modRx_ev (g : Rx → Rx) (s : State) : (modRx g s).ev = s.ev := rfl
@[simp] theorem modRx_start (g : Rx → Rx) (s : State) : (modRx g s).start = s.start := rfl
@[simp] theorem modRx_cue (g : Rx → Rx) (s : State) : (modRx g s).cue = s.cue := rfl
@[simp] theorem modRx_join (g : Rx → Rx) (s : State) : (modRx g s).join = s.join := rfl
@[simp] theorem modRx_grants (g : Rx → Rx) (s : State) : (modRx g s).grants = s.grants := rfl
@[simp] theorem modRx_tx (g : Rx → Rx) (s : State) : (modRx g s).tx = s.tx := rfl
@[simp] theorem modRx_express (g : Rx → Rx) (s : State) : (modRx g s).express = s.express := rfl
@[simp] theorem modRx_power (g : Rx → Rx) (s : State) : (modRx g s).power = s.power := rfl
@[simp] theorem modRx_island (g : Rx → Rx) (s : State) : (modRx g s).island = s.island := rfl
@[simp] theorem modRx_sec (g : Rx → Rx) (s : State) : (modRx g s).sec = s.sec := rfl
@[simp] theorem modRx_ports (g : Rx → Rx) (s : State) : (modRx g s).ports = s.ports := rfl
@[simp] theorem modRx_queues (g : Rx → Rx) (s : State) : (modRx g s).queues = s.queues := rfl
@[simp] theorem modRx_hq (g : Rx → Rx) (s : State) : (modRx g s).hq = s.hq := rfl
@[simp] theorem modRx_time (g : Rx → Rx) (s : State) : (modRx g s).time = s.time := rfl
@[simp] theorem modRx_serial (g : Rx → Rx) (s : State) : (modRx g s).serial = s.serial := rfl
@[simp] theorem modRx_certLen (g : Rx → Rx) (s : State) : (modRx g s).certLen = s.certLen := rfl
@[simp] theorem modRx_hostMem (g : Rx → Rx) (s : State) : (modRx g s).hostMem = s.hostMem := rfl
@[simp] theorem modRx_readBack (g : Rx → Rx) (s : State) : (modRx g s).readBack = s.readBack := rfl
@[simp] theorem modRx_free (g : Rx → Rx) (s : State) : (modRx g s).free = s.free := rfl

@[simp] theorem modKey_pending (k : Nat) (g : LineKey → LineKey) (s : State) : (modKey k g s).pending = s.pending := rfl
@[simp] theorem modKey_clock (k : Nat) (g : LineKey → LineKey) (s : State) : (modKey k g s).clock = s.clock := rfl
@[simp] theorem modKey_pins (k : Nat) (g : LineKey → LineKey) (s : State) : (modKey k g s).pins = s.pins := rfl
@[simp] theorem modKey_zordin (k : Nat) (g : LineKey → LineKey) (s : State) : (modKey k g s).zordin = s.zordin := rfl
@[simp] theorem modKey_chans (k : Nat) (g : LineKey → LineKey) (s : State) : (modKey k g s).chans = s.chans := rfl
@[simp] theorem modKey_ev (k : Nat) (g : LineKey → LineKey) (s : State) : (modKey k g s).ev = s.ev := rfl
@[simp] theorem modKey_start (k : Nat) (g : LineKey → LineKey) (s : State) : (modKey k g s).start = s.start := rfl
@[simp] theorem modKey_cue (k : Nat) (g : LineKey → LineKey) (s : State) : (modKey k g s).cue = s.cue := rfl
@[simp] theorem modKey_join (k : Nat) (g : LineKey → LineKey) (s : State) : (modKey k g s).join = s.join := rfl
@[simp] theorem modKey_grants (k : Nat) (g : LineKey → LineKey) (s : State) : (modKey k g s).grants = s.grants := rfl
@[simp] theorem modKey_tx (k : Nat) (g : LineKey → LineKey) (s : State) : (modKey k g s).tx = s.tx := rfl
@[simp] theorem modKey_rx (k : Nat) (g : LineKey → LineKey) (s : State) : (modKey k g s).rx = s.rx := rfl
@[simp] theorem modKey_express (k : Nat) (g : LineKey → LineKey) (s : State) : (modKey k g s).express = s.express := rfl
@[simp] theorem modKey_power (k : Nat) (g : LineKey → LineKey) (s : State) : (modKey k g s).power = s.power := rfl
@[simp] theorem modKey_island (k : Nat) (g : LineKey → LineKey) (s : State) : (modKey k g s).island = s.island := rfl
@[simp] theorem modKey_ports (k : Nat) (g : LineKey → LineKey) (s : State) : (modKey k g s).ports = s.ports := rfl
@[simp] theorem modKey_queues (k : Nat) (g : LineKey → LineKey) (s : State) : (modKey k g s).queues = s.queues := rfl
@[simp] theorem modKey_hq (k : Nat) (g : LineKey → LineKey) (s : State) : (modKey k g s).hq = s.hq := rfl
@[simp] theorem modKey_time (k : Nat) (g : LineKey → LineKey) (s : State) : (modKey k g s).time = s.time := rfl
@[simp] theorem modKey_serial (k : Nat) (g : LineKey → LineKey) (s : State) : (modKey k g s).serial = s.serial := rfl
@[simp] theorem modKey_certLen (k : Nat) (g : LineKey → LineKey) (s : State) : (modKey k g s).certLen = s.certLen := rfl
@[simp] theorem modKey_hostMem (k : Nat) (g : LineKey → LineKey) (s : State) : (modKey k g s).hostMem = s.hostMem := rfl
@[simp] theorem modKey_readBack (k : Nat) (g : LineKey → LineKey) (s : State) : (modKey k g s).readBack = s.readBack := rfl
@[simp] theorem modKey_free (k : Nat) (g : LineKey → LineKey) (s : State) : (modKey k g s).free = s.free := rfl

@[simp] theorem countSec_pending (i : Nat) (n : Nat) (s : State) : (countSec i n s).pending = s.pending := rfl
@[simp] theorem countSec_clock (i : Nat) (n : Nat) (s : State) : (countSec i n s).clock = s.clock := rfl
@[simp] theorem countSec_pins (i : Nat) (n : Nat) (s : State) : (countSec i n s).pins = s.pins := rfl
@[simp] theorem countSec_zordin (i : Nat) (n : Nat) (s : State) : (countSec i n s).zordin = s.zordin := rfl
@[simp] theorem countSec_chans (i : Nat) (n : Nat) (s : State) : (countSec i n s).chans = s.chans := rfl
@[simp] theorem countSec_ev (i : Nat) (n : Nat) (s : State) : (countSec i n s).ev = s.ev := rfl
@[simp] theorem countSec_start (i : Nat) (n : Nat) (s : State) : (countSec i n s).start = s.start := rfl
@[simp] theorem countSec_cue (i : Nat) (n : Nat) (s : State) : (countSec i n s).cue = s.cue := rfl
@[simp] theorem countSec_join (i : Nat) (n : Nat) (s : State) : (countSec i n s).join = s.join := rfl
@[simp] theorem countSec_grants (i : Nat) (n : Nat) (s : State) : (countSec i n s).grants = s.grants := rfl
@[simp] theorem countSec_tx (i : Nat) (n : Nat) (s : State) : (countSec i n s).tx = s.tx := rfl
@[simp] theorem countSec_rx (i : Nat) (n : Nat) (s : State) : (countSec i n s).rx = s.rx := rfl
@[simp] theorem countSec_express (i : Nat) (n : Nat) (s : State) : (countSec i n s).express = s.express := rfl
@[simp] theorem countSec_power (i : Nat) (n : Nat) (s : State) : (countSec i n s).power = s.power := rfl
@[simp] theorem countSec_island (i : Nat) (n : Nat) (s : State) : (countSec i n s).island = s.island := rfl
@[simp] theorem countSec_ports (i : Nat) (n : Nat) (s : State) : (countSec i n s).ports = s.ports := rfl
@[simp] theorem countSec_queues (i : Nat) (n : Nat) (s : State) : (countSec i n s).queues = s.queues := rfl
@[simp] theorem countSec_hq (i : Nat) (n : Nat) (s : State) : (countSec i n s).hq = s.hq := rfl
@[simp] theorem countSec_time (i : Nat) (n : Nat) (s : State) : (countSec i n s).time = s.time := rfl
@[simp] theorem countSec_serial (i : Nat) (n : Nat) (s : State) : (countSec i n s).serial = s.serial := rfl
@[simp] theorem countSec_certLen (i : Nat) (n : Nat) (s : State) : (countSec i n s).certLen = s.certLen := rfl
@[simp] theorem countSec_hostMem (i : Nat) (n : Nat) (s : State) : (countSec i n s).hostMem = s.hostMem := rfl
@[simp] theorem countSec_readBack (i : Nat) (n : Nat) (s : State) : (countSec i n s).readBack = s.readBack := rfl
@[simp] theorem countSec_free (i : Nat) (n : Nat) (s : State) : (countSec i n s).free = s.free := rfl

@[simp] theorem modSeq_pending (g : Sequence → Sequence) (s : State) : (modSeq g s).pending = s.pending := rfl
@[simp] theorem modSeq_clock (g : Sequence → Sequence) (s : State) : (modSeq g s).clock = s.clock := rfl
@[simp] theorem modSeq_pins (g : Sequence → Sequence) (s : State) : (modSeq g s).pins = s.pins := rfl
@[simp] theorem modSeq_zordin (g : Sequence → Sequence) (s : State) : (modSeq g s).zordin = s.zordin := rfl
@[simp] theorem modSeq_chans (g : Sequence → Sequence) (s : State) : (modSeq g s).chans = s.chans := rfl
@[simp] theorem modSeq_ev (g : Sequence → Sequence) (s : State) : (modSeq g s).ev = s.ev := rfl
@[simp] theorem modSeq_start (g : Sequence → Sequence) (s : State) : (modSeq g s).start = s.start := rfl
@[simp] theorem modSeq_cue (g : Sequence → Sequence) (s : State) : (modSeq g s).cue = s.cue := rfl
@[simp] theorem modSeq_join (g : Sequence → Sequence) (s : State) : (modSeq g s).join = s.join := rfl
@[simp] theorem modSeq_grants (g : Sequence → Sequence) (s : State) : (modSeq g s).grants = s.grants := rfl
@[simp] theorem modSeq_tx (g : Sequence → Sequence) (s : State) : (modSeq g s).tx = s.tx := rfl
@[simp] theorem modSeq_rx (g : Sequence → Sequence) (s : State) : (modSeq g s).rx = s.rx := rfl
@[simp] theorem modSeq_express (g : Sequence → Sequence) (s : State) : (modSeq g s).express = s.express := rfl
@[simp] theorem modSeq_power (g : Sequence → Sequence) (s : State) : (modSeq g s).power = s.power := rfl
@[simp] theorem modSeq_island (g : Sequence → Sequence) (s : State) : (modSeq g s).island = s.island := rfl
@[simp] theorem modSeq_ports (g : Sequence → Sequence) (s : State) : (modSeq g s).ports = s.ports := rfl
@[simp] theorem modSeq_queues (g : Sequence → Sequence) (s : State) : (modSeq g s).queues = s.queues := rfl
@[simp] theorem modSeq_hq (g : Sequence → Sequence) (s : State) : (modSeq g s).hq = s.hq := rfl
@[simp] theorem modSeq_time (g : Sequence → Sequence) (s : State) : (modSeq g s).time = s.time := rfl
@[simp] theorem modSeq_serial (g : Sequence → Sequence) (s : State) : (modSeq g s).serial = s.serial := rfl
@[simp] theorem modSeq_certLen (g : Sequence → Sequence) (s : State) : (modSeq g s).certLen = s.certLen := rfl
@[simp] theorem modSeq_hostMem (g : Sequence → Sequence) (s : State) : (modSeq g s).hostMem = s.hostMem := rfl
@[simp] theorem modSeq_readBack (g : Sequence → Sequence) (s : State) : (modSeq g s).readBack = s.readBack := rfl
@[simp] theorem modSeq_free (g : Sequence → Sequence) (s : State) : (modSeq g s).free = s.free := rfl

@[simp] theorem modRoot_pending (g : RootClock → RootClock) (s : State) : (modRoot g s).pending = s.pending := rfl
@[simp] theorem modRoot_clock (g : RootClock → RootClock) (s : State) : (modRoot g s).clock = s.clock := rfl
@[simp] theorem modRoot_pins (g : RootClock → RootClock) (s : State) : (modRoot g s).pins = s.pins := rfl
@[simp] theorem modRoot_zordin (g : RootClock → RootClock) (s : State) : (modRoot g s).zordin = s.zordin := rfl
@[simp] theorem modRoot_chans (g : RootClock → RootClock) (s : State) : (modRoot g s).chans = s.chans := rfl
@[simp] theorem modRoot_ev (g : RootClock → RootClock) (s : State) : (modRoot g s).ev = s.ev := rfl
@[simp] theorem modRoot_start (g : RootClock → RootClock) (s : State) : (modRoot g s).start = s.start := rfl
@[simp] theorem modRoot_join (g : RootClock → RootClock) (s : State) : (modRoot g s).join = s.join := rfl
@[simp] theorem modRoot_grants (g : RootClock → RootClock) (s : State) : (modRoot g s).grants = s.grants := rfl
@[simp] theorem modRoot_tx (g : RootClock → RootClock) (s : State) : (modRoot g s).tx = s.tx := rfl
@[simp] theorem modRoot_rx (g : RootClock → RootClock) (s : State) : (modRoot g s).rx = s.rx := rfl
@[simp] theorem modRoot_express (g : RootClock → RootClock) (s : State) : (modRoot g s).express = s.express := rfl
@[simp] theorem modRoot_power (g : RootClock → RootClock) (s : State) : (modRoot g s).power = s.power := rfl
@[simp] theorem modRoot_island (g : RootClock → RootClock) (s : State) : (modRoot g s).island = s.island := rfl
@[simp] theorem modRoot_sec (g : RootClock → RootClock) (s : State) : (modRoot g s).sec = s.sec := rfl
@[simp] theorem modRoot_ports (g : RootClock → RootClock) (s : State) : (modRoot g s).ports = s.ports := rfl
@[simp] theorem modRoot_queues (g : RootClock → RootClock) (s : State) : (modRoot g s).queues = s.queues := rfl
@[simp] theorem modRoot_hq (g : RootClock → RootClock) (s : State) : (modRoot g s).hq = s.hq := rfl
@[simp] theorem modRoot_time (g : RootClock → RootClock) (s : State) : (modRoot g s).time = s.time := rfl
@[simp] theorem modRoot_serial (g : RootClock → RootClock) (s : State) : (modRoot g s).serial = s.serial := rfl
@[simp] theorem modRoot_certLen (g : RootClock → RootClock) (s : State) : (modRoot g s).certLen = s.certLen := rfl
@[simp] theorem modRoot_hostMem (g : RootClock → RootClock) (s : State) : (modRoot g s).hostMem = s.hostMem := rfl
@[simp] theorem modRoot_readBack (g : RootClock → RootClock) (s : State) : (modRoot g s).readBack = s.readBack := rfl
@[simp] theorem modRoot_free (g : RootClock → RootClock) (s : State) : (modRoot g s).free = s.free := rfl

@[simp] theorem modExpress_pending (g : Express → Express) (s : State) : (modExpress g s).pending = s.pending := rfl
@[simp] theorem modExpress_clock (g : Express → Express) (s : State) : (modExpress g s).clock = s.clock := rfl
@[simp] theorem modExpress_pins (g : Express → Express) (s : State) : (modExpress g s).pins = s.pins := rfl
@[simp] theorem modExpress_zordin (g : Express → Express) (s : State) : (modExpress g s).zordin = s.zordin := rfl
@[simp] theorem modExpress_chans (g : Express → Express) (s : State) : (modExpress g s).chans = s.chans := rfl
@[simp] theorem modExpress_ev (g : Express → Express) (s : State) : (modExpress g s).ev = s.ev := rfl
@[simp] theorem modExpress_start (g : Express → Express) (s : State) : (modExpress g s).start = s.start := rfl
@[simp] theorem modExpress_cue (g : Express → Express) (s : State) : (modExpress g s).cue = s.cue := rfl
@[simp] theorem modExpress_join (g : Express → Express) (s : State) : (modExpress g s).join = s.join := rfl
@[simp] theorem modExpress_grants (g : Express → Express) (s : State) : (modExpress g s).grants = s.grants := rfl
@[simp] theorem modExpress_tx (g : Express → Express) (s : State) : (modExpress g s).tx = s.tx := rfl
@[simp] theorem modExpress_rx (g : Express → Express) (s : State) : (modExpress g s).rx = s.rx := rfl
@[simp] theorem modExpress_power (g : Express → Express) (s : State) : (modExpress g s).power = s.power := rfl
@[simp] theorem modExpress_island (g : Express → Express) (s : State) : (modExpress g s).island = s.island := rfl
@[simp] theorem modExpress_sec (g : Express → Express) (s : State) : (modExpress g s).sec = s.sec := rfl
@[simp] theorem modExpress_ports (g : Express → Express) (s : State) : (modExpress g s).ports = s.ports := rfl
@[simp] theorem modExpress_queues (g : Express → Express) (s : State) : (modExpress g s).queues = s.queues := rfl
@[simp] theorem modExpress_hq (g : Express → Express) (s : State) : (modExpress g s).hq = s.hq := rfl
@[simp] theorem modExpress_time (g : Express → Express) (s : State) : (modExpress g s).time = s.time := rfl
@[simp] theorem modExpress_serial (g : Express → Express) (s : State) : (modExpress g s).serial = s.serial := rfl
@[simp] theorem modExpress_certLen (g : Express → Express) (s : State) : (modExpress g s).certLen = s.certLen := rfl
@[simp] theorem modExpress_hostMem (g : Express → Express) (s : State) : (modExpress g s).hostMem = s.hostMem := rfl
@[simp] theorem modExpress_readBack (g : Express → Express) (s : State) : (modExpress g s).readBack = s.readBack := rfl
@[simp] theorem modExpress_free (g : Express → Express) (s : State) : (modExpress g s).free = s.free := rfl

@[simp] theorem modIsland_pending (g : Island → Island) (s : State) : (modIsland g s).pending = s.pending := rfl
@[simp] theorem modIsland_clock (g : Island → Island) (s : State) : (modIsland g s).clock = s.clock := rfl
@[simp] theorem modIsland_pins (g : Island → Island) (s : State) : (modIsland g s).pins = s.pins := rfl
@[simp] theorem modIsland_zordin (g : Island → Island) (s : State) : (modIsland g s).zordin = s.zordin := rfl
@[simp] theorem modIsland_chans (g : Island → Island) (s : State) : (modIsland g s).chans = s.chans := rfl
@[simp] theorem modIsland_ev (g : Island → Island) (s : State) : (modIsland g s).ev = s.ev := rfl
@[simp] theorem modIsland_start (g : Island → Island) (s : State) : (modIsland g s).start = s.start := rfl
@[simp] theorem modIsland_cue (g : Island → Island) (s : State) : (modIsland g s).cue = s.cue := rfl
@[simp] theorem modIsland_join (g : Island → Island) (s : State) : (modIsland g s).join = s.join := rfl
@[simp] theorem modIsland_grants (g : Island → Island) (s : State) : (modIsland g s).grants = s.grants := rfl
@[simp] theorem modIsland_tx (g : Island → Island) (s : State) : (modIsland g s).tx = s.tx := rfl
@[simp] theorem modIsland_rx (g : Island → Island) (s : State) : (modIsland g s).rx = s.rx := rfl
@[simp] theorem modIsland_express (g : Island → Island) (s : State) : (modIsland g s).express = s.express := rfl
@[simp] theorem modIsland_power (g : Island → Island) (s : State) : (modIsland g s).power = s.power := rfl
@[simp] theorem modIsland_sec (g : Island → Island) (s : State) : (modIsland g s).sec = s.sec := rfl
@[simp] theorem modIsland_ports (g : Island → Island) (s : State) : (modIsland g s).ports = s.ports := rfl
@[simp] theorem modIsland_queues (g : Island → Island) (s : State) : (modIsland g s).queues = s.queues := rfl
@[simp] theorem modIsland_hq (g : Island → Island) (s : State) : (modIsland g s).hq = s.hq := rfl
@[simp] theorem modIsland_time (g : Island → Island) (s : State) : (modIsland g s).time = s.time := rfl
@[simp] theorem modIsland_serial (g : Island → Island) (s : State) : (modIsland g s).serial = s.serial := rfl
@[simp] theorem modIsland_certLen (g : Island → Island) (s : State) : (modIsland g s).certLen = s.certLen := rfl
@[simp] theorem modIsland_hostMem (g : Island → Island) (s : State) : (modIsland g s).hostMem = s.hostMem := rfl
@[simp] theorem modIsland_readBack (g : Island → Island) (s : State) : (modIsland g s).readBack = s.readBack := rfl
@[simp] theorem modIsland_free (g : Island → Island) (s : State) : (modIsland g s).free = s.free := rfl

@[simp] theorem modStart_pending (g : Startup → Startup) (s : State) : (modStart g s).pending = s.pending := rfl
@[simp] theorem modStart_clock (g : Startup → Startup) (s : State) : (modStart g s).clock = s.clock := rfl
@[simp] theorem modStart_pins (g : Startup → Startup) (s : State) : (modStart g s).pins = s.pins := rfl
@[simp] theorem modStart_zordin (g : Startup → Startup) (s : State) : (modStart g s).zordin = s.zordin := rfl
@[simp] theorem modStart_chans (g : Startup → Startup) (s : State) : (modStart g s).chans = s.chans := rfl
@[simp] theorem modStart_ev (g : Startup → Startup) (s : State) : (modStart g s).ev = s.ev := rfl
@[simp] theorem modStart_cue (g : Startup → Startup) (s : State) : (modStart g s).cue = s.cue := rfl
@[simp] theorem modStart_join (g : Startup → Startup) (s : State) : (modStart g s).join = s.join := rfl
@[simp] theorem modStart_grants (g : Startup → Startup) (s : State) : (modStart g s).grants = s.grants := rfl
@[simp] theorem modStart_tx (g : Startup → Startup) (s : State) : (modStart g s).tx = s.tx := rfl
@[simp] theorem modStart_rx (g : Startup → Startup) (s : State) : (modStart g s).rx = s.rx := rfl
@[simp] theorem modStart_express (g : Startup → Startup) (s : State) : (modStart g s).express = s.express := rfl
@[simp] theorem modStart_power (g : Startup → Startup) (s : State) : (modStart g s).power = s.power := rfl
@[simp] theorem modStart_island (g : Startup → Startup) (s : State) : (modStart g s).island = s.island := rfl
@[simp] theorem modStart_sec (g : Startup → Startup) (s : State) : (modStart g s).sec = s.sec := rfl
@[simp] theorem modStart_ports (g : Startup → Startup) (s : State) : (modStart g s).ports = s.ports := rfl
@[simp] theorem modStart_queues (g : Startup → Startup) (s : State) : (modStart g s).queues = s.queues := rfl
@[simp] theorem modStart_hq (g : Startup → Startup) (s : State) : (modStart g s).hq = s.hq := rfl
@[simp] theorem modStart_time (g : Startup → Startup) (s : State) : (modStart g s).time = s.time := rfl
@[simp] theorem modStart_serial (g : Startup → Startup) (s : State) : (modStart g s).serial = s.serial := rfl
@[simp] theorem modStart_certLen (g : Startup → Startup) (s : State) : (modStart g s).certLen = s.certLen := rfl
@[simp] theorem modStart_hostMem (g : Startup → Startup) (s : State) : (modStart g s).hostMem = s.hostMem := rfl
@[simp] theorem modStart_readBack (g : Startup → Startup) (s : State) : (modStart g s).readBack = s.readBack := rfl
@[simp] theorem modStart_free (g : Startup → Startup) (s : State) : (modStart g s).free = s.free := rfl

@[simp] theorem modHq_pending (g : HostQueues → HostQueues) (s : State) : (modHq g s).pending = s.pending := rfl
@[simp] theorem modHq_clock (g : HostQueues → HostQueues) (s : State) : (modHq g s).clock = s.clock := rfl
@[simp] theorem modHq_pins (g : HostQueues → HostQueues) (s : State) : (modHq g s).pins = s.pins := rfl
@[simp] theorem modHq_zordin (g : HostQueues → HostQueues) (s : State) : (modHq g s).zordin = s.zordin := rfl
@[simp] theorem modHq_chans (g : HostQueues → HostQueues) (s : State) : (modHq g s).chans = s.chans := rfl
@[simp] theorem modHq_ev (g : HostQueues → HostQueues) (s : State) : (modHq g s).ev = s.ev := rfl
@[simp] theorem modHq_start (g : HostQueues → HostQueues) (s : State) : (modHq g s).start = s.start := rfl
@[simp] theorem modHq_cue (g : HostQueues → HostQueues) (s : State) : (modHq g s).cue = s.cue := rfl
@[simp] theorem modHq_join (g : HostQueues → HostQueues) (s : State) : (modHq g s).join = s.join := rfl
@[simp] theorem modHq_grants (g : HostQueues → HostQueues) (s : State) : (modHq g s).grants = s.grants := rfl
@[simp] theorem modHq_tx (g : HostQueues → HostQueues) (s : State) : (modHq g s).tx = s.tx := rfl
@[simp] theorem modHq_rx (g : HostQueues → HostQueues) (s : State) : (modHq g s).rx = s.rx := rfl
@[simp] theorem modHq_express (g : HostQueues → HostQueues) (s : State) : (modHq g s).express = s.express := rfl
@[simp] theorem modHq_power (g : HostQueues → HostQueues) (s : State) : (modHq g s).power = s.power := rfl
@[simp] theorem modHq_island (g : HostQueues → HostQueues) (s : State) : (modHq g s).island = s.island := rfl
@[simp] theorem modHq_sec (g : HostQueues → HostQueues) (s : State) : (modHq g s).sec = s.sec := rfl
@[simp] theorem modHq_ports (g : HostQueues → HostQueues) (s : State) : (modHq g s).ports = s.ports := rfl
@[simp] theorem modHq_queues (g : HostQueues → HostQueues) (s : State) : (modHq g s).queues = s.queues := rfl
@[simp] theorem modHq_time (g : HostQueues → HostQueues) (s : State) : (modHq g s).time = s.time := rfl
@[simp] theorem modHq_serial (g : HostQueues → HostQueues) (s : State) : (modHq g s).serial = s.serial := rfl
@[simp] theorem modHq_certLen (g : HostQueues → HostQueues) (s : State) : (modHq g s).certLen = s.certLen := rfl
@[simp] theorem modHq_hostMem (g : HostQueues → HostQueues) (s : State) : (modHq g s).hostMem = s.hostMem := rfl
@[simp] theorem modHq_readBack (g : HostQueues → HostQueues) (s : State) : (modHq g s).readBack = s.readBack := rfl
@[simp] theorem modHq_free (g : HostQueues → HostQueues) (s : State) : (modHq g s).free = s.free := rfl

@[simp] theorem modPorts_pending (g : Ports → Ports) (s : State) : (modPorts g s).pending = s.pending := rfl
@[simp] theorem modPorts_clock (g : Ports → Ports) (s : State) : (modPorts g s).clock = s.clock := rfl
@[simp] theorem modPorts_pins (g : Ports → Ports) (s : State) : (modPorts g s).pins = s.pins := rfl
@[simp] theorem modPorts_zordin (g : Ports → Ports) (s : State) : (modPorts g s).zordin = s.zordin := rfl
@[simp] theorem modPorts_chans (g : Ports → Ports) (s : State) : (modPorts g s).chans = s.chans := rfl
@[simp] theorem modPorts_ev (g : Ports → Ports) (s : State) : (modPorts g s).ev = s.ev := rfl
@[simp] theorem modPorts_start (g : Ports → Ports) (s : State) : (modPorts g s).start = s.start := rfl
@[simp] theorem modPorts_cue (g : Ports → Ports) (s : State) : (modPorts g s).cue = s.cue := rfl
@[simp] theorem modPorts_join (g : Ports → Ports) (s : State) : (modPorts g s).join = s.join := rfl
@[simp] theorem modPorts_grants (g : Ports → Ports) (s : State) : (modPorts g s).grants = s.grants := rfl
@[simp] theorem modPorts_tx (g : Ports → Ports) (s : State) : (modPorts g s).tx = s.tx := rfl
@[simp] theorem modPorts_rx (g : Ports → Ports) (s : State) : (modPorts g s).rx = s.rx := rfl
@[simp] theorem modPorts_express (g : Ports → Ports) (s : State) : (modPorts g s).express = s.express := rfl
@[simp] theorem modPorts_power (g : Ports → Ports) (s : State) : (modPorts g s).power = s.power := rfl
@[simp] theorem modPorts_island (g : Ports → Ports) (s : State) : (modPorts g s).island = s.island := rfl
@[simp] theorem modPorts_sec (g : Ports → Ports) (s : State) : (modPorts g s).sec = s.sec := rfl
@[simp] theorem modPorts_queues (g : Ports → Ports) (s : State) : (modPorts g s).queues = s.queues := rfl
@[simp] theorem modPorts_hq (g : Ports → Ports) (s : State) : (modPorts g s).hq = s.hq := rfl
@[simp] theorem modPorts_time (g : Ports → Ports) (s : State) : (modPorts g s).time = s.time := rfl
@[simp] theorem modPorts_serial (g : Ports → Ports) (s : State) : (modPorts g s).serial = s.serial := rfl
@[simp] theorem modPorts_certLen (g : Ports → Ports) (s : State) : (modPorts g s).certLen = s.certLen := rfl
@[simp] theorem modPorts_hostMem (g : Ports → Ports) (s : State) : (modPorts g s).hostMem = s.hostMem := rfl
@[simp] theorem modPorts_readBack (g : Ports → Ports) (s : State) : (modPorts g s).readBack = s.readBack := rfl
@[simp] theorem modPorts_free (g : Ports → Ports) (s : State) : (modPorts g s).free = s.free := rfl

@[simp] theorem modTile_pending (t : Nat) (g : Tile → Tile) (s : State) : (modTile t g s).pending = s.pending := rfl
@[simp] theorem modTile_clock (t : Nat) (g : Tile → Tile) (s : State) : (modTile t g s).clock = s.clock := rfl
@[simp] theorem modTile_pins (t : Nat) (g : Tile → Tile) (s : State) : (modTile t g s).pins = s.pins := rfl
@[simp] theorem modTile_zordin (t : Nat) (g : Tile → Tile) (s : State) : (modTile t g s).zordin = s.zordin := rfl
@[simp] theorem modTile_chans (t : Nat) (g : Tile → Tile) (s : State) : (modTile t g s).chans = s.chans := rfl
@[simp] theorem modTile_start (t : Nat) (g : Tile → Tile) (s : State) : (modTile t g s).start = s.start := rfl
@[simp] theorem modTile_cue (t : Nat) (g : Tile → Tile) (s : State) : (modTile t g s).cue = s.cue := rfl
@[simp] theorem modTile_join (t : Nat) (g : Tile → Tile) (s : State) : (modTile t g s).join = s.join := rfl
@[simp] theorem modTile_grants (t : Nat) (g : Tile → Tile) (s : State) : (modTile t g s).grants = s.grants := rfl
@[simp] theorem modTile_tx (t : Nat) (g : Tile → Tile) (s : State) : (modTile t g s).tx = s.tx := rfl
@[simp] theorem modTile_rx (t : Nat) (g : Tile → Tile) (s : State) : (modTile t g s).rx = s.rx := rfl
@[simp] theorem modTile_express (t : Nat) (g : Tile → Tile) (s : State) : (modTile t g s).express = s.express := rfl
@[simp] theorem modTile_power (t : Nat) (g : Tile → Tile) (s : State) : (modTile t g s).power = s.power := rfl
@[simp] theorem modTile_island (t : Nat) (g : Tile → Tile) (s : State) : (modTile t g s).island = s.island := rfl
@[simp] theorem modTile_sec (t : Nat) (g : Tile → Tile) (s : State) : (modTile t g s).sec = s.sec := rfl
@[simp] theorem modTile_ports (t : Nat) (g : Tile → Tile) (s : State) : (modTile t g s).ports = s.ports := rfl
@[simp] theorem modTile_queues (t : Nat) (g : Tile → Tile) (s : State) : (modTile t g s).queues = s.queues := rfl
@[simp] theorem modTile_hq (t : Nat) (g : Tile → Tile) (s : State) : (modTile t g s).hq = s.hq := rfl
@[simp] theorem modTile_time (t : Nat) (g : Tile → Tile) (s : State) : (modTile t g s).time = s.time := rfl
@[simp] theorem modTile_serial (t : Nat) (g : Tile → Tile) (s : State) : (modTile t g s).serial = s.serial := rfl
@[simp] theorem modTile_certLen (t : Nat) (g : Tile → Tile) (s : State) : (modTile t g s).certLen = s.certLen := rfl
@[simp] theorem modTile_hostMem (t : Nat) (g : Tile → Tile) (s : State) : (modTile t g s).hostMem = s.hostMem := rfl
@[simp] theorem modTile_readBack (t : Nat) (g : Tile → Tile) (s : State) : (modTile t g s).readBack = s.readBack := rfl
@[simp] theorem modTile_free (t : Nat) (g : Tile → Tile) (s : State) : (modTile t g s).free = s.free := rfl

end Sys2Proof.Machine
end

