-- ==== Sys2Proof/Laws/Answer.lean ====
section
/-! SUPPORT. What writing a response leaves alone: every part but the mailboxes, host memory and the place of the next free value. -/

set_option Elab.async false

namespace Sys2Proof.Machine

/-- Every part of the state but the mailboxes, host memory and the place of the next free value. -/
def rest (s : State) :=
  (s.pending, s.clock, s.pins, s.chans, s.ev, s.start, s.cue, s.join, s.grants, s.tx, s.rx, s.express, s.power, s.island, s.sec, s.ports, s.queues, s.hq, s.time, s.serial, s.certLen, s.readBack)

theorem setFunc_rest (f : Nat) (b : FuncBox) (s : State) : rest (setFunc f b s) = rest s := by
  grind [setFunc, rest]

theorem modSb_rest (g : SidebandBox → SidebandBox) (s : State) : rest (modSb g s) = rest s := by
  rfl

theorem hostWrite_rest (a : Nat) (bs : List Byte) (s : State) : rest (hostWrite a bs s) = rest s := by
  rfl

theorem finishTask_rest (id : Nat) (s : State) : rest (finishTask id s) = rest s := by
  rfl

theorem sendMessage_rest (f v : Nat) (s : State) : rest (sendMessage f v s) = rest s := by
  grind [sendMessage, setFunc_rest, hostWrite_rest]

theorem signalVector_rest (f v : Nat) (s : State) : rest (signalVector f v s) = rest s := by
  grind [signalVector, sendMessage_rest, setFunc_rest]

theorem writeResponse_rest (f : Nat) (r : Response) (s : State) : rest (writeResponse f r s) = rest s := by
  grind [writeResponse, signalVector_rest, setFunc_rest, hostWrite_rest]

theorem respondFunc_rest (f : Nat) (r : Response) (s : State) : rest (respondFunc f r s) = rest s := by
  grind [respondFunc, writeResponse_rest, setFunc_rest]

theorem respondSideband_rest (r : Response) (s : State) : rest (respondSideband r s) = rest s := by
  grind [respondSideband, sidebandSlot, takeFree, modSb_rest, rest]

theorem deliver_rest (src : Source) (r : Response) (s : State) : rest (deliver src r s) = rest s := by
  unfold deliver; grind [respondFunc_rest, respondSideband_rest]

theorem respond_rest (src : Source) (tag : Nat) (st : Status) (ws : List Word) (s : State) : rest (respond src tag st ws s) = rest s := by
  grind [respond, deliver_rest]

theorem answered_rest (src : Source) (tag : Nat) (st : Status) (ws : List Word) (s : State) : rest (answered src tag st ws s) = rest s := by
  grind [answered, respond_rest, finishTask_rest]

theorem acknowledged_rest (src : Source) (tag : Nat) (s : State) : rest (acknowledged src tag s) = rest s := by
  grind [acknowledged, deliver_rest, finishTask_rest]

theorem respondAll_rest (st : Status) (ws : List Word) (ls : List LongCommand) (s : State) : rest (respondAll st ws ls s) = rest s := by
  induction ls generalizing s with
  | nil => rfl
  | cons l ls ih => grind [respondAll, respond_rest]

theorem endLongs_rest (p : LongKind → Bool) (st : Status) (ws : List Word) (s : State) : rest (endLongs p st ws s) = rest s := by
  grind [endLongs, respondAll_rest, rest]

theorem rest_pending {s t : State} (h : rest s = rest t) : s.pending = t.pending := by
  simp only [rest, Prod.mk.injEq] at h; grind
theorem rest_clock {s t : State} (h : rest s = rest t) : s.clock = t.clock := by
  simp only [rest, Prod.mk.injEq] at h; grind
theorem rest_pins {s t : State} (h : rest s = rest t) : s.pins = t.pins := by
  simp only [rest, Prod.mk.injEq] at h; grind
theorem rest_chans {s t : State} (h : rest s = rest t) : s.chans = t.chans := by
  simp only [rest, Prod.mk.injEq] at h; grind
theorem rest_ev {s t : State} (h : rest s = rest t) : s.ev = t.ev := by
  simp only [rest, Prod.mk.injEq] at h; grind
theorem rest_start {s t : State} (h : rest s = rest t) : s.start = t.start := by
  simp only [rest, Prod.mk.injEq] at h; grind
theorem rest_cue {s t : State} (h : rest s = rest t) : s.cue = t.cue := by
  simp only [rest, Prod.mk.injEq] at h; grind
theorem rest_join {s t : State} (h : rest s = rest t) : s.join = t.join := by
  simp only [rest, Prod.mk.injEq] at h; grind
theorem rest_grants {s t : State} (h : rest s = rest t) : s.grants = t.grants := by
  simp only [rest, Prod.mk.injEq] at h; grind
theorem rest_tx {s t : State} (h : rest s = rest t) : s.tx = t.tx := by
  simp only [rest, Prod.mk.injEq] at h; grind
theorem rest_rx {s t : State} (h : rest s = rest t) : s.rx = t.rx := by
  simp only [rest, Prod.mk.injEq] at h; grind
theorem rest_express {s t : State} (h : rest s = rest t) : s.express = t.express := by
  simp only [rest, Prod.mk.injEq] at h; grind
theorem rest_power {s t : State} (h : rest s = rest t) : s.power = t.power := by
  simp only [rest, Prod.mk.injEq] at h; grind
theorem rest_island {s t : State} (h : rest s = rest t) : s.island = t.island := by
  simp only [rest, Prod.mk.injEq] at h; grind
theorem rest_sec {s t : State} (h : rest s = rest t) : s.sec = t.sec := by
  simp only [rest, Prod.mk.injEq] at h; grind
theorem rest_ports {s t : State} (h : rest s = rest t) : s.ports = t.ports := by
  simp only [rest, Prod.mk.injEq] at h; grind
theorem rest_queues {s t : State} (h : rest s = rest t) : s.queues = t.queues := by
  simp only [rest, Prod.mk.injEq] at h; grind
theorem rest_hq {s t : State} (h : rest s = rest t) : s.hq = t.hq := by
  simp only [rest, Prod.mk.injEq] at h; grind
theorem rest_time {s t : State} (h : rest s = rest t) : s.time = t.time := by
  simp only [rest, Prod.mk.injEq] at h; grind
theorem rest_serial {s t : State} (h : rest s = rest t) : s.serial = t.serial := by
  simp only [rest, Prod.mk.injEq] at h; grind
theorem rest_certLen {s t : State} (h : rest s = rest t) : s.certLen = t.certLen := by
  simp only [rest, Prod.mk.injEq] at h; grind
theorem rest_readBack {s t : State} (h : rest s = rest t) : s.readBack = t.readBack := by
  simp only [rest, Prod.mk.injEq] at h; grind

@[simp] theorem deliver_pending (src : Source) (r : Response) (s : State) : (deliver src r s).pending = s.pending := rest_pending (deliver_rest _ _ _)
@[simp] theorem deliver_clock (src : Source) (r : Response) (s : State) : (deliver src r s).clock = s.clock := rest_clock (deliver_rest _ _ _)
@[simp] theorem deliver_pins (src : Source) (r : Response) (s : State) : (deliver src r s).pins = s.pins := rest_pins (deliver_rest _ _ _)
@[simp] theorem deliver_chans (src : Source) (r : Response) (s : State) : (deliver src r s).chans = s.chans := rest_chans (deliver_rest _ _ _)
@[simp] theorem deliver_ev (src : Source) (r : Response) (s : State) : (deliver src r s).ev = s.ev := rest_ev (deliver_rest _ _ _)
@[simp] theorem deliver_start (src : Source) (r : Response) (s : State) : (deliver src r s).start = s.start := rest_start (deliver_rest _ _ _)
@[simp] theorem deliver_cue (src : Source) (r : Response) (s : State) : (deliver src r s).cue = s.cue := rest_cue (deliver_rest _ _ _)
@[simp] theorem deliver_join (src : Source) (r : Response) (s : State) : (deliver src r s).join = s.join := rest_join (deliver_rest _ _ _)
@[simp] theorem deliver_grants (src : Source) (r : Response) (s : State) : (deliver src r s).grants = s.grants := rest_grants (deliver_rest _ _ _)
@[simp] theorem deliver_tx (src : Source) (r : Response) (s : State) : (deliver src r s).tx = s.tx := rest_tx (deliver_rest _ _ _)
@[simp] theorem deliver_rx (src : Source) (r : Response) (s : State) : (deliver src r s).rx = s.rx := rest_rx (deliver_rest _ _ _)
@[simp] theorem deliver_express (src : Source) (r : Response) (s : State) : (deliver src r s).express = s.express := rest_express (deliver_rest _ _ _)
@[simp] theorem deliver_power (src : Source) (r : Response) (s : State) : (deliver src r s).power = s.power := rest_power (deliver_rest _ _ _)
@[simp] theorem deliver_island (src : Source) (r : Response) (s : State) : (deliver src r s).island = s.island := rest_island (deliver_rest _ _ _)
@[simp] theorem deliver_sec (src : Source) (r : Response) (s : State) : (deliver src r s).sec = s.sec := rest_sec (deliver_rest _ _ _)
@[simp] theorem deliver_ports (src : Source) (r : Response) (s : State) : (deliver src r s).ports = s.ports := rest_ports (deliver_rest _ _ _)
@[simp] theorem deliver_queues (src : Source) (r : Response) (s : State) : (deliver src r s).queues = s.queues := rest_queues (deliver_rest _ _ _)
@[simp] theorem deliver_hq (src : Source) (r : Response) (s : State) : (deliver src r s).hq = s.hq := rest_hq (deliver_rest _ _ _)
@[simp] theorem deliver_time (src : Source) (r : Response) (s : State) : (deliver src r s).time = s.time := rest_time (deliver_rest _ _ _)
@[simp] theorem deliver_serial (src : Source) (r : Response) (s : State) : (deliver src r s).serial = s.serial := rest_serial (deliver_rest _ _ _)
@[simp] theorem deliver_certLen (src : Source) (r : Response) (s : State) : (deliver src r s).certLen = s.certLen := rest_certLen (deliver_rest _ _ _)
@[simp] theorem deliver_readBack (src : Source) (r : Response) (s : State) : (deliver src r s).readBack = s.readBack := rest_readBack (deliver_rest _ _ _)

@[simp] theorem respond_pending (src : Source) (tag : Nat) (st : Status) (ws : List Word) (s : State) : (respond src tag st ws s).pending = s.pending := rest_pending (respond_rest _ _ _ _ _)
@[simp] theorem respond_clock (src : Source) (tag : Nat) (st : Status) (ws : List Word) (s : State) : (respond src tag st ws s).clock = s.clock := rest_clock (respond_rest _ _ _ _ _)
@[simp] theorem respond_pins (src : Source) (tag : Nat) (st : Status) (ws : List Word) (s : State) : (respond src tag st ws s).pins = s.pins := rest_pins (respond_rest _ _ _ _ _)
@[simp] theorem respond_chans (src : Source) (tag : Nat) (st : Status) (ws : List Word) (s : State) : (respond src tag st ws s).chans = s.chans := rest_chans (respond_rest _ _ _ _ _)
@[simp] theorem respond_ev (src : Source) (tag : Nat) (st : Status) (ws : List Word) (s : State) : (respond src tag st ws s).ev = s.ev := rest_ev (respond_rest _ _ _ _ _)
@[simp] theorem respond_start (src : Source) (tag : Nat) (st : Status) (ws : List Word) (s : State) : (respond src tag st ws s).start = s.start := rest_start (respond_rest _ _ _ _ _)
@[simp] theorem respond_cue (src : Source) (tag : Nat) (st : Status) (ws : List Word) (s : State) : (respond src tag st ws s).cue = s.cue := rest_cue (respond_rest _ _ _ _ _)
@[simp] theorem respond_join (src : Source) (tag : Nat) (st : Status) (ws : List Word) (s : State) : (respond src tag st ws s).join = s.join := rest_join (respond_rest _ _ _ _ _)
@[simp] theorem respond_grants (src : Source) (tag : Nat) (st : Status) (ws : List Word) (s : State) : (respond src tag st ws s).grants = s.grants := rest_grants (respond_rest _ _ _ _ _)
@[simp] theorem respond_tx (src : Source) (tag : Nat) (st : Status) (ws : List Word) (s : State) : (respond src tag st ws s).tx = s.tx := rest_tx (respond_rest _ _ _ _ _)
@[simp] theorem respond_rx (src : Source) (tag : Nat) (st : Status) (ws : List Word) (s : State) : (respond src tag st ws s).rx = s.rx := rest_rx (respond_rest _ _ _ _ _)
@[simp] theorem respond_express (src : Source) (tag : Nat) (st : Status) (ws : List Word) (s : State) : (respond src tag st ws s).express = s.express := rest_express (respond_rest _ _ _ _ _)
@[simp] theorem respond_power (src : Source) (tag : Nat) (st : Status) (ws : List Word) (s : State) : (respond src tag st ws s).power = s.power := rest_power (respond_rest _ _ _ _ _)
@[simp] theorem respond_island (src : Source) (tag : Nat) (st : Status) (ws : List Word) (s : State) : (respond src tag st ws s).island = s.island := rest_island (respond_rest _ _ _ _ _)
@[simp] theorem respond_sec (src : Source) (tag : Nat) (st : Status) (ws : List Word) (s : State) : (respond src tag st ws s).sec = s.sec := rest_sec (respond_rest _ _ _ _ _)
@[simp] theorem respond_ports (src : Source) (tag : Nat) (st : Status) (ws : List Word) (s : State) : (respond src tag st ws s).ports = s.ports := rest_ports (respond_rest _ _ _ _ _)
@[simp] theorem respond_queues (src : Source) (tag : Nat) (st : Status) (ws : List Word) (s : State) : (respond src tag st ws s).queues = s.queues := rest_queues (respond_rest _ _ _ _ _)
@[simp] theorem respond_hq (src : Source) (tag : Nat) (st : Status) (ws : List Word) (s : State) : (respond src tag st ws s).hq = s.hq := rest_hq (respond_rest _ _ _ _ _)
@[simp] theorem respond_time (src : Source) (tag : Nat) (st : Status) (ws : List Word) (s : State) : (respond src tag st ws s).time = s.time := rest_time (respond_rest _ _ _ _ _)
@[simp] theorem respond_serial (src : Source) (tag : Nat) (st : Status) (ws : List Word) (s : State) : (respond src tag st ws s).serial = s.serial := rest_serial (respond_rest _ _ _ _ _)
@[simp] theorem respond_certLen (src : Source) (tag : Nat) (st : Status) (ws : List Word) (s : State) : (respond src tag st ws s).certLen = s.certLen := rest_certLen (respond_rest _ _ _ _ _)
@[simp] theorem respond_readBack (src : Source) (tag : Nat) (st : Status) (ws : List Word) (s : State) : (respond src tag st ws s).readBack = s.readBack := rest_readBack (respond_rest _ _ _ _ _)

@[simp] theorem answered_pending (src : Source) (tag : Nat) (st : Status) (ws : List Word) (s : State) : (answered src tag st ws s).pending = s.pending := rest_pending (answered_rest _ _ _ _ _)
@[simp] theorem answered_clock (src : Source) (tag : Nat) (st : Status) (ws : List Word) (s : State) : (answered src tag st ws s).clock = s.clock := rest_clock (answered_rest _ _ _ _ _)
@[simp] theorem answered_pins (src : Source) (tag : Nat) (st : Status) (ws : List Word) (s : State) : (answered src tag st ws s).pins = s.pins := rest_pins (answered_rest _ _ _ _ _)
@[simp] theorem answered_chans (src : Source) (tag : Nat) (st : Status) (ws : List Word) (s : State) : (answered src tag st ws s).chans = s.chans := rest_chans (answered_rest _ _ _ _ _)
@[simp] theorem answered_ev (src : Source) (tag : Nat) (st : Status) (ws : List Word) (s : State) : (answered src tag st ws s).ev = s.ev := rest_ev (answered_rest _ _ _ _ _)
@[simp] theorem answered_start (src : Source) (tag : Nat) (st : Status) (ws : List Word) (s : State) : (answered src tag st ws s).start = s.start := rest_start (answered_rest _ _ _ _ _)
@[simp] theorem answered_cue (src : Source) (tag : Nat) (st : Status) (ws : List Word) (s : State) : (answered src tag st ws s).cue = s.cue := rest_cue (answered_rest _ _ _ _ _)
@[simp] theorem answered_join (src : Source) (tag : Nat) (st : Status) (ws : List Word) (s : State) : (answered src tag st ws s).join = s.join := rest_join (answered_rest _ _ _ _ _)
@[simp] theorem answered_grants (src : Source) (tag : Nat) (st : Status) (ws : List Word) (s : State) : (answered src tag st ws s).grants = s.grants := rest_grants (answered_rest _ _ _ _ _)
@[simp] theorem answered_tx (src : Source) (tag : Nat) (st : Status) (ws : List Word) (s : State) : (answered src tag st ws s).tx = s.tx := rest_tx (answered_rest _ _ _ _ _)
@[simp] theorem answered_rx (src : Source) (tag : Nat) (st : Status) (ws : List Word) (s : State) : (answered src tag st ws s).rx = s.rx := rest_rx (answered_rest _ _ _ _ _)
@[simp] theorem answered_express (src : Source) (tag : Nat) (st : Status) (ws : List Word) (s : State) : (answered src tag st ws s).express = s.express := rest_express (answered_rest _ _ _ _ _)
@[simp] theorem answered_power (src : Source) (tag : Nat) (st : Status) (ws : List Word) (s : State) : (answered src tag st ws s).power = s.power := rest_power (answered_rest _ _ _ _ _)
@[simp] theorem answered_island (src : Source) (tag : Nat) (st : Status) (ws : List Word) (s : State) : (answered src tag st ws s).island = s.island := rest_island (answered_rest _ _ _ _ _)
@[simp] theorem answered_sec (src : Source) (tag : Nat) (st : Status) (ws : List Word) (s : State) : (answered src tag st ws s).sec = s.sec := rest_sec (answered_rest _ _ _ _ _)
@[simp] theorem answered_ports (src : Source) (tag : Nat) (st : Status) (ws : List Word) (s : State) : (answered src tag st ws s).ports = s.ports := rest_ports (answered_rest _ _ _ _ _)
@[simp] theorem answered_queues (src : Source) (tag : Nat) (st : Status) (ws : List Word) (s : State) : (answered src tag st ws s).queues = s.queues := rest_queues (answered_rest _ _ _ _ _)
@[simp] theorem answered_hq (src : Source) (tag : Nat) (st : Status) (ws : List Word) (s : State) : (answered src tag st ws s).hq = s.hq := rest_hq (answered_rest _ _ _ _ _)
@[simp] theorem answered_time (src : Source) (tag : Nat) (st : Status) (ws : List Word) (s : State) : (answered src tag st ws s).time = s.time := rest_time (answered_rest _ _ _ _ _)
@[simp] theorem answered_serial (src : Source) (tag : Nat) (st : Status) (ws : List Word) (s : State) : (answered src tag st ws s).serial = s.serial := rest_serial (answered_rest _ _ _ _ _)
@[simp] theorem answered_certLen (src : Source) (tag : Nat) (st : Status) (ws : List Word) (s : State) : (answered src tag st ws s).certLen = s.certLen := rest_certLen (answered_rest _ _ _ _ _)
@[simp] theorem answered_readBack (src : Source) (tag : Nat) (st : Status) (ws : List Word) (s : State) : (answered src tag st ws s).readBack = s.readBack := rest_readBack (answered_rest _ _ _ _ _)

@[simp] theorem acknowledged_pending (src : Source) (tag : Nat) (s : State) : (acknowledged src tag s).pending = s.pending := rest_pending (acknowledged_rest _ _ _)
@[simp] theorem acknowledged_clock (src : Source) (tag : Nat) (s : State) : (acknowledged src tag s).clock = s.clock := rest_clock (acknowledged_rest _ _ _)
@[simp] theorem acknowledged_pins (src : Source) (tag : Nat) (s : State) : (acknowledged src tag s).pins = s.pins := rest_pins (acknowledged_rest _ _ _)
@[simp] theorem acknowledged_chans (src : Source) (tag : Nat) (s : State) : (acknowledged src tag s).chans = s.chans := rest_chans (acknowledged_rest _ _ _)
@[simp] theorem acknowledged_ev (src : Source) (tag : Nat) (s : State) : (acknowledged src tag s).ev = s.ev := rest_ev (acknowledged_rest _ _ _)
@[simp] theorem acknowledged_start (src : Source) (tag : Nat) (s : State) : (acknowledged src tag s).start = s.start := rest_start (acknowledged_rest _ _ _)
@[simp] theorem acknowledged_cue (src : Source) (tag : Nat) (s : State) : (acknowledged src tag s).cue = s.cue := rest_cue (acknowledged_rest _ _ _)
@[simp] theorem acknowledged_join (src : Source) (tag : Nat) (s : State) : (acknowledged src tag s).join = s.join := rest_join (acknowledged_rest _ _ _)
@[simp] theorem acknowledged_grants (src : Source) (tag : Nat) (s : State) : (acknowledged src tag s).grants = s.grants := rest_grants (acknowledged_rest _ _ _)
@[simp] theorem acknowledged_tx (src : Source) (tag : Nat) (s : State) : (acknowledged src tag s).tx = s.tx := rest_tx (acknowledged_rest _ _ _)
@[simp] theorem acknowledged_rx (src : Source) (tag : Nat) (s : State) : (acknowledged src tag s).rx = s.rx := rest_rx (acknowledged_rest _ _ _)
@[simp] theorem acknowledged_express (src : Source) (tag : Nat) (s : State) : (acknowledged src tag s).express = s.express := rest_express (acknowledged_rest _ _ _)
@[simp] theorem acknowledged_power (src : Source) (tag : Nat) (s : State) : (acknowledged src tag s).power = s.power := rest_power (acknowledged_rest _ _ _)
@[simp] theorem acknowledged_island (src : Source) (tag : Nat) (s : State) : (acknowledged src tag s).island = s.island := rest_island (acknowledged_rest _ _ _)
@[simp] theorem acknowledged_sec (src : Source) (tag : Nat) (s : State) : (acknowledged src tag s).sec = s.sec := rest_sec (acknowledged_rest _ _ _)
@[simp] theorem acknowledged_ports (src : Source) (tag : Nat) (s : State) : (acknowledged src tag s).ports = s.ports := rest_ports (acknowledged_rest _ _ _)
@[simp] theorem acknowledged_queues (src : Source) (tag : Nat) (s : State) : (acknowledged src tag s).queues = s.queues := rest_queues (acknowledged_rest _ _ _)
@[simp] theorem acknowledged_hq (src : Source) (tag : Nat) (s : State) : (acknowledged src tag s).hq = s.hq := rest_hq (acknowledged_rest _ _ _)
@[simp] theorem acknowledged_time (src : Source) (tag : Nat) (s : State) : (acknowledged src tag s).time = s.time := rest_time (acknowledged_rest _ _ _)
@[simp] theorem acknowledged_serial (src : Source) (tag : Nat) (s : State) : (acknowledged src tag s).serial = s.serial := rest_serial (acknowledged_rest _ _ _)
@[simp] theorem acknowledged_certLen (src : Source) (tag : Nat) (s : State) : (acknowledged src tag s).certLen = s.certLen := rest_certLen (acknowledged_rest _ _ _)
@[simp] theorem acknowledged_readBack (src : Source) (tag : Nat) (s : State) : (acknowledged src tag s).readBack = s.readBack := rest_readBack (acknowledged_rest _ _ _)

@[simp] theorem endLongs_pending (p : LongKind → Bool) (st : Status) (ws : List Word) (s : State) : (endLongs p st ws s).pending = s.pending := rest_pending (endLongs_rest _ _ _ _)
@[simp] theorem endLongs_clock (p : LongKind → Bool) (st : Status) (ws : List Word) (s : State) : (endLongs p st ws s).clock = s.clock := rest_clock (endLongs_rest _ _ _ _)
@[simp] theorem endLongs_pins (p : LongKind → Bool) (st : Status) (ws : List Word) (s : State) : (endLongs p st ws s).pins = s.pins := rest_pins (endLongs_rest _ _ _ _)
@[simp] theorem endLongs_chans (p : LongKind → Bool) (st : Status) (ws : List Word) (s : State) : (endLongs p st ws s).chans = s.chans := rest_chans (endLongs_rest _ _ _ _)
@[simp] theorem endLongs_ev (p : LongKind → Bool) (st : Status) (ws : List Word) (s : State) : (endLongs p st ws s).ev = s.ev := rest_ev (endLongs_rest _ _ _ _)
@[simp] theorem endLongs_start (p : LongKind → Bool) (st : Status) (ws : List Word) (s : State) : (endLongs p st ws s).start = s.start := rest_start (endLongs_rest _ _ _ _)
@[simp] theorem endLongs_cue (p : LongKind → Bool) (st : Status) (ws : List Word) (s : State) : (endLongs p st ws s).cue = s.cue := rest_cue (endLongs_rest _ _ _ _)
@[simp] theorem endLongs_join (p : LongKind → Bool) (st : Status) (ws : List Word) (s : State) : (endLongs p st ws s).join = s.join := rest_join (endLongs_rest _ _ _ _)
@[simp] theorem endLongs_grants (p : LongKind → Bool) (st : Status) (ws : List Word) (s : State) : (endLongs p st ws s).grants = s.grants := rest_grants (endLongs_rest _ _ _ _)
@[simp] theorem endLongs_tx (p : LongKind → Bool) (st : Status) (ws : List Word) (s : State) : (endLongs p st ws s).tx = s.tx := rest_tx (endLongs_rest _ _ _ _)
@[simp] theorem endLongs_rx (p : LongKind → Bool) (st : Status) (ws : List Word) (s : State) : (endLongs p st ws s).rx = s.rx := rest_rx (endLongs_rest _ _ _ _)
@[simp] theorem endLongs_express (p : LongKind → Bool) (st : Status) (ws : List Word) (s : State) : (endLongs p st ws s).express = s.express := rest_express (endLongs_rest _ _ _ _)
@[simp] theorem endLongs_power (p : LongKind → Bool) (st : Status) (ws : List Word) (s : State) : (endLongs p st ws s).power = s.power := rest_power (endLongs_rest _ _ _ _)
@[simp] theorem endLongs_island (p : LongKind → Bool) (st : Status) (ws : List Word) (s : State) : (endLongs p st ws s).island = s.island := rest_island (endLongs_rest _ _ _ _)
@[simp] theorem endLongs_sec (p : LongKind → Bool) (st : Status) (ws : List Word) (s : State) : (endLongs p st ws s).sec = s.sec := rest_sec (endLongs_rest _ _ _ _)
@[simp] theorem endLongs_ports (p : LongKind → Bool) (st : Status) (ws : List Word) (s : State) : (endLongs p st ws s).ports = s.ports := rest_ports (endLongs_rest _ _ _ _)
@[simp] theorem endLongs_queues (p : LongKind → Bool) (st : Status) (ws : List Word) (s : State) : (endLongs p st ws s).queues = s.queues := rest_queues (endLongs_rest _ _ _ _)
@[simp] theorem endLongs_hq (p : LongKind → Bool) (st : Status) (ws : List Word) (s : State) : (endLongs p st ws s).hq = s.hq := rest_hq (endLongs_rest _ _ _ _)
@[simp] theorem endLongs_time (p : LongKind → Bool) (st : Status) (ws : List Word) (s : State) : (endLongs p st ws s).time = s.time := rest_time (endLongs_rest _ _ _ _)
@[simp] theorem endLongs_serial (p : LongKind → Bool) (st : Status) (ws : List Word) (s : State) : (endLongs p st ws s).serial = s.serial := rest_serial (endLongs_rest _ _ _ _)
@[simp] theorem endLongs_certLen (p : LongKind → Bool) (st : Status) (ws : List Word) (s : State) : (endLongs p st ws s).certLen = s.certLen := rest_certLen (endLongs_rest _ _ _ _)
@[simp] theorem endLongs_readBack (p : LongKind → Bool) (st : Status) (ws : List Word) (s : State) : (endLongs p st ws s).readBack = s.readBack := rest_readBack (endLongs_rest _ _ _ _)

end Sys2Proof.Machine
end

