-- ==== Sys2Proof/Laws/Command.lean ====
section
/-! SUPPORT. How a command ends: what `command` and `runCommand` answer once the shared checks pass, and when one of them fails. -/

set_option Elab.async false

namespace Sys2Proof.Machine

variable {src : Source} {tag : Nat} {req : List Word} {rule : CommandRule} {body : State → Reply × State} {s t : State} {ws : List Word}

/-- A command that passes the shared checks ends as its own rule says. -/
theorem command_able (h : CanRun rule.stagehand s) (hw : rule.words ≤ req.length) (ha : rule.allowed = true) :
    command src tag req rule body s = runCommand true src tag req ⟨0, true, true⟩ body s := by
  obtain ⟨hr, hs⟩ := h
  have hw' : ¬ req.length < rule.words := Nat.not_lt.mpr hw
  rcases hs with hs | ⟨hs, hc⟩
  · simp [command, runCommand, hr, hs, hw', ha]
  · have : (s.power.state == PowerState.curtain) = false := by simpa using hc
    simp [command, runCommand, hr, hs, hw', ha, this]

/-- What a command answers when its own rule ends with a status. -/
theorem runCommand_done {st : Status} (hb : body s = (.done st ws, t)) :
    runCommand true src tag req ⟨0, true, true⟩ body s = .next (answered src tag st ws t) := by
  simp [runCommand, hb, answered]

theorem command_done {st : Status} (h : CanRun rule.stagehand s) (hw : rule.words ≤ req.length) (ha : rule.allowed = true)
    (hb : body s = (.done st ws, t)) : command src tag req rule body s = .next (answered src tag st ws t) := by
  rw [command_able h hw ha, runCommand_done hb]

/-- What a long command answers when its own rule accepts it. -/
theorem command_accepted (h : CanRun rule.stagehand s) (hw : rule.words ≤ req.length) (ha : rule.allowed = true)
    (hb : body s = (.accepted, t)) : command src tag req rule body s = .next (acknowledged src tag t) := by
  rw [command_able h hw ha]
  simp [runCommand, hb, acknowledged]

/-- A command whose own rule writes the response itself. -/
theorem command_later (h : CanRun rule.stagehand s) (hw : rule.words ≤ req.length) (ha : rule.allowed = true)
    (hb : body s = (.later, t)) : command src tag req rule body s = .next (finishTask (commandTask src tag) t) := by
  rw [command_able h hw ha]
  simp [runCommand, hb]

/-- A request shorter than its command's words ends with BAD_ARG. -/
theorem command_short (hc : s.power.state ≠ .curtain ∨ rule.stagehand = true) (hw : req.length < rule.words) :
    command src tag req rule body s = .next (answered src tag .badArg [] s) := by
  have hg : (s.power.state == PowerState.curtain && !rule.stagehand) = false := by
    rcases hc with hc | hc <;> simp [hc]
  simp [command, runCommand, hg, hw, refuse, answered]

/-- A source that may not issue the command is DENIED. -/
theorem command_denied (hc : s.power.state ≠ .curtain ∨ rule.stagehand = true) (hw : rule.words ≤ req.length)
    (ha : rule.allowed = false) : command src tag req rule body s = .next (answered src tag .denied [] s) := by
  have hg : (s.power.state == PowerState.curtain && !rule.stagehand) = false := by
    rcases hc with hc | hc <;> simp [hc]
  simp [command, runCommand, hg, Nat.not_lt.mpr hw, ha, refuse, answered]

/-- Before Zordin runs its commands end with NOT_READY. -/
theorem command_notReady (hs : rule.stagehand = false) (hr : s.start.running = false) (hc : s.power.state ≠ .curtain)
    (hw : rule.words ≤ req.length) (ha : rule.allowed = true) :
    command src tag req rule body s = .next (answered src tag .notReady [] s) := by
  have hg : (s.power.state == PowerState.curtain) = false := by simpa using hc
  simp [command, runCommand, hg, hs, hr, Nat.not_lt.mpr hw, ha, refuse, answered]

/-- During a Curtain Zordin executes nothing. -/
theorem command_curtain (hs : rule.stagehand = false) (hc : s.power.state = .curtain) :
    command src tag req rule body s = .next s := by
  simp [command, runCommand, hs, hc]

/-- A valid handle names the index in its low bits. -/
theorem checkHandle_index {c : ChanType} {h : Word} {i : Nat} (hh : checkHandle c h s = .ok i) : i = fieldOf h 0 16 := by
  unfold checkHandle at hh
  grind

theorem withHandle_ok {c : ChanType} {h : Word} {k : Nat → Reply × State} {i : Nat} (hh : checkHandle c h s = .ok i) :
    withHandle c h s k = k i := by
  simp [withHandle, hh]

theorem withHandle_error {c : ChanType} {h : Word} {k : Nat → Reply × State} {st : Status} (hh : checkHandle c h s = .error st) :
    withHandle c h s k = refuse st s := by
  simp [withHandle, hh]

end Sys2Proof.Machine
end

