-- ==== Sys2Proof/Laws/Tab.lean ====
section
/-! SUPPORT. Sparse arrays and byte memory: what a write leaves readable, and that every write keeps the canonical form. -/

set_option Elab.async false

namespace Sys2Proof.Machine

theorem tabWfFrom_weaken {α : Type} [DecidableEq α] {d : α} {lo : Option Nat} {j : Nat} {v : α} {t : Tab α}
    (h : tabWfFrom d lo ((j, v) :: t) = true) : tabWfFrom d lo t = true := by
  cases t with
  | nil => rfl
  | cons e t => cases lo <;> grind [tabWfFrom]

theorem tabErase_wf {α : Type} [DecidableEq α] (d : α) (t : Tab α) (k : Nat) (lo : Option Nat) (h : tabWfFrom d lo t = true) :
    tabWfFrom d lo (tabErase t k) = true := by
  induction t generalizing lo with
  | nil => exact h
  | cons e t ih =>
    have hw := tabWfFrom_weaken h
    unfold tabErase
    split
    · exact hw
    · have h2 := ih (some e.1) (by simp [tabWfFrom] at h; exact h.2)
      simp [tabWfFrom] at h ⊢
      exact ⟨h.1, h2⟩

theorem tabPut_wf {α : Type} [DecidableEq α] (d : α) (t : Tab α) (k : Nat) (v : α) (lo : Option Nat) (hv : v ≠ d)
    (hk : ∀ l, lo = some l → l < k) (h : tabWfFrom d lo t = true) : tabWfFrom d lo (tabPut t k v) = true := by
  induction t generalizing lo with
  | nil => cases lo <;> simp_all [tabPut, tabWfFrom]
  | cons e t ih =>
    have h2 := ih (some e.1)
    cases lo <;> grind [tabPut, tabWfFrom]

theorem tabSet_wf {α : Type} [DecidableEq α] (d : α) (t : Tab α) (k : Nat) (v : α) (h : tabWf d t = true) : tabWf d (tabSet d t k v) = true := by
  unfold tabSet tabWf
  split
  · exact tabErase_wf d t k none h
  · exact tabPut_wf d t k v none ‹_› (by simp) h

theorem tabSetList_wf {α : Type} [DecidableEq α] (d : α) (vs : List α) (t : Tab α) (k : Nat) (h : tabWf d t = true) :
    tabWf d (tabSetList d t k vs) = true := by
  induction vs generalizing t k with
  | nil => exact h
  | cons v vs ih => exact ih _ _ (tabSet_wf d t k v h)

theorem memWrite_wf (m : Memory) (a : Nat) (bs : List Byte) (h : Memory.wf m = true) : Memory.wf (memWrite m a bs) = true :=
  tabSetList_wf 0 bs m a h

theorem mem_tabErase {α : Type} (t : Tab α) (k : Nat) : ∀ e ∈ tabErase t k, e ∈ t := by
  induction t with
  | nil => simp [tabErase]
  | cons a t ih => grind [tabErase]

theorem mem_tabPut {α : Type} (t : Tab α) (k : Nat) (v : α) : ∀ e ∈ tabPut t k v, e = (k, v) ∨ e ∈ t := by
  induction t with
  | nil => simp [tabPut]
  | cons a t ih => grind [tabPut]

/-- A read of the index just written gives the value written. -/
theorem tabGet_tabPut_same {α : Type} (d : α) (t : Tab α) (k : Nat) (v : α) : tabGet d (tabPut t k v) k = v := by
  induction t with
  | nil => simp [tabPut, tabGet]
  | cons e t ih => grind [tabPut, tabGet]

theorem tabGet_tabPut_other {α : Type} (d : α) (t : Tab α) (k j : Nat) (v : α) (h : j ≠ k) :
    tabGet d (tabPut t k v) j = tabGet d t j := by
  induction t with
  | nil => simp [tabPut, tabGet]; omega
  | cons e t ih => grind [tabPut, tabGet]

theorem tabGet_tabErase_other {α : Type} (d : α) (t : Tab α) (k j : Nat) (h : j ≠ k) :
    tabGet d (tabErase t k) j = tabGet d t j := by
  induction t with
  | nil => rfl
  | cons e t ih => grind [tabErase, tabGet]

/-- Below its lowest index a table in canonical form reads as the default. -/
theorem tabGet_below {α : Type} [DecidableEq α] (d : α) (t : Tab α) (lo k : Nat) (h : tabWfFrom d (some lo) t = true) (hk : k ≤ lo) :
    tabGet d t k = d := by
  induction t generalizing lo with
  | nil => rfl
  | cons e t ih =>
    simp [tabWfFrom] at h
    have := ih e.1 h.2 (by omega)
    grind [tabGet]

theorem tabGet_tabErase_same {α : Type} [DecidableEq α] (d : α) (t : Tab α) (lo : Option Nat) (k : Nat) (h : tabWfFrom d lo t = true) :
    tabGet d (tabErase t k) k = d := by
  induction t generalizing lo with
  | nil => rfl
  | cons e t ih =>
    have h2 : tabWfFrom d (some e.1) t = true := by simp [tabWfFrom] at h; exact h.2
    unfold tabErase
    split
    · rename_i hj; exact tabGet_below d t e.1 k h2 (Nat.le_of_eq hj.symm)
    · have := ih (some e.1) h2; grind [tabGet]

/-- Read after write, same index. -/
theorem tabGet_tabSet_same {α : Type} [DecidableEq α] (d : α) (t : Tab α) (k : Nat) (v : α) (h : tabWf d t = true) :
    tabGet d (tabSet d t k v) k = v := by
  unfold tabSet
  split
  · rename_i hv; rw [hv]; exact tabGet_tabErase_same d t none k h
  · exact tabGet_tabPut_same d t k v

/-- A write leaves every other index alone. -/
theorem tabGet_tabSet_other {α : Type} [DecidableEq α] (d : α) (t : Tab α) (k j : Nat) (v : α) (h : j ≠ k) :
    tabGet d (tabSet d t k v) j = tabGet d t j := by
  unfold tabSet
  split
  · exact tabGet_tabErase_other d t k j h
  · exact tabGet_tabPut_other d t k j v h

/-- A write of bytes leaves every address outside them alone. -/
theorem memRead_memWrite_outside (bs : List Byte) (m : Memory) (a b : Nat) (h : b < a ∨ a + bs.length ≤ b) :
    memRead (memWrite m a bs) b = memRead m b := by
  induction bs generalizing m a with
  | nil => rfl
  | cons v vs ih =>
    simp only [List.length_cons] at h
    have h1 := ih (tabSet 0 m a v) (a + 1) (by omega)
    have h2 := tabGet_tabSet_other (0 : Byte) m a b v (by omega)
    simp only [memRead, memWrite, tabSetList] at h1 ⊢
    rw [h1, h2]

end Sys2Proof.Machine
end

