-- ==== Sys2Proof/Laws/Kept.lean ====
section
/-! SUPPORT. What every operation keeps: the queue, what manufacture has set, the direction of time, and soundness (Safety.lean). One lemma
for each operation stands in the files of Laws/Kept, and `exec_kept` in Laws/Exec.lean puts them together. -/

set_option Elab.async false

namespace Sys2Proof.Machine

/-- What every operation keeps, in the fields it speaks of: the queue, what manufacture has set, the direction of time, and soundness. -/
def KeptIn (k : State) (q : List Instr) (sn cl now : Nat) (m : Memory) (j : Join) (z : Zordin) (c : Tab ChanSlot) : Prop :=
  q = k.pending ∧ sn = k.serial ∧ cl = k.certLen ∧ k.clock.now ≤ now ∧
    (Sound k → soundMem m ∧ soundJoin j ∧ soundZordin z ∧ soundChans c)

def Kept (k s : State) : Prop := KeptIn k s.pending s.serial s.certLen s.clock.now s.hostMem s.join s.zordin s.chans

theorem Kept_refl (s : State) : Kept s s := ⟨rfl, rfl, rfl, Nat.le_refl _, fun h => h⟩

theorem foldl_kept {k0 : State} {α : Type} (g : State → α → State) (hg : ∀ s a, Kept k0 s → Kept k0 (g s a)) (l : List α) (s : State)
    (h : Kept k0 s) : Kept k0 (l.foldl g s) := by
  induction l generalizing s with
  | nil => exact h
  | cons a as ih => exact ih _ (hg s a h)

theorem KeptIn_join {k0 : State} {q sn cl now m j z c} (j' : Join) (h : KeptIn k0 q sn cl now m j z c)
    (ht : j'.tn = j.tn ∨ j'.tn = none) (hp : j'.planes.length = j.planes.length ∨ j'.planes.length = 16) : KeptIn k0 q sn cl now m j' z c := by
  grind [KeptIn, soundJoin]
theorem KeptIn_join_tn {k0 : State} {q sn cl now m j z c} (j' : Join) (h : KeptIn k0 q sn cl now m j z c)
    (ht : ∀ t, j'.tn = some t → t ≤ 29) (hp : j'.planes.length = j.planes.length ∨ j'.planes.length = 16) : KeptIn k0 q sn cl now m j' z c := by
  grind [KeptIn, soundJoin]
theorem KeptIn_zordin {k0 : State} {q sn cl now m j z c} (z' : Zordin) (h : KeptIn k0 q sn cl now m j z c)
    (ht : z'.sched.cores.length = z.sched.cores.length ∨ z'.sched.cores.length = 4) : KeptIn k0 q sn cl now m j z' c := by
  grind [KeptIn, soundZordin]
theorem KeptIn_now {k0 : State} {q sn cl now m j z c} (n : Nat) (h : KeptIn k0 q sn cl now m j z c)
    (ht : now ≤ n) : KeptIn k0 q sn cl n m j z c := by
  grind [KeptIn]
theorem KeptIn_mem {k0 : State} {q sn cl now m j z c} (m' : Memory) (h : KeptIn k0 q sn cl now m j z c)
    (ht : soundMem m → soundMem m') : KeptIn k0 q sn cl now m' j z c := by
  grind [KeptIn]
theorem KeptIn_chans {k0 : State} {q sn cl now m j z c} (c' : Tab ChanSlot) (h : KeptIn k0 q sn cl now m j z c)
    (ht : soundChans c → soundChans c') : KeptIn k0 q sn cl now m j z c' := by
  grind [KeptIn]

theorem hostMem_write (m : Memory) (a : Nat) (bs : List Byte) (h : soundMem m) : soundMem (memWrite m a bs) := memWrite_wf m a bs h

theorem tabMapFrom_wf {α : Type} [DecidableEq α] (d : α) (f : Nat → α → α) (t : Tab α) (lo : Option Nat) (h : tabWfFrom d lo t = true) :
    tabWfFrom d lo (tabMap d f t) = true := by
  induction t generalizing lo with
  | nil => rfl
  | cons e t ih =>
    have h2 : tabWfFrom d (some e.1) t = true := by simp [tabWfFrom] at h; exact h.2
    by_cases hd : f e.1 e.2 = d
    · have := ih lo (tabWfFrom_weaken h)
      simpa [tabMap, hd] using this
    · have := ih (some e.1) h2
      simp only [tabMap, List.map_cons, List.filter_cons, hd, ne_eq, not_false_eq_true, decide_true, if_true, tabWfFrom]
      simp only [tabWfFrom] at h
      simp only [tabMap] at this
      cases lo <;> simp_all

theorem tabMap_wf {α : Type} [DecidableEq α] (d : α) (f : Nat → α → α) (t : Tab α) (h : tabWf d t = true) : tabWf d (tabMap d f t) = true :=
  tabMapFrom_wf d f t none h

theorem soundChans_set (t : Tab ChanSlot) (k : Nat) (c : ChanSlot) (h : soundChans t) (hc : c.gen < 1024) :
    soundChans (tabSet chanSlotReset t k c) := by
  refine ⟨tabSet_wf _ t k c h.1, fun e he => ?_⟩
  unfold tabSet at he
  split at he
  · exact h.2 e (mem_tabErase t k e he)
  · rcases mem_tabPut t k c e he with rfl | he
    · exact hc
    · exact h.2 e he

theorem soundChans_get (t : Tab ChanSlot) (k : Nat) (h : soundChans t) : (tabGet chanSlotReset t k).gen < 1024 := by
  replace h := h.2
  induction t with
  | nil => exact Nat.zero_lt_succ _
  | cons e t ih =>
    unfold tabGet
    split
    · exact h e (by simp)
    · exact ih (fun e he => h e (by simp [he]))

theorem soundChans_map (f : Nat → ChanSlot → ChanSlot) (t : Tab ChanSlot) (h : soundChans t) (hf : ∀ i c, c.gen < 1024 → (f i c).gen < 1024) :
    soundChans (tabMap chanSlotReset f t) := by
  refine ⟨tabMap_wf chanSlotReset f t h.1, fun e he => ?_⟩
  simp only [tabMap, List.mem_filter, List.mem_map] at he
  obtain ⟨⟨x, hx, rfl⟩, _⟩ := he
  exact hf _ _ (h.2 x hx)

theorem next_kept {k0 s u : State} (h : (Host.Outcome.next s : Result) = .next u) (hk : Kept k0 s) : Kept k0 u := by
  injection h with h; exact h ▸ hk
theorem Kept_join {k0 : State} {s : State} (h : Kept k0 s) {pins ev start cue grants tx rx express power island sec ports queues hq time rb fr} (j : Join) (ht : j.tn = s.join.tn) (hp : j.planes.length = s.join.planes.length) :
    Kept k0 ⟨s.pending, s.clock, pins, s.zordin, s.chans, ev, start, cue, j, grants, tx, rx, express, power, island, sec, ports, queues, hq, time, s.serial, s.certLen, s.hostMem, rb, fr⟩ :=
  KeptIn_join _ h (.inl ht) (.inl hp)
theorem Kept_rest {k0 : State} {s : State} (h : Kept k0 s) {pins ev start cue grants tx rx express power island sec ports queues hq time rb fr} :
    Kept k0 ⟨s.pending, s.clock, pins, s.zordin, s.chans, ev, start, cue, s.join, grants, tx, rx, express, power, island, sec, ports, queues, hq, time, s.serial, s.certLen, s.hostMem, rb, fr⟩ := h
theorem Kept_zordin {k0 : State} {s : State} (h : Kept k0 s) {pins ev start cue grants tx rx express power island sec ports queues hq time rb fr} (z : Zordin) (hz : z.sched.cores.length = s.zordin.sched.cores.length ∨ z.sched.cores.length = 4) :
    Kept k0 ⟨s.pending, s.clock, pins, z, s.chans, ev, start, cue, s.join, grants, tx, rx, express, power, island, sec, ports, queues, hq, time, s.serial, s.certLen, s.hostMem, rb, fr⟩ :=
  KeptIn_zordin _ h hz
theorem Kept_clock {k0 : State} {s : State} (c : Clock) (h : Kept k0 s) (hc : s.clock.now ≤ c.now) : Kept k0 { s with clock := c } :=
  KeptIn_now _ h hc

end Sys2Proof.Machine
end

