-- ==== Sys2Proof/Laws/Kept/Ops.lean ====
section
/-! SUPPORT. What the operations of Machine/Ops.lean keep. -/

set_option Elab.async false

namespace Sys2Proof.Machine

theorem advance_kept {k0 : State} (dt : Nat) (s : State) :
    Kept k0 s → Kept k0 (advance dt s) := by
  grind [advance, KeptIn, soundJoin, soundZordin, Kept]

theorem advanceTo_kept {k0 : State} (t : Nat) (s : State) :
    Kept k0 s → Kept k0 (advanceTo t s) := by
  grind [advanceTo, advance_kept, Kept]

theorem advanceToOut_kept {k0 : State} (t : Nat) (s : State) :
    Kept k0 s → Kept k0 (advanceToOut t s) := by
  grind [advanceToOut, advance_kept, Kept]

theorem toSlot_kept {k0 : State} (n : Nat) (s : State) :
    Kept k0 s → Kept k0 (toSlot n s) := by
  grind [toSlot, advanceTo_kept, Kept]

theorem popCycle_kept {k0 : State} (wanted : Nat) (depth : Nat) (m : Option (Nat × Nat)) (s : State) :
    Kept k0 s → Kept k0 (popCycle wanted depth m s) := by
  grind [popCycle, advance_kept, Kept]

theorem cleared_kept {k0 : State} (clear : Bool) (f : State → State) (s : State) (hf : ∀ s, (Kept k0 s → Kept k0 (f s))) :
    Kept k0 s → Kept k0 (cleared clear f s) := by
  intro h
  unfold cleared
  split
  · exact hf _ (advance_kept _ _ h)
  · exact h

theorem lands_kept {k0 : State} (s : State) :
    Kept k0 s → Kept k0 (lands s) := by
  grind [lands, advance_kept, Kept]

theorem takeFree_kept {k0 : State} (s : State) :
    Kept k0 s → Kept k0 (takeFree s).2 := by
  grind [takeFree, Kept]

theorem takeFreeBits_kept {k0 : State} (y1 : Nat) (s : State) :
    Kept k0 s → Kept k0 (takeFreeBits y1 s).2 := by
  induction y1 generalizing s with
  | zero => grind [takeFreeBits, takeFree_kept, Kept]
  | succ n ih => grind [takeFreeBits, takeFree_kept, Kept]

theorem setFunc_kept {k0 : State} (f : Nat) (b : FuncBox) (s : State) :
    Kept k0 s → Kept k0 (setFunc f b s) := by
  grind [setFunc, KeptIn, soundJoin, soundZordin, Kept]

theorem modFunc_kept {k0 : State} (f : Nat) (g : FuncBox → FuncBox) (s : State) :
    Kept k0 s → Kept k0 (modFunc f g s) := by
  grind [modFunc, setFunc_kept, Kept]

theorem modSb_kept {k0 : State} (g : SidebandBox → SidebandBox) (s : State) :
    Kept k0 s → Kept k0 (modSb g s) := by
  grind [modSb, KeptIn, soundJoin, soundZordin, Kept]

theorem hostWrite_kept {k0 : State} (a : Nat) (bs : List Byte) (s : State) :
    Kept k0 s → Kept k0 (hostWrite a bs s) := by
  grind [hostWrite, KeptIn, hostMem_write, soundJoin, soundZordin, Kept]

theorem sendMessage_kept {k0 : State} (f : Nat) (v : Nat) (s : State) :
    Kept k0 s → Kept k0 (sendMessage f v s) := by
  grind [sendMessage, hostWrite_kept, setFunc_kept, Kept]

theorem signalVector_kept {k0 : State} (f : Nat) (v : Nat) (s : State) :
    Kept k0 s → Kept k0 (signalVector f v s) := by
  grind [signalVector, sendMessage_kept, setFunc_kept, Kept]

theorem writeResponse_kept {k0 : State} (f : Nat) (r : Response) (s : State) :
    Kept k0 s → Kept k0 (writeResponse f r s) := by
  grind [writeResponse, hostWrite_kept, setFunc_kept, signalVector_kept, Kept]

theorem respondFunc_kept {k0 : State} (f : Nat) (r : Response) (s : State) :
    Kept k0 s → Kept k0 (respondFunc f r s) := by
  grind [respondFunc, setFunc_kept, writeResponse_kept, Kept]

theorem sidebandSlot_kept {k0 : State} (r : Response) (s : State) :
    Kept k0 s → Kept k0 (sidebandSlot r s).2 := by
  grind [sidebandSlot, takeFree_kept, Kept]

theorem respondSideband_kept {k0 : State} (r : Response) (s : State) :
    Kept k0 s → Kept k0 (respondSideband r s) := by
  grind [respondSideband, modSb_kept, sidebandSlot_kept, Kept]

theorem deliver_kept {k0 : State} (src : Source) (r : Response) (s : State) :
    Kept k0 s → Kept k0 (deliver src r s) := by
  unfold deliver; grind [respondFunc_kept, respondSideband_kept, Kept]

theorem respond_kept {k0 : State} (src : Source) (tag : Nat) (st : Status) (ws : List Word) (s : State) :
    Kept k0 s → Kept k0 (respond src tag st ws s) := by
  grind [respond, deliver_kept, Kept]

theorem startLong_kept {k0 : State} (src : Source) (tag : Nat) (k : LongKind) (s : State) :
    Kept k0 s → Kept k0 (startLong src tag k s) := by
  grind [startLong, KeptIn, soundJoin, soundZordin, Kept]

theorem respondAll_kept {k0 : State} (st : Status) (ws : List Word) (y1 : List LongCommand) (s : State) :
    Kept k0 s → Kept k0 (respondAll st ws y1 s) := by
  induction y1 generalizing s with
  | nil => grind [respondAll, respond_kept, Kept]
  | cons a as ih => grind [respondAll, respond_kept, Kept]

theorem endLongs_kept {k0 : State} (p : LongKind → Bool) (st : Status) (ws : List Word) (s : State) :
    Kept k0 s → Kept k0 (endLongs p st ws s) := by
  grind [endLongs, KeptIn, respondAll_kept, soundJoin, soundZordin, Kept]

theorem dropLongs_kept {k0 : State} (src : Source) (s : State) :
    Kept k0 s → Kept k0 (dropLongs src s) := by
  grind [dropLongs, KeptIn, soundJoin, soundZordin, Kept]

theorem setChan_kept {k0 : State} (ty : Nat) (ix : Nat) (c : ChanSlot) (s : State) (hc : soundChans s.chans → c.gen < 1024) :
    Kept k0 s → Kept k0 (setChan ty ix c s) := by
  intro h; simp only [Kept, setChan] at *; exact KeptIn_chans _ h (fun hs => soundChans_set _ _ _ hs (hc hs))

theorem openChan_kept {k0 : State} (t : ChanType) (ix : Nat) (s : State) :
    Kept k0 s → Kept k0 (openChan t ix s) := by
  intro h; exact setChan_kept _ _ _ _ (fun hs => soundChans_get _ _ hs) h

theorem closeChan_kept {k0 : State} (t : ChanType) (ix : Nat) (s : State) :
    Kept k0 s → Kept k0 (closeChan t ix s) := by
  intro h; exact setChan_kept _ _ _ _ (fun _ => Nat.mod_lt _ (by decide)) h

end Sys2Proof.Machine
end

