-- ==== Sys2Proof/Laws/Kept/EventOps.lean ====
section
/-! SUPPORT. What the operations of Machine/EventOps.lean keep. -/

set_option Elab.async false

namespace Sys2Proof.Machine

theorem modDest_kept {k0 : State} (i : Nat) (g : Destination → Destination) (s : State) :
    Kept k0 s → Kept k0 (modDest i g s) := by
  grind [modDest, Kept]

theorem modClass_kept {k0 : State} (i : Nat) (c : Nat) (g : ClassCounters → ClassCounters) (s : State) :
    Kept k0 s → Kept k0 (modClass i c g s) := by
  grind [modClass, modDest_kept, Kept]

theorem takeToken_kept {k0 : State} (f : Nat) (c : Nat) (s : State) :
    Kept k0 s → Kept k0 (takeToken f c s).2 := by
  intros; simp_all only [takeToken]; (repeat' split) <;> grind [modDest_kept, Kept]

theorem loseRecord_kept {k0 : State} (f : Nat) (c : Nat) (s : State) :
    Kept k0 s → Kept k0 (loseRecord f c s) := by
  grind [loseRecord, modClass_kept, modDest_kept, Kept]

theorem pushEvent_kept {k0 : State} (f : Nat) (r : EventRecord) (s : State) :
    Kept k0 s → Kept k0 (pushEvent f r s) := by
  grind [pushEvent, loseRecord_kept, setFunc_kept, Kept]

theorem offerFunc_kept {k0 : State} (f : Nat) (r : EventRecord) (s : State) :
    Kept k0 s → Kept k0 (offerFunc f r s) := by
  unfold offerFunc; (repeat' split) <;> grind [modClass_kept, modDest_kept, pushEvent_kept, takeToken_kept, Kept]

theorem sidebandPhase_kept {k0 : State} (s : State) :
    Kept k0 s → Kept k0 (sidebandPhase s).2 := by
  grind [sidebandPhase, takeFree_kept, Kept]

theorem pushSideband_kept {k0 : State} (ws : Nat → List Word) (s : State) :
    Kept k0 s → Kept k0 (pushSideband ws s).2 := by
  grind [pushSideband, modSb_kept, sidebandPhase_kept, Kept]

theorem offerSideband_kept {k0 : State} (r : EventRecord) (s : State) :
    Kept k0 s → Kept k0 (offerSideband r s) := by
  grind [offerSideband, modClass_kept, pushSideband_kept, Kept]

theorem stageBlackBox_kept {k0 : State} (r : EventRecord) (s : State) :
    Kept k0 s → Kept k0 (stageBlackBox r s) := by
  grind [stageBlackBox, Kept]

theorem emitRecord_kept {k0 : State} (r : EventRecord) (s : State) :
    Kept k0 s → Kept k0 (emitRecord r s) := by
  unfold emitRecord; grind [offerFunc_kept, offerSideband_kept, stageBlackBox_kept, Kept]

theorem emitSummary_kept {k0 : State} (w : EventWindow) (s : State) :
    Kept k0 s → Kept k0 (emitSummary w s) := by
  grind [emitSummary, emitRecord_kept, Kept]

theorem openWindow_kept {k0 : State} (src : Nat) (code : Nat) (d4 : Word) (ref : Option Nat) (s : State) :
    ∀ u, openWindow src code d4 ref s = some u → (Kept k0 s → Kept k0 u) := by
  grind [openWindow, Kept]

theorem emitRaise_kept {k0 : State} (code : Nat) (src : Nat) (sev : Nat) (d4 : Word) (d5 : Word) (s : State) :
    Kept k0 s → Kept k0 (emitRaise code src sev d4 d5 s) := by
  grind [emitRaise, emitRecord_kept, openWindow_kept, Kept]

theorem coalesceRaise_kept {k0 : State} (code : Nat) (src : Nat) (sev : Nat) (d4 : Word) (d5 : Word) (s : State) :
    Kept k0 s → Kept k0 (coalesceRaise code src sev d4 d5 s) := by
  grind [coalesceRaise, emitRaise_kept, emitSummary_kept, Kept]

theorem coalesceClear_kept {k0 : State} (code : Nat) (src : Nat) (d4 : Word) (d5 : Word) (s : State) :
    Kept k0 s → Kept k0 (coalesceClear code src d4 d5 s) := by
  grind [coalesceClear, emitRecord_kept, emitSummary_kept, openWindow_kept, Kept]

theorem modAlarm_kept {k0 : State} (src : Nat) (g : AlarmEntry → AlarmEntry) (s : State) :
    Kept k0 s → Kept k0 (modAlarm src g s) := by
  grind [modAlarm, Kept]

theorem raise_kept {k0 : State} (code : Nat) (src : Nat) (sev : Severity) (d4 : Word) (d5 : Word) (s : State) :
    Kept k0 s → Kept k0 (raise code src sev d4 d5 s) := by
  grind [raise, coalesceRaise_kept, modAlarm_kept, Kept]

theorem hold_kept {k0 : State} (code : Nat) (src : Nat) (sev : Severity) (d4 : Word) (d5 : Word) (s : State) :
    Kept k0 s → Kept k0 (hold code src sev d4 d5 s) := by
  grind [hold, coalesceRaise_kept, modAlarm_kept, Kept]

theorem clear_kept {k0 : State} (code : Nat) (src : Nat) (d4 : Word) (d5 : Word) (s : State) :
    Kept k0 s → Kept k0 (clear code src d4 d5 s) := by
  grind [clear, coalesceClear_kept, modAlarm_kept, Kept]

theorem holdIf_kept {k0 : State} (on : Bool) (code : Nat) (src : Nat) (sev : Severity) (d4 : Word) (d5 : Word) (s : State) :
    Kept k0 s → Kept k0 (holdIf on code src sev d4 d5 s) := by
  grind [holdIf, clear_kept, hold_kept, Kept]

theorem noticeTo_kept {k0 : State} (f : Nat) (n : Notice) (s : State) :
    Kept k0 s → Kept k0 (noticeTo f n s) := by
  grind [noticeTo, setFunc_kept, Kept]

theorem noticeToSideband_kept {k0 : State} (n : Notice) (s : State) :
    Kept k0 s → Kept k0 (noticeToSideband n s) := by
  grind [noticeToSideband, pushSideband_kept, Kept]

theorem haltEngine_kept {k0 : State} (f : Nat) (s : State) :
    Kept k0 s → Kept k0 (haltEngine f s) := by
  grind [haltEngine, noticeToSideband_kept, noticeTo_kept, setFunc_kept, Kept]

end Sys2Proof.Machine
end

