-- ==== Sys2Proof/Laws/Kept/Scheduler.lean ====
section
/-! SUPPORT. What the operations of Machine/Scheduler.lean keep. -/

set_option Elab.async false

namespace Sys2Proof.Machine

theorem createTask_kept {k0 : State} (level : Nat) (id : Nat) (s : State) :
    Kept k0 s → Kept k0 (createTask level id s) := by
  grind [createTask, KeptIn, List.length_map, List.length_modify, List.length_set, soundJoin, soundZordin, Kept]

theorem finishTask_kept {k0 : State} (id : Nat) (s : State) :
    Kept k0 s → Kept k0 (finishTask id s) := by
  grind [finishTask, KeptIn, List.length_map, List.length_modify, List.length_set, soundJoin, soundZordin, Kept]

theorem wakeTasks_kept {k0 : State} (y1 : List Task) (s : State) :
    Kept k0 s → Kept k0 (wakeTasks y1 s) := by
  induction y1 generalizing s with
  | nil => grind [wakeTasks, KeptIn, List.length_map, List.length_modify, List.length_set, soundJoin, soundZordin, Kept]
  | cons a as ih => grind [wakeTasks, KeptIn, List.length_map, List.length_modify, List.length_set, soundJoin, soundZordin, Kept]

theorem execDelayListDue_kept {k0 : State} (tick : Nat) (s : State) :
    ∀ u, execDelayListDue tick s = .next u → (Kept k0 s → Kept k0 u) := by
  intro u h hk
  refine next_kept h (wakeTasks_kept _ _ ?_)
  exact Kept_zordin (advanceTo_kept _ _ hk) _ (.inl rfl)

end Sys2Proof.Machine
end

