-- ==== Sys2Proof/Laws/Kept/Gate.lean ====
section
/-! SUPPORT. What the operations of Machine/Gate.lean keep. -/

set_option Elab.async false

namespace Sys2Proof.Machine

theorem refuse_kept {k0 : State} (st : Status) (s : State) :
    Kept k0 s → Kept k0 (refuse st s).2 := by
  grind [refuse, Kept]

theorem okay_kept {k0 : State} (ws : List Word) (s : State) :
    Kept k0 s → Kept k0 (okay ws s).2 := by
  grind [okay, Kept]

theorem runCommand_kept {k0 : State} (able : Bool) (src : Source) (tag : Nat) (req : List Word) (rule : CommandRule) (body :
    State → Reply × State) (s : State) (hbody : ∀ s, (Kept k0 s → Kept k0 (body s).2)) :
    ∀ u, runCommand able src tag req rule body s = .next u → (Kept k0 s → Kept k0 u) := by
  grind [runCommand, deliver_kept, finishTask_kept, refuse_kept, respond_kept, Kept]

theorem command_kept {k0 : State} (src : Source) (tag : Nat) (req : List Word) (rule : CommandRule) (body : State → Reply ×
    State) (s : State) (hbody : ∀ s, (Kept k0 s → Kept k0 (body s).2)) :
    ∀ u, command src tag req rule body s = .next u → (Kept k0 s → Kept k0 u) := by
  grind [command, runCommand_kept, Kept]

theorem withHandle_kept {k0 : State} (t : ChanType) (h : Word) (s : State) (k : Nat → Reply × State) (hk : ∀ i, (Kept k0 s → Kept
    k0 (k i).2)) :
    Kept k0 s → Kept k0 (withHandle t h s k).2 := by
  grind [withHandle, refuse_kept, Kept]

end Sys2Proof.Machine
end

