-- ==== Sys2Proof/Laws/Kept/BootOps.lean ====
section
/-! SUPPORT. What the operations of Machine/BootOps.lean keep. -/

set_option Elab.async false

namespace Sys2Proof.Machine

theorem modStart_kept {k0 : State} (g : Startup → Startup) (s : State) :
    Kept k0 s → Kept k0 (modStart g s) := by
  grind [modStart, Kept]

theorem endTrial_kept {k0 : State} (s : State) :
    Kept k0 s → Kept k0 (endTrial s) := by
  grind [endTrial, modStart_kept, Kept]

theorem noteRegistered_kept {k0 : State} (s : State) :
    Kept k0 s → Kept k0 (noteRegistered s) := by
  grind [noteRegistered, endTrial_kept, modStart_kept, raise_kept, Kept]

end Sys2Proof.Machine
end

