-- ==== Sys2Proof/Laws/Kept/GaugeOps.lean ====
section
/-! SUPPORT. What the operations of Machine/GaugeOps.lean keep. -/

set_option Elab.async false

namespace Sys2Proof.Machine

theorem modPower_kept {k0 : State} (g : Power → Power) (s : State) :
    Kept k0 s → Kept k0 (modPower g s) := by
  grind [modPower, Kept]

theorem modStore_kept {k0 : State} (g : Store → Store) (s : State) :
    Kept k0 s → Kept k0 (modStore g s) := by
  grind [modStore, modPower_kept, Kept]

theorem countPower_kept {k0 : State} (i : Nat) (n : Nat) (s : State) :
    Kept k0 s → Kept k0 (countPower i n s) := by
  grind [countPower, modPower_kept, Kept]

theorem watchCoolant_kept {k0 : State} (s : State) :
    Kept k0 s → Kept k0 (watchCoolant s) := by
  grind [watchCoolant, modPower_kept, Kept]

theorem countThrottle_kept {k0 : State} (s : State) :
    Kept k0 s → Kept k0 (countThrottle s) := by
  grind [countThrottle, countPower_kept, modPower_kept, Kept]

end Sys2Proof.Machine
end

