-- ==== Sys2Proof/Laws/Kept/TxOps.lean ====
section
/-! SUPPORT. What the operations of Machine/TxOps.lean keep. -/

set_option Elab.async false

namespace Sys2Proof.Machine

theorem modTx_kept {k0 : State} (x : Nat) (g : Transmitter → Transmitter) (s : State) :
    Kept k0 s → Kept k0 (modTx x g s) := by
  grind [modTx, Kept]

theorem countTx_kept {k0 : State} (x : Nat) (i : Nat) (n : Nat) (s : State) :
    Kept k0 s → Kept k0 (countTx x i n s) := by
  grind [countTx, modTx_kept, Kept]

theorem awaitChange_kept {k0 : State} (x : Nat) (c : TxChange) (s : State) :
    Kept k0 s → Kept k0 (awaitChange x c s) := by
  grind [awaitChange, modTx_kept, Kept]

theorem gateStuck_kept {k0 : State} (x : Nat) (s : State) :
    Kept k0 s → Kept k0 (gateStuck x s) := by
  grind [gateStuck, hold_kept, Kept]

theorem applyChange_kept {k0 : State} (x : Nat) (c : TxChange) (s : State) :
    Kept k0 s → Kept k0 (applyChange x c s) := by
  unfold applyChange; grind [modTx_kept, raise_kept, Kept]

theorem applyAll_kept {k0 : State} (x : Nat) (y1 : List TxChange) (s : State) :
    Kept k0 s → Kept k0 (applyAll x y1 s) := by
  induction y1 generalizing s with
  | nil => grind [applyAll, applyChange_kept, Kept]
  | cons a as ih => grind [applyAll, applyChange_kept, Kept]

theorem txBoundary_kept {k0 : State} (x : Nat) (s : State) :
    Kept k0 s → Kept k0 (txBoundary x s) := by
  grind [txBoundary, applyAll_kept, modTx_kept, Kept]

theorem cutTx_kept {k0 : State} (x : Nat) (r : TxReason) (s : State) :
    Kept k0 s → Kept k0 (cutTx x r s) := by
  grind [cutTx, applyChange_kept, gateStuck_kept, modTx_kept, Kept]

theorem powerOffTx_kept {k0 : State} (x : Nat) (s : State) :
    Kept k0 s → Kept k0 (powerOffTx x s) := by
  grind [powerOffTx, modTx_kept, Kept]

theorem forEach_kept {k0 : State} (g : Nat → State → State) (y1 : List Nat) (s : State) (hg : ∀ i s, (Kept k0 s → Kept k0 (g i
    s))) :
    Kept k0 s → Kept k0 (forEach g y1 s) := by
  induction y1 generalizing s with
  | nil => grind [forEach, Kept]
  | cons a as ih => grind [forEach, Kept]

theorem returnDrifted_kept {k0 : State} (p : Nat) (s : State) :
    Kept k0 s → Kept k0 (returnDrifted p s) := by
  grind [returnDrifted, awaitChange_kept, forEach_kept, Kept]

theorem resetBaselines_kept {k0 : State} (p : Nat) (s : State) :
    Kept k0 s → Kept k0 (resetBaselines p s) := by
  grind [resetBaselines, returnDrifted_kept, Kept]

end Sys2Proof.Machine
end

