-- ==== Sys2Proof/Laws/Kept/Larder.lean ====
section
/-! SUPPORT. What the operations of Machine/Larder.lean keep. -/

set_option Elab.async false

namespace Sys2Proof.Machine

theorem modQueues_kept {k0 : State} (g : Queues → Queues) (s : State) :
    Kept k0 s → Kept k0 (modQueues g s) := by
  grind [modQueues, Kept]

theorem modPool_kept {k0 : State} (i : Nat) (g : Pool → Pool) (s : State) :
    Kept k0 s → Kept k0 (modPool i g s) := by
  grind [modPool, modQueues_kept, Kept]

theorem modBuffer_kept {k0 : State} (t : Nat) (g : Buffer → Buffer) (s : State) :
    Kept k0 s → Kept k0 (modBuffer t g s) := by
  grind [modBuffer, modQueues_kept, Kept]

theorem countPool_kept {k0 : State} (i : Nat) (k : Nat) (n : Nat) (s : State) :
    Kept k0 s → Kept k0 (countPool i k n s) := by
  grind [countPool, modPool_kept, Kept]

theorem allocFails_kept {k0 : State} (i : Nat) (empty : Bool) (s : State) :
    Kept k0 s → Kept k0 (allocFails i empty s) := by
  grind [allocFails, countPool_kept, raise_kept, Kept]

theorem noteUse_kept {k0 : State} (i : Nat) (g : CycleUse → CycleUse) (s : State) :
    Kept k0 s → Kept k0 (noteUse i g s) := by
  grind [noteUse, modPool_kept, Kept]

theorem requestCycle_kept {k0 : State} (served : Nat) (by_ : Nat) (owner : Nat) (fresh : Bool) (s : State) :
    Kept k0 s → Kept k0 (requestCycle served by_ owner fresh s) := by
  grind [requestCycle, advance_kept, Kept]

theorem allocCycle_kept {k0 : State} (i : Nat) (owner : Nat) (s : State) :
    Kept k0 s → Kept k0 (allocCycle i owner s) := by
  grind [allocCycle, noteUse_kept, requestCycle_kept, Kept]

theorem freeCycle_kept {k0 : State} (i : Nat) (owner : Nat) (s : State) :
    Kept k0 s → Kept k0 (freeCycle i owner s) := by
  grind [freeCycle, noteUse_kept, requestCycle_kept, Kept]

theorem larderAlloc_kept {k0 : State} (i : Nat) (owner : Nat) (s : State) :
    Kept k0 s → Kept k0 (larderAlloc i owner s).2 := by
  grind [larderAlloc, allocCycle_kept, allocFails_kept, countPool_kept, modBuffer_kept, modPool_kept, Kept]

theorem larderShare_kept {k0 : State} (t : Nat) (add : Nat) (last : Nat) (s : State) :
    Kept k0 s → Kept k0 (larderShare t add last s) := by
  grind [larderShare, modBuffer_kept, Kept]

theorem cellReturned_kept {k0 : State} (t : Nat) (s : State) :
    Kept k0 s → Kept k0 (cellReturned t s) := by
  grind [cellReturned, modBuffer_kept, modQueues_kept, Kept]

theorem holdFree_kept {k0 : State} (t : Nat) (owner : Nat) (s : State) :
    Kept k0 s → Kept k0 (holdFree t owner s) := by
  grind [holdFree, modPool_kept, Kept]

theorem freeByLast_kept {k0 : State} (t : Nat) (s : State) :
    ∀ u, freeByLast t s = some u → (Kept k0 s → Kept k0 u) := by
  grind [freeByLast, cellReturned_kept, countPool_kept, freeCycle_kept, modBuffer_kept, modPool_kept, Kept]

theorem freeByOther_kept {k0 : State} (t : Nat) (s : State) :
    ∀ u, freeByOther t s = some u → (Kept k0 s → Kept k0 u) := by
  grind [freeByOther, countPool_kept, freeByLast_kept, holdFree_kept, modBuffer_kept, modQueues_kept, Kept]

theorem tryFree_kept {k0 : State} (t : Nat) (owner : Nat) (s : State) :
    ∀ u, tryFree t owner s = some u → (Kept k0 s → Kept k0 u) := by
  grind [tryFree, freeByLast_kept, freeByOther_kept, Kept]

theorem larderFree_kept {k0 : State} (t : Nat) (owner : Nat) (s : State) :
    Kept k0 s → Kept k0 (larderFree t owner s) := by
  grind [larderFree, holdFree_kept, tryFree_kept, Kept]

theorem freeAll_kept {k0 : State} (owner : Nat) (y1 : List Nat) (s : State) :
    Kept k0 s → Kept k0 (freeAll owner y1 s) := by
  induction y1 generalizing s with
  | nil => grind [freeAll, larderFree_kept, Kept]
  | cons a as ih => grind [freeAll, larderFree_kept, Kept]

theorem ownerDone_kept {k0 : State} (owner : Nat) (t : Nat) (s : State) :
    Kept k0 s → Kept k0 (ownerDone owner t s) := by
  grind [ownerDone, larderFree_kept, modBuffer_kept, modQueues_kept, Kept]

theorem shareAll_kept {k0 : State} (add : Nat) (last : Nat) (y1 : List Nat) (s : State) :
    Kept k0 s → Kept k0 (shareAll add last y1 s) := by
  induction y1 generalizing s with
  | nil => grind [shareAll, larderShare_kept, Kept]
  | cons a as ih => grind [shareAll, larderShare_kept, Kept]

theorem allocAll_kept {k0 : State} (owner : Nat) (y1 : List Nat) (y2 : List Nat) (s : State) :
    Kept k0 s → Kept k0 (allocAll owner y1 y2 s).2 := by
  induction y1 generalizing y2 s with
  | nil => grind [allocAll, freeAll_kept, larderAlloc_kept, Kept]
  | cons a as ih => grind [allocAll, freeAll_kept, larderAlloc_kept, Kept]

theorem modEgress_kept {k0 : State} (c : Nat) (g : EgressClass → EgressClass) (s : State) :
    Kept k0 s → Kept k0 (modEgress c g s) := by
  grind [modEgress, modQueues_kept, Kept]

theorem allocCell_kept {k0 : State} (c : Nat) (s : State) :
    Kept k0 s → Kept k0 (allocCell c s).2 := by
  grind [allocCell, larderAlloc_kept, modBuffer_kept, modEgress_kept, Kept]

theorem allocCells_kept {k0 : State} (c : Nat) (y1 : Nat) (y2 : List Nat) (s : State) :
    Kept k0 s → Kept k0 (allocCells c y1 y2 s).2 := by
  induction y1 generalizing y2 s with
  | zero => grind [allocCells, allocCell_kept, freeAll_kept, modEgress_kept, Kept]
  | succ n ih => grind [allocCells, allocCell_kept, freeAll_kept, modEgress_kept, Kept]

theorem execLarderRefill_kept {k0 : State} (pool : Nat) (s : State) :
    ∀ u, execLarderRefill pool s = .next u → (Kept k0 s → Kept k0 u) := by
  grind [execLarderRefill, modPool_kept, noteUse_kept, Kept]

theorem execLarderSpill_kept {k0 : State} (pool : Nat) (s : State) :
    ∀ u, execLarderSpill pool s = .next u → (Kept k0 s → Kept k0 u) := by
  grind [execLarderSpill, advance_kept, modPool_kept, Kept]

theorem execLarderAlloc_kept {k0 : State} (pool : Nat) (owner : Nat) (s : State) :
    ∀ u, execLarderAlloc pool owner s = .next u → (Kept k0 s → Kept k0 u) := by
  intro u h hk
  unfold execLarderAlloc at h
  obtain rfl := Host.Outcome.next.inj h
  exact Kept_rest (larderAlloc_kept _ _ _ hk)

theorem execLarderFree_kept {k0 : State} (token : Nat) (owner : Nat) (s : State) :
    ∀ u, execLarderFree token owner s = .next u → (Kept k0 s → Kept k0 u) := by
  grind [execLarderFree, larderFree_kept, Kept]

theorem execLarderShare_kept {k0 : State} (token : Nat) (add : Nat) (last : Nat) (s : State) :
    ∀ u, execLarderShare token add last s = .next u → (Kept k0 s → Kept k0 u) := by
  grind [execLarderShare, larderShare_kept, Kept]

theorem countHeld_kept {k0 : State} (i : Nat) (s : State) :
    Kept k0 s → Kept k0 (countHeld i s) := by
  grind [countHeld, countPool_kept, modPool_kept, Kept]

theorem execHeldFreeResume_kept {k0 : State} (pool : Nat) (s : State) :
    ∀ u, execHeldFreeResume pool s = .next u → (Kept k0 s → Kept k0 u) := by
  unfold execHeldFreeResume; grind [clear_kept, countHeld_kept, modPool_kept, tryFree_kept, Kept]

theorem execPoolStall_kept {k0 : State} (pool : Nat) (s : State) :
    ∀ u, execPoolStall pool s = .next u → (Kept k0 s → Kept k0 u) := by
  grind [execPoolStall, advanceTo_kept, hold_kept, modPool_kept, Kept]

end Sys2Proof.Machine
end

