-- ==== Sys2Proof/Laws/Kept/QueueOps.lean ====
section
/-! SUPPORT. What the operations of Machine/QueueOps.lean keep. -/

set_option Elab.async false

namespace Sys2Proof.Machine

theorem modPlaneQueue_kept {k0 : State} (k : Nat) (g : List QFrame → List QFrame) (s : State) :
    Kept k0 s → Kept k0 (modPlaneQueue k g s) := by
  grind [modPlaneQueue, modQueues_kept, Kept]

theorem modVoq_kept {k0 : State} (d : Nat) (c : Nat) (g : Voq → Voq) (s : State) :
    Kept k0 s → Kept k0 (modVoq d c g s) := by
  grind [modVoq, modQueues_kept, Kept]

theorem countVoq_kept {k0 : State} (d : Nat) (c : Nat) (i : Nat) (n : Nat) (s : State) :
    Kept k0 s → Kept k0 (countVoq d c i n s) := by
  grind [countVoq, modVoq_kept, Kept]

theorem setMeter_kept {k0 : State} (i : Nat) (m : Meter) (s : State) :
    Kept k0 s → Kept k0 (setMeter i m s) := by
  grind [setMeter, modQueues_kept, Kept]

theorem police_kept {k0 : State} (i : Nat) (mv : Nat) (bytes : Nat) (s : State) :
    Kept k0 s → Kept k0 (police i mv bytes s).2 := by
  grind [police, setMeter_kept, Kept]

theorem chargeShaper_kept {k0 : State} (sh : Option Nat) (bytes : Nat) (s : State) :
    Kept k0 s → Kept k0 (chargeShaper sh bytes s) := by
  unfold chargeShaper; grind [setMeter_kept, Kept]

theorem unchargeShaper_kept {k0 : State} (sh : Option Nat) (bytes : Nat) (s : State) :
    Kept k0 s → Kept k0 (unchargeShaper sh bytes s) := by
  unfold unchargeShaper; grind [setMeter_kept, Kept]

theorem storeFrame_kept {k0 : State} (len : Nat) (s : State) :
    Kept k0 s → Kept k0 (storeFrame len s).2 := by
  grind [storeFrame, allocAll_kept, modQueues_kept, shareAll_kept, Kept]

theorem appendFrame_kept {k0 : State} (k : Nat) (f : QFrame) (s : State) :
    Kept k0 s → Kept k0 (appendFrame k f s) := by
  grind [appendFrame, modPlaneQueue_kept, Kept]

theorem admitFrame_kept {k0 : State} (d : Nat) (group : Nat) (c : Nat) (p : Nat) (port : Nat) (colour : Nat) (data : List Byte)
    (s : State) :
    Kept k0 s → Kept k0 (admitFrame d group c p port colour data s).2 := by
  grind [admitFrame, appendFrame_kept, countVoq_kept, storeFrame_kept, Kept]

theorem popFrame_kept {k0 : State} (k : Nat) (s : State) :
    Kept k0 s → Kept k0 (popFrame k s) := by
  grind [popFrame, modPlaneQueue_kept, Kept]

theorem purgeQueue_kept {k0 : State} (stack : Nat) (k : Nat) (s : State) :
    Kept k0 s → Kept k0 (purgeQueue stack k s) := by
  grind [purgeQueue, countVoq_kept, forEach_kept, modPlaneQueue_kept, ownerDone_kept, Kept]

theorem dropRetiredHeads_kept {k0 : State} (k : Nat) (y1 : Nat) (s : State) :
    Kept k0 s → Kept k0 (dropRetiredHeads k y1 s) := by
  induction y1 generalizing s with
  | zero => grind [dropRetiredHeads, countVoq_kept, forEach_kept, ownerDone_kept, popFrame_kept, Kept]
  | succ n ih => grind [dropRetiredHeads, countVoq_kept, forEach_kept, ownerDone_kept, popFrame_kept, Kept]

end Sys2Proof.Machine
end

