-- ==== Sys2Proof/Laws/Kept/JoinOps.lean ====
section
/-! SUPPORT. What the operations of Machine/JoinOps.lean keep. -/

set_option Elab.async false

namespace Sys2Proof.Machine

theorem modPlane_kept {k0 : State} (p : Nat) (g : PlaneMachine → PlaneMachine) (s : State) :
    Kept k0 s → Kept k0 (modPlane p g s) := by
  grind [modPlane, KeptIn, List.length_map, List.length_modify, List.length_set, soundJoin, soundZordin, Kept]

theorem countPlane_kept {k0 : State} (p : Nat) (i : Nat) (s : State) :
    Kept k0 s → Kept k0 (countPlane p i s) := by
  grind [countPlane, modPlane_kept, Kept]

theorem countJoin_kept {k0 : State} (i : Nat) (s : State) :
    Kept k0 s → Kept k0 (countJoin i s) := by
  grind [countJoin, KeptIn, soundJoin, soundZordin, Kept]

theorem modLane_kept {k0 : State} (h : Hub) (p : Nat) (g : CueLane → CueLane) (s : State) :
    Kept k0 s → Kept k0 (modLane h p g s) := by
  grind [modLane, Kept]

theorem countLane_kept {k0 : State} (h : Hub) (p : Nat) (i : Nat) (n : Nat) (s : State) :
    Kept k0 s → Kept k0 (countLane h p i n s) := by
  grind [countLane, modLane_kept, Kept]

theorem rangingEvent_kept {k0 : State} (p : Nat) (sev : Severity) (s : State) :
    Kept k0 s → Kept k0 (rangingEvent p sev s) := by
  grind [rangingEvent, raise_kept, Kept]

theorem equalisationEvent_kept {k0 : State} (p : Nat) (s : State) :
    Kept k0 s → Kept k0 (equalisationEvent p s) := by
  grind [equalisationEvent, raise_kept, Kept]

theorem rangingFailure_kept {k0 : State} (p : Nat) (s : State) :
    Kept k0 s → Kept k0 (rangingFailure p s) := by
  grind [rangingFailure, modPlane_kept, rangingEvent_kept, Kept]

theorem tryWaitWindow_kept {k0 : State} (p : Nat) (s : State) :
    Kept k0 s → Kept k0 (tryWaitWindow p s) := by
  grind [tryWaitWindow, modPlane_kept, Kept]

theorem watchPlanes_kept {k0 : State} (s : State) :
    Kept k0 s → Kept k0 (watchPlanes s) := by
  grind [watchPlanes, KeptIn, soundJoin, soundZordin, Kept]

theorem endJoinStart_kept {k0 : State} (st : Status) (s : State) :
    Kept k0 s → Kept k0 (endJoinStart st s) := by
  grind [endJoinStart, endLongs_kept, Kept]

theorem leaveRejected_kept {k0 : State} (s : State) :
    Kept k0 s → Kept k0 (leaveRejected s) := by
  grind [leaveRejected, clear_kept, Kept]

theorem enterCueAcq_kept {k0 : State} (s : State) :
    Kept k0 s → Kept k0 (enterCueAcq s) := by
  exact fun h => Kept_join (leaveRejected_kept s h) _ (by rfl) (by rfl)

theorem enterDiscWait_kept {k0 : State} (s : State) :
    Kept k0 s → Kept k0 (enterDiscWait s) := by
  exact fun h => Kept_join (leaveRejected_kept s h) _ (by rfl) (by rfl)

theorem enterOffline_kept {k0 : State} (s : State) :
    Kept k0 s → Kept k0 (enterOffline s) := by
  exact fun h => Kept_join (leaveRejected_kept s h) _ (by rfl) (by rfl)

theorem forgetTnJoin_kept {k0 : State} (s : State) :
    Kept k0 s → Kept k0 (forgetTnJoin s) := by
  intro h
  have h : Kept k0 (if s.join.clash then clear 0x0214 1920 0 0 s else s) := by split <;> first | exact h | exact clear_kept _ _ _ _ _ h
  refine KeptIn_join _ h (.inr rfl) (.inl ?_)
  exact List.length_map _

theorem takeMsg_kept {k0 : State} (m : StageMsg) (s : State) :
    Kept k0 s → Kept k0 (takeMsg m s) := by
  grind [takeMsg, finishTask_kept, Kept]

theorem discardMsg_kept {k0 : State} (m : StageMsg) (s : State) :
    Kept k0 s → Kept k0 (discardMsg m s) := by
  grind [discardMsg, countLane_kept, Kept]

end Sys2Proof.Machine
end

