-- ==== Sys2Proof/Laws/Kept/TimeOps.lean ====
section
/-! SUPPORT. What the operations of Machine/TimeOps.lean keep. -/

set_option Elab.async false

namespace Sys2Proof.Machine

theorem modTime_kept {k0 : State} (g : Time → Time) (s : State) :
    Kept k0 s → Kept k0 (modTime g s) := by
  grind [modTime, Kept]

theorem dropTimestamp_kept {k0 : State} (s : State) :
    Kept k0 s → Kept k0 (dropTimestamp s) := by
  grind [dropTimestamp, modTime_kept, raise_kept, Kept]

theorem holdTimestamp_kept {k0 : State} (e : TsEntry) (s : State) :
    Kept k0 s → Kept k0 (holdTimestamp e s) := by
  grind [holdTimestamp, dropTimestamp_kept, modTime_kept, Kept]

theorem addOffset_kept {k0 : State} (h : Hub) (p : Nat) (e : Int) (s : State) :
    Kept k0 s → Kept k0 (addOffset h p e s) := by
  grind [addOffset, modTime_kept, Kept]

theorem noteUnusable_kept {k0 : State} (s : State) :
    Kept k0 s → Kept k0 (noteUnusable s) := by
  grind [noteUnusable, List.length_map, List.length_modify, List.length_set, foldl_kept, modTime_kept, Kept]

end Sys2Proof.Machine
end

