-- ==== Sys2Proof/Laws/Kept/PortOps.lean ====
section
/-! SUPPORT. What the operations of Machine/PortOps.lean keep. -/

set_option Elab.async false

namespace Sys2Proof.Machine

theorem modPort_kept {k0 : State} (p : Nat) (g : Port → Port) (s : State) :
    Kept k0 s → Kept k0 (modPort p g s) := by
  grind [modPort, Kept]

theorem countPort_kept {k0 : State} (p : Nat) (i : Nat) (n : Nat) (s : State) :
    Kept k0 s → Kept k0 (countPort p i n s) := by
  grind [countPort, modPort_kept, Kept]

theorem countClassify_kept {k0 : State} (i : Nat) (n : Nat) (s : State) :
    Kept k0 s → Kept k0 (countClassify i n s) := by
  grind [countClassify, Kept]

theorem pushPipeline_kept {k0 : State} (i : Nat) (f : InFrame) (s : State) :
    Kept k0 s → Kept k0 (pushPipeline i f s) := by
  grind [pushPipeline, Kept]

theorem macDone_kept {k0 : State} (p : Nat) (f : EgressFrame) (s : State) :
    Kept k0 s → Kept k0 (macDone p f s) := by
  grind [macDone, forEach_kept, larderFree_kept, ownerDone_kept, Kept]

theorem dropAllFrames_kept {k0 : State} (p : Nat) (y1 : List EgressFrame) (s : State) :
    Kept k0 s → Kept k0 (dropAllFrames p y1 s) := by
  induction y1 generalizing s with
  | nil => grind [dropAllFrames, macDone_kept, Kept]
  | cons a as ih => grind [dropAllFrames, macDone_kept, Kept]

theorem flushPort_kept {k0 : State} (p : Nat) (s : State) :
    Kept k0 s → Kept k0 (flushPort p s) := by
  grind [flushPort, countPort_kept, dropAllFrames_kept, modPort_kept, Kept]

theorem enqueueEgress_kept {k0 : State} (p : Nat) (f : EgressFrame) (s : State) :
    Kept k0 s → Kept k0 (enqueueEgress p f s) := by
  grind [enqueueEgress, modPort_kept, Kept]

theorem handPort_kept {k0 : State} (p : Nat) (f : EgressFrame) (s : State) :
    Kept k0 s → Kept k0 (handPort p f s).2 := by
  grind [handPort, countClassify_kept, countPort_kept, enqueueEgress_kept, Kept]

theorem handUnicast_kept {k0 : State} (p : Nat) (f : EgressFrame) (s : State) :
    Kept k0 s → Kept k0 (handUnicast p f s) := by
  grind [handUnicast, freeAll_kept, handPort_kept, shareAll_kept, Kept]

theorem handCopies_kept {k0 : State} (f : EgressFrame) (y1 : List Nat) (y2 : Nat) (s : State) :
    Kept k0 s → Kept k0 (handCopies f y1 y2 s).2 := by
  induction y1 generalizing y2 s with
  | nil => grind [handCopies, handPort_kept, Kept]
  | cons a as ih => grind [handCopies, handPort_kept, Kept]

theorem replicate_kept {k0 : State} (ports : Nat) (f : EgressFrame) (s : State) :
    Kept k0 s → Kept k0 (replicate ports f s) := by
  grind [replicate, forEach_kept, freeAll_kept, handCopies_kept, modBuffer_kept, shareAll_kept, Kept]

theorem dropMcast_kept {k0 : State} (f : EgressFrame) (s : State) :
    Kept k0 s → Kept k0 (dropMcast f s) := by
  grind [dropMcast, freeAll_kept, modQueues_kept, Kept]

theorem tellCref_kept {k0 : State} (p : Nat) (s : State) :
    Kept k0 s → Kept k0 (tellCref p s) := by
  grind [tellCref, forEach_kept, holdIf_kept, Kept]

theorem startPort_kept {k0 : State} (p : Nat) (s : State) :
    Kept k0 s → Kept k0 (startPort p s) := by
  grind [startPort, modPort_kept, tellCref_kept, Kept]

theorem leaveUp_kept {k0 : State} (p : Nat) (s : State) :
    Kept k0 s → Kept k0 (leaveUp p s) := by
  grind [leaveUp, clear_kept, flushPort_kept, modPort_kept, Kept]

theorem linkLost_kept {k0 : State} (p : Nat) (s : State) :
    Kept k0 s → Kept k0 (linkLost p s) := by
  grind [linkLost, leaveUp_kept, raise_kept, startPort_kept, Kept]

theorem powerDownPort_kept {k0 : State} (p : Nat) (s : State) :
    Kept k0 s → Kept k0 (powerDownPort p s) := by
  grind [powerDownPort, leaveUp_kept, modPort_kept, Kept]

theorem disablePort_kept {k0 : State} (p : Nat) (s : State) :
    Kept k0 s → Kept k0 (disablePort p s) := by
  grind [disablePort, clear_kept, flushPort_kept, forEach_kept, modPort_kept, Kept]

end Sys2Proof.Machine
end

