-- ==== Sys2Proof/Laws/Kept/Classify.lean ====
section
/-! SUPPORT. What the operations of Machine/Classify.lean keep. -/

set_option Elab.async false

namespace Sys2Proof.Machine

theorem choosePlane_kept {k0 : State} (t : Nat) (h : Nat) (s : State) :
    Kept k0 s → Kept k0 (choosePlane t h s).2 := by
  unfold choosePlane; grind [countClassify_kept, Kept]

theorem countReason_kept {k0 : State} (base : Nat) (reason : Nat) (s : State) :
    Kept k0 s → Kept k0 (countReason base reason s) := by
  grind [countReason, countClassify_kept, Kept]

theorem slowPath_kept {k0 : State} (f : SlowFrame) (s : State) :
    Kept k0 s → Kept k0 (slowPath f s).2 := by
  grind [slowPath, countReason_kept, Kept]

theorem slowIngress_kept {k0 : State} (f : SlowFrame) (s : State) :
    Kept k0 s → Kept k0 (slowIngress f s).2 := by
  grind [slowIngress, countPort_kept, slowPath_kept, Kept]

theorem forward_kept {k0 : State} (f : InFrame) (w : Walk) (mv : Nat) (act : Word) (pol : Word) (s : State) :
    Kept k0 s → Kept k0 (forward f w mv act pol s).2.2 := by
  grind [forward, admitFrame_kept, choosePlane_kept, police_kept, Kept]

theorem missAction_kept {k0 : State} (f : InFrame) (cls : Nat) (sym : Option Nat) (watch : Option Nat) (s : State) :
    Kept k0 s → Kept k0 (missAction f cls sym watch s) := by
  grind [missAction, countPort_kept, slowIngress_kept, Kept]

theorem applyVerdict_kept {k0 : State} (f : InFrame) (w : Walk) (mv : Nat) (act : Word) (pol : Word) (s : State) :
    Kept k0 s → Kept k0 (applyVerdict f w mv act pol s) := by
  grind [applyVerdict, countPort_kept, forEach_kept, forward_kept, missAction_kept, modBuffer_kept, slowIngress_kept, Kept]

theorem classify_kept {k0 : State} (f : InFrame) (s : State) :
    Kept k0 s → Kept k0 (classify f s) := by
  grind [classify, applyVerdict_kept, slowIngress_kept, Kept]

theorem execParse_kept {k0 : State} (pipeline : Nat) (s : State) :
    ∀ u, execParse pipeline s = .next u → (Kept k0 s → Kept k0 u) := by
  intro u h hk
  unfold execParse at h
  split at h
  · exact next_kept h hk
  · have h1 (k d n) := popCycle_kept k d n _ (advanceTo_kept (tabGet 0 s.ports.parserFree pipeline) s hk)
    simp only at h
    split at h
    · exact next_kept h (countPort_kept _ _ _ _ (Kept_rest (h1 _ _ _)))
    · exact next_kept h (classify_kept _ _ (Kept_rest (h1 _ _ _)))

theorem execEpochDrain_kept {k0 : State} (s : State) :
    ∀ u, execEpochDrain s = .next u → (Kept k0 s → Kept k0 u) := by
  grind [execEpochDrain, Kept]

end Sys2Proof.Machine
end

