-- ==== Sys2Proof/Laws/Kept/GrantOps.lean ====
section
/-! SUPPORT. What the operations of Machine/GrantOps.lean keep. -/

set_option Elab.async false

namespace Sys2Proof.Machine

theorem modGrants_kept {k0 : State} (p : Nat) (g : PlaneGrants → PlaneGrants) (s : State) :
    Kept k0 s → Kept k0 (modGrants p g s) := by
  grind [modGrants, List.length_map, List.length_modify, List.length_set, Kept]

theorem countGrant_kept {k0 : State} (p : Nat) (i : Nat) (n : Nat) (s : State) :
    Kept k0 s → Kept k0 (countGrant p i n s) := by
  grind [countGrant, modGrants_kept, Kept]

theorem integrityEvent_kept {k0 : State} (p : Nat) (s : State) :
    Kept k0 s → Kept k0 (integrityEvent p s) := by
  grind [integrityEvent, raise_kept, Kept]

theorem integrityError_kept {k0 : State} (p : Nat) (s : State) :
    Kept k0 s → Kept k0 (integrityError p s) := by
  grind [integrityError, countGrant_kept, integrityEvent_kept, Kept]

theorem discardRecord_kept {k0 : State} (p : Nat) (s : State) :
    Kept k0 s → Kept k0 (discardRecord p s) := by
  grind [discardRecord, countGrant_kept, integrityEvent_kept, Kept]

theorem takeRecord_kept {k0 : State} (p : Nat) (c : Nat) (n : Nat) (s : State) :
    Kept k0 s → Kept k0 (takeRecord p c n s) := by
  grind [takeRecord, countGrant_kept, discardRecord_kept, modGrants_kept, Kept]

theorem takeRecords_kept {k0 : State} (p : Nat) (c : Nat) (y1 : List Nat) (s : State) :
    Kept k0 s → Kept k0 (takeRecords p c y1 s) := by
  induction y1 generalizing s with
  | nil => grind [takeRecords, takeRecord_kept, Kept]
  | cons a as ih => grind [takeRecords, takeRecord_kept, Kept]

theorem commitEntries_kept {k0 : State} (p : Nat) (target : Nat) (i : Nat) (f : CommittedFrame) (s : State) :
    Kept k0 s → Kept k0 (commitEntries p target i f s) := by
  grind [commitEntries, countGrant_kept, modGrants_kept, Kept]

theorem commitAbsent_kept {k0 : State} (p : Nat) (target : Nat) (s : State) :
    Kept k0 s → Kept k0 (commitAbsent p target s) := by
  grind [commitAbsent, commitEntries_kept, Kept]

theorem repeatOn_kept {k0 : State} (g : State → State) (y1 : Nat) (s : State) (hg : ∀ s, (Kept k0 s → Kept k0 (g s))) :
    Kept k0 s → Kept k0 (repeatOn g y1 s) := by
  induction y1 generalizing s with
  | zero => grind [repeatOn, Kept]
  | succ n ih => grind [repeatOn, Kept]

theorem compareMirror_kept {k0 : State} (p : Nat) (sfn : Nat) (owner : List Nat) (mirror : List Nat) (s : State) :
    Kept k0 s → Kept k0 (compareMirror p sfn owner mirror s) := by
  grind [compareMirror, countGrant_kept, integrityEvent_kept, modGrants_kept, Kept]

end Sys2Proof.Machine
end

