-- ==== Sys2Proof/Laws/Kept/Reassembly.lean ====
section
/-! SUPPORT. What the operations of Machine/Reassembly.lean keep. -/

set_option Elab.async false

namespace Sys2Proof.Machine

theorem modRx_kept {k0 : State} (g : Rx → Rx) (s : State) :
    Kept k0 s → Kept k0 (modRx g s) := by
  grind [modRx, Kept]

theorem modRxLane_kept {k0 : State} (r : Nat) (g : RxLane → RxLane) (s : State) :
    Kept k0 s → Kept k0 (modRxLane r g s) := by
  grind [modRxLane, modRx_kept, Kept]

theorem countRx_kept {k0 : State} (r : Nat) (i : Nat) (n : Nat) (s : State) :
    Kept k0 s → Kept k0 (countRx r i n s) := by
  grind [countRx, modRxLane_kept, Kept]

theorem closeContext_kept {k0 : State} (k : Nat) (s : State) :
    Kept k0 s → Kept k0 (closeContext k s) := by
  grind [closeContext, countRx_kept, freeAll_kept, modRx_kept, Kept]

theorem closeSender_kept {k0 : State} (tn : Option Nat) (s : State) :
    Kept k0 s → Kept k0 (closeSender tn s) := by
  unfold closeSender; grind [closeContext_kept, forEach_kept, Kept]

end Sys2Proof.Machine
end

