-- ==== Sys2Proof/Laws/Kept/Strongroom.lean ====
section
/-! SUPPORT. What the operations of Machine/Strongroom.lean keep. -/

set_option Elab.async false

namespace Sys2Proof.Machine

theorem reseed_kept {k0 : State} (s : State) :
    Kept k0 s → Kept k0 (reseed s) := by
  grind [reseed, Kept]

theorem drbgDraw_kept {k0 : State} (n : Nat) (s : State) :
    Kept k0 s → Kept k0 (drbgDraw n s).2 := by
  intro h
  unfold drbgDraw
  refine Kept_rest (takeFreeBits_kept _ _ ?_)
  split
  · exact reseed_kept _ h
  · exact h

theorem drawSecret_kept {k0 : State} (s : State) :
    Kept k0 s → Kept k0 (drawSecret s).2 := by
  grind [drawSecret, drbgDraw_kept, Kept]

theorem signed_kept {k0 : State} (bs : List Byte) (s : State) :
    Kept k0 s → Kept k0 (signed bs s).2 := by
  grind [signed, drbgDraw_kept, Kept]

theorem answerRecord_kept {k0 : State} (r : KeyRecord) (s : State) :
    Kept k0 s → Kept k0 (answerRecord r s).2.2 := by
  grind [answerRecord, drawSecret_kept, drbgDraw_kept, signed_kept, Kept]

theorem maskedDecrypt_kept {k0 : State} (key : BitVec 256) (block : BitVec 128) (s : State) :
    Kept k0 s → Kept k0 (maskedDecrypt key block s).2 := by
  intro h
  have h1 := drbgDraw_kept 8 s h
  unfold maskedDecrypt
  generalize drbgDraw 8 s = x at h1 ⊢
  exact Kept_rest h1

theorem unwrapKey_kept {k0 : State} (kek : BitVec 256) (wrapped : Nat) (s : State) :
    Kept k0 s → Kept k0 (unwrapKey kek wrapped s).2 := by
  intro h
  have hs : ∀ (l : List Nat) (x : Nat × Nat × State), Kept k0 x.2.2 → Kept k0 (l.foldl (unwrapStep kek) x).2.2 := by
    intro l
    induction l with
    | nil => exact fun _ h => h
    | cons t ts ih => exact fun x h => ih _ (by grind [unwrapStep, maskedDecrypt_kept])
  unfold unwrapKey
  have h2 := hs ((List.range 24).map (fun i => 24 - i)) (wrapped / 2 ^ 256, wrapped % 2 ^ 256, s) h
  generalize ((List.range 24).map (fun i => 24 - i)).foldl (unwrapStep kek) (wrapped / 2 ^ 256, wrapped % 2 ^ 256, s) = x at h2 ⊢
  exact h2

theorem unwrapUnder_kept {k0 : State} (y1 : List KeyEpoch) (y2 : Nat) (s : State) :
    Kept k0 s → Kept k0 (unwrapUnder y1 y2 s).2 := by
  induction y1 generalizing y2 s with
  | nil => grind [unwrapUnder, unwrapKey_kept, Kept]
  | cons a as ih => grind [unwrapUnder, unwrapKey_kept, Kept]

theorem identityBlob_kept {k0 : State} (o : OfferSecret) (sfn : Nat) (s : State) :
    Kept k0 s → Kept k0 (identityBlob o sfn s).2 := by
  intros; simp_all only [identityBlob]; (repeat' split) <;> grind [signed_kept, Kept]

theorem makeIdentity_kept {k0 : State} (nonce : Nat) (sfn : Nat) (s : State) :
    Kept k0 s → Kept k0 (makeIdentity nonce sfn s) := by
  intro h
  unfold makeIdentity
  simp only
  split
  · exact h
  · exact Kept_rest (identityBlob_kept _ _ _ (drawSecret_kept _ h))

end Sys2Proof.Machine
end

