-- ==== Sys2Proof/Laws/Kept/SecOps.lean ====
section
/-! SUPPORT. What the operations of Machine/SecOps.lean keep. -/

set_option Elab.async false

namespace Sys2Proof.Machine

theorem modKey_kept {k0 : State} (k : Nat) (g : LineKey → LineKey) (s : State) :
    Kept k0 s → Kept k0 (modKey k g s) := by
  grind [modKey, Kept]

theorem countSec_kept {k0 : State} (i : Nat) (n : Nat) (s : State) :
    Kept k0 s → Kept k0 (countSec i n s) := by
  grind [countSec, Kept]

theorem installEpoch_kept {k0 : State} (k : Nat) (e : KeyEpoch) (s : State) :
    Kept k0 s → Kept k0 (installEpoch k e s) := by
  grind [installEpoch, countSec_kept, modKey_kept, Kept]

theorem chooseActivation_kept {k0 : State} (s : State) :
    Kept k0 s → Kept k0 (chooseActivation s).2 := by
  grind [chooseActivation, takeFree_kept, Kept]

theorem eraseKeys_kept {k0 : State} (s : State) :
    Kept k0 s → Kept k0 (eraseKeys s) := by
  grind [eraseKeys, Kept]

theorem modSeq_kept {k0 : State} (g : Sequence → Sequence) (s : State) :
    Kept k0 s → Kept k0 (modSeq g s) := by
  grind [modSeq, Kept]

theorem seqHalt_kept {k0 : State} (s : State) :
    Kept k0 s → Kept k0 (seqHalt s) := by
  grind [seqHalt, hold_kept, modSeq_kept, Kept]

theorem seqResume_kept {k0 : State} (s : State) :
    Kept k0 s → Kept k0 (seqResume s) := by
  grind [seqResume, clear_kept, modSeq_kept, Kept]

theorem execSequenceResume_kept {k0 : State} (slot : Nat) (s : State) :
    ∀ u, execSequenceResume slot s = .next u → (Kept k0 s → Kept k0 u) := by
  grind [execSequenceResume, modSeq_kept, seqHalt_kept, toSlot_kept, Kept]

theorem execSeqRecordCommit_kept {k0 : State} (readBackOk : Bool) (s : State) :
    ∀ u, execSeqRecordCommit readBackOk s = .next u → (Kept k0 s → Kept k0 u) := by
  grind [execSeqRecordCommit, modSeq_kept, Kept]

theorem feedPrediction_kept {k0 : State} (tn : Nat) (slot : Nat) (seqLow : Nat) (epoch : Nat) (key : Option Nat) (s : State) :
    Kept k0 s → Kept k0 (feedPrediction tn slot seqLow epoch key s) := by
  unfold feedPrediction; grind [Kept]

theorem queueSegments_kept {k0 : State} (toB : Bool) (recKind : Nat) (toTn : Nat) (recId : Nat) (bs : List Byte) (s : State) :
    Kept k0 s → Kept k0 (queueSegments toB recKind toTn recId bs s) := by
  grind [queueSegments, Kept]

theorem sendRecord_kept {k0 : State} (recKind : Nat) (toTn : Nat) (recId : Nat) (bs : List Byte) (s : State) :
    Kept k0 s → Kept k0 (sendRecord recKind toTn recId bs s) := by
  grind [sendRecord, queueSegments_kept, takeFree_kept, Kept]

theorem setAssoc_kept {k0 : State} (i : Nat) (a : Association) (s : State) :
    Kept k0 s → Kept k0 (setAssoc i a s) := by
  grind [setAssoc, Kept]

theorem endKeyCommand_kept {k0 : State} (i : Nat) (st : Status) (s : State) :
    Kept k0 s → Kept k0 (endKeyCommand i st s) := by
  grind [endKeyCommand, endLongs_kept, Kept]

theorem sendOffer_kept {k0 : State} (i : Nat) (expiries : Nat) (s : State) :
    Kept k0 s → Kept k0 (sendOffer i expiries s) := by
  intro h
  unfold sendOffer
  split
  · exact setAssoc_kept _ _ _ h
  · have h1 := drawSecret_kept _ (chooseActivation_kept _ h)
    simp only
    generalize drawSecret (chooseActivation s).2 = x at h1 ⊢
    refine sendRecord_kept _ _ _ _ _ (signed_kept _ _ ?_)
    exact Kept_rest (setAssoc_kept _ _ _ h1)

theorem concludeOffer_kept {k0 : State} (i : Nat) (keys : BitVec 256 × BitVec 256) (s : State) :
    Kept k0 s → Kept k0 (concludeOffer i keys s) := by
  grind [concludeOffer, endKeyCommand_kept, installEpoch_kept, setAssoc_kept, Kept]

theorem endAssoc_kept {k0 : State} (i : Nat) (s : State) :
    Kept k0 s → Kept k0 (endAssoc i s) := by
  grind [endAssoc, closeChan_kept, endKeyCommand_kept, modKey_kept, setAssoc_kept, Kept]

theorem forgetKeys_kept {k0 : State} (s : State) :
    Kept k0 s → Kept k0 (forgetKeys s) := by
  intro h
  unfold forgetKeys
  refine eraseKeys_kept _ (Kept_rest (endKeyCommand_kept _ _ _ (forEach_kept _ _ _ (fun i s h => ?_) h)))
  split
  · exact endAssoc_kept _ _ h
  · exact h

theorem forgetTn_kept {k0 : State} (s : State) :
    Kept k0 s → Kept k0 (forgetTn s) := by
  grind [forgetTn, closeSender_kept, forgetKeys_kept, forgetTnJoin_kept, Kept]

theorem drawSelfEpoch_kept {k0 : State} (num : Nat) (act : Nat) (s : State) :
    Kept k0 s → Kept k0 (drawSelfEpoch num act s) := by
  grind [drawSelfEpoch, drbgDraw_kept, installEpoch_kept, Kept]

theorem drawSelfKey_kept {k0 : State} (s : State) :
    Kept k0 s → Kept k0 (drawSelfKey s) := by
  grind [drawSelfKey, drawSelfEpoch_kept, Kept]

end Sys2Proof.Machine
end

