-- ==== Sys2Proof/Laws/Kept/PowerOps.lean ====
section
/-! SUPPORT. What the operations of Machine/PowerOps.lean keep. -/

set_option Elab.async false

namespace Sys2Proof.Machine

theorem enterPower_kept {k0 : State} (p : PowerState) (s : State) :
    Kept k0 s → Kept k0 (enterPower p s) := by
  grind [enterPower, modPower_kept, raise_kept, Kept]

theorem demuxOff_kept {k0 : State} (t : Nat) (s : State) :
    Kept k0 s → Kept k0 (demuxOff t s) := by
  grind [demuxOff, modPower_kept, Kept]

theorem shutEffect_kept {k0 : State} (g : Nat) (s : State) :
    Kept k0 s → Kept k0 (shutEffect g s) := by
  grind [shutEffect, demuxOff_kept, forEach_kept, powerOffTx_kept, Kept]

theorem restartGrids_kept {k0 : State} (g : Nat) (s : State) :
    Kept k0 s → Kept k0 (restartGrids g s) := by
  grind [restartGrids, Kept]

theorem closeGate_kept {k0 : State} (island : Bool) (g : Nat) (s : State) :
    Kept k0 s → Kept k0 (closeGate island g s) := by
  grind [closeGate, modPower_kept, shutEffect_kept, Kept]

theorem openGate_kept {k0 : State} (g : Nat) (s : State) :
    Kept k0 s → Kept k0 (openGate g s) := by
  grind [openGate, modPower_kept, restartGrids_kept, Kept]

theorem carryGate_kept {k0 : State} (island : Bool) (close : Bool) (g : Nat) (s : State) :
    Kept k0 s → Kept k0 (carryGate island close g s) := by
  grind [carryGate, closeGate_kept, openGate_kept, Kept]

theorem recordGate_kept {k0 : State} (g : Nat) (r : Option Bool) (island : Bool) (s : State) :
    Kept k0 s → Kept k0 (recordGate g r island s) := by
  grind [recordGate, modPower_kept, Kept]

theorem deferGate_kept {k0 : State} (island : Bool) (close : Bool) (g : Nat) (s : State) :
    Kept k0 s → Kept k0 (deferGate island close g s).2 := by
  grind [deferGate, countSec_kept, raise_kept, recordGate_kept, Kept]

theorem execGateRelease_kept {k0 : State} (gate : Nat) (s : State) :
    ∀ u, execGateRelease gate s = .next u → (Kept k0 s → Kept k0 u) := by
  grind [execGateRelease, carryGate_kept, modPower_kept, raise_kept, recordGate_kept, Kept]

theorem closeForIsland_kept {k0 : State} (y1 : List Nat) (s : State) :
    Kept k0 s → Kept k0 (closeForIsland y1 s) := by
  induction y1 generalizing s with
  | nil => grind [closeForIsland, closeGate_kept, deferGate_kept, modPower_kept, Kept]
  | cons a as ih => grind [closeForIsland, closeGate_kept, deferGate_kept, modPower_kept, Kept]

theorem closeAtOnce_kept {k0 : State} (y1 : List Nat) (s : State) :
    Kept k0 s → Kept k0 (closeAtOnce y1 s) := by
  induction y1 generalizing s with
  | nil => grind [closeAtOnce, closeGate_kept, Kept]
  | cons a as ih => grind [closeAtOnce, closeGate_kept, Kept]

theorem openForIsland_kept {k0 : State} (target : Nat) (s : State) :
    Kept k0 s → Kept k0 (openForIsland target s) := by
  grind [openForIsland, forEach_kept, modPower_kept, recordGate_kept, Kept]

theorem emptyQueues_kept {k0 : State} (s : State) :
    Kept k0 s → Kept k0 (emptyQueues s) := by
  intro h
  unfold emptyQueues
  exact Kept_rest (Kept_rest (Kept_rest (modQueues_kept _ _ h)))

theorem beginTransition_kept {k0 : State} (target : Nat) (s : State) :
    Kept k0 s → Kept k0 (beginTransition target s) := by
  intro h
  unfold beginTransition
  simp only
  have h1 := modPower_kept (fun p => { p with transition := some ⟨target, s.clock.now, [], false⟩ }) s h
  split
  · refine closeForIsland_kept _ _ (modPower_kept _ _ (forEach_kept _ _ _ (fun i s h => powerDownPort_kept _ _ h) ?_))
    exact forEach_kept _ _ _ (fun i s h => modPlane_kept _ _ _ h) h1
  · exact h1

theorem holdPlanes_kept {k0 : State} (s : State) :
    Kept k0 s → Kept k0 (holdPlanes s) := by
  intro h
  unfold holdPlanes
  simp only
  split
  · exact watchPlanes_kept _ (Kept_join (forEach_kept _ _ _ (fun i s h => modPlane_kept _ _ _ h) (toSlot_kept _ _ h)) _ (by rfl) (by rfl))
  · exact h

theorem resumeRun_kept {k0 : State} (s : State) :
    Kept k0 s → Kept k0 (resumeRun s) := by
  grind [resumeRun, List.length_map, List.length_modify, List.length_set, forEach_kept, modPlane_kept, modPower_kept,
    startPort_kept, tryWaitWindow_kept, Kept]

theorem powerCueLanes_kept {k0 : State} (s : State) :
    Kept k0 s → Kept k0 (powerCueLanes s) := by
  grind [powerCueLanes, foldl_kept, Kept]

end Sys2Proof.Machine
end

