-- ==== Sys2Proof/Laws/Kept/CueLanes.lean ====
section
/-! SUPPORT. What the operations of Machine/CueLanes.lean keep. -/

set_option Elab.async false

namespace Sys2Proof.Machine

theorem showCondition_kept {k0 : State} (on : Bool) (code : Nat) (src : Nat) (sev : Severity) (s : State) :
    Kept k0 s → Kept k0 (showCondition on code src sev s) := by
  grind [showCondition, clear_kept, hold_kept, Kept]

theorem lofEvent_kept {k0 : State} (wasLos : Bool) (l : CueLane) (src : Nat) (sev : Severity) (s : State) :
    Kept k0 s → Kept k0 (lofEvent wasLos l src sev s) := by
  grind [lofEvent, hold_kept, modAlarm_kept, showCondition_kept, Kept]

theorem laneEvents_kept {k0 : State} (wasLos : Bool) (h : Hub) (p : Nat) (sev : Severity) (s : State) :
    Kept k0 s → Kept k0 (laneEvents wasLos h p sev s) := by
  grind (splits := 30) (gen := 20) (ematch := 20) [laneEvents, lofEvent_kept, showCondition_kept, Kept]

theorem takeSlots_kept {k0 : State} (f : CueFrame) (start : Nat) (s : State) :
    Kept k0 s → Kept k0 (takeSlots f start s) := by
  grind [takeSlots, KeptIn, soundJoin, soundZordin, Kept]

theorem evalLane_kept {k0 : State} (cs : List CueSlot) (ref : Option Nat) (h : Hub) (p : Nat) (s : State) :
    Kept k0 s → Kept k0 (evalLane cs ref h p s).2 := by
  grind [evalLane, laneEvents_kept, modLane_kept, takeSlots_kept, Kept]

theorem evalLanes_kept {k0 : State} (cs : List CueSlot) (aligned : Bool) (ref : Option Nat) (y1 : List (Hub × Nat)) (s : State) :
    Kept k0 s → Kept k0 (evalLanes cs aligned ref y1 s).2 := by
  induction y1 generalizing s with
  | nil => grind [evalLanes, evalLane_kept, Kept]
  | cons a as ih => grind [evalLanes, evalLane_kept, Kept]

end Sys2Proof.Machine
end

