-- ==== Sys2Proof/Laws/Kept/Root.lean ====
section
/-! SUPPORT. What the operations of Machine/Root.lean keep. -/

set_option Elab.async false

namespace Sys2Proof.Machine

theorem modRoot_kept {k0 : State} (g : RootClock → RootClock) (s : State) :
    Kept k0 s → Kept k0 (modRoot g s) := by
  grind [modRoot, Kept]

theorem rootHold_kept {k0 : State} (s : State) :
    Kept k0 s → Kept k0 (rootHold s) := by
  grind [rootHold, modRoot_kept, Kept]

theorem rootUpdate_kept {k0 : State} (s : State) :
    Kept k0 s → Kept k0 (rootUpdate s) := by
  grind [rootUpdate, clear_kept, modRoot_kept, rootHold_kept, Kept]

theorem cueAcqDone_kept {k0 : State} (s : State) :
    Kept k0 s → Kept k0 (cueAcqDone s) := by
  grind [cueAcqDone, KeptIn, enterDiscWait_kept, soundJoin, soundZordin, Kept]

theorem execRootTransferDone_kept {k0 : State} (s : State) :
    ∀ u, execRootTransferDone s = .next u → (Kept k0 s → Kept k0 u) := by
  grind [execRootTransferDone, cueAcqDone_kept, modRoot_kept, Kept]

theorem execRootHoldover_kept {k0 : State} (syncRef : Bool) (s : State) :
    ∀ u, execRootHoldover syncRef s = .next u → (Kept k0 s → Kept k0 u) := by
  intro u h hk
  unfold execRootHoldover at h
  split at h
  · exact next_kept h hk
  · exact next_kept h (hold_kept _ _ _ _ _ _ (modRoot_kept _ _ (Kept_rest (advanceTo_kept _ _ hk))))

theorem execRootDisplace_kept {k0 : State} (s : State) :
    ∀ u, execRootDisplace s = .next u → (Kept k0 s → Kept k0 u) := by
  grind [execRootDisplace, advanceTo_kept, modRoot_kept, Kept]

end Sys2Proof.Machine
end

