-- ==== Sys2Proof/Laws/Kept/ExpressOps.lean ====
section
/-! SUPPORT. What the operations of Machine/ExpressOps.lean keep. -/

set_option Elab.async false

namespace Sys2Proof.Machine

theorem modExpress_kept {k0 : State} (g : Express → Express) (s : State) :
    Kept k0 s → Kept k0 (modExpress g s) := by
  grind [modExpress, Kept]

theorem modGroup_kept {k0 : State} (i : Nat) (g : ExpGroup → ExpGroup) (s : State) :
    Kept k0 s → Kept k0 (modGroup i g s) := by
  grind [modGroup, modExpress_kept, Kept]

theorem countGroup_kept {k0 : State} (i : Nat) (k : Nat) (n : Nat) (s : State) :
    Kept k0 s → Kept k0 (countGroup i k n s) := by
  grind [countGroup, modGroup_kept, Kept]

end Sys2Proof.Machine
end

