-- ==== Sys2Proof/Laws/Kept/RxOps.lean ====
section
/-! SUPPORT. What the operations of Machine/RxOps.lean keep. -/

set_option Elab.async false

namespace Sys2Proof.Machine

theorem countSender_kept {k0 : State} (p : Nat) (tn : Nat) (i : Nat) (n : Nat) (s : State) :
    Kept k0 s → Kept k0 (countSender p tn i n s) := by
  grind [countSender, modRx_kept, Kept]

theorem modRecord_kept {k0 : State} (r : Nat) (g : RxRecord → RxRecord) (s : State) :
    Kept k0 s → Kept k0 (modRecord r g s) := by
  grind [modRecord, modRx_kept, Kept]

theorem toCycle_kept {k0 : State} (slot : Nat) (cycle : Nat) (s : State) :
    Kept k0 s → Kept k0 (toCycle slot cycle s) := by
  grind [toCycle, advanceTo_kept, Kept]

theorem openRxSlot_kept {k0 : State} (slot : Nat) (s : State) :
    Kept k0 s → Kept k0 (openRxSlot slot s) := by
  grind [openRxSlot, modRx_kept, Kept]

end Sys2Proof.Machine
end

