-- ==== Sys2Proof/Laws/Kept/CueFrame.lean ====
section
/-! SUPPORT. What the operations of Machine/CueFrame.lean keep. -/

set_option Elab.async false

namespace Sys2Proof.Machine

theorem ownershipEvent_kept {k0 : State} (p : Nat) (new : Ownership) (s : State) :
    Kept k0 s → Kept k0 (ownershipEvent p new s) := by
  grind [ownershipEvent, clear_kept, hold_kept, modAlarm_kept, raise_kept, Kept]

theorem setOwnership_kept {k0 : State} (p : Nat) (s : State) :
    Kept k0 s → Kept k0 (setOwnership p s) := by
  grind [setOwnership, clear_kept, modPlane_kept, ownershipEvent_kept, Kept]

theorem referenceBack_kept {k0 : State} (p : Nat) (cycle : Int) (bits : Nat) (s : State) :
    Kept k0 s → Kept k0 (referenceBack p cycle bits s) := by
  grind [referenceBack, modPlane_kept, rangingEvent_kept, Kept]

theorem setReference_kept {k0 : State} (p : Nat) (s : State) :
    Kept k0 s → Kept k0 (setReference p s) := by
  grind [setReference, modPlane_kept, referenceBack_kept, Kept]

theorem mirrorCheck_kept {k0 : State} (p : Nat) (owner : CueFrame) (other : Option LaneEval) (s : State) :
    Kept k0 s → Kept k0 (mirrorCheck p owner other s) := by
  unfold mirrorCheck; grind [compareMirror_kept, Kept]

theorem commitFrame_kept {k0 : State} (p : Nat) (f : CueFrame) (other : Option LaneEval) (s : State) :
    Kept k0 s → Kept k0 (commitFrame p f other s) := by
  grind [commitFrame, commitEntries_kept, integrityError_kept, mirrorCheck_kept, repeatOn_kept, takeRecords_kept, Kept]

theorem lapseSheets_kept {k0 : State} (p : Nat) (s : State) :
    Kept k0 s → Kept k0 (lapseSheets p s) := by
  grind [lapseSheets, modGrants_kept, Kept]

theorem commitPlane_kept {k0 : State} (slot : Nat) (es : List LaneEval) (p : Nat) (s : State) :
    Kept k0 s → Kept k0 (commitPlane slot es p s) := by
  grind [commitPlane, commitAbsent_kept, commitFrame_kept, lapseSheets_kept, Kept]

theorem postMessage_kept {k0 : State} (m : StageMsg) (s : State) :
    Kept k0 s → Kept k0 (postMessage m s) := by
  grind [postMessage, createTask_kept, Kept]

theorem takeMessage_kept {k0 : State} (n : Nat) (destTn : Nat) (m : StageMsg) (s : State) :
    Kept k0 s → Kept k0 (takeMessage n destTn m s) := by
  grind [takeMessage, countLane_kept, postMessage_kept, Kept]

theorem walkMessages_kept {k0 : State} (f : CueFrame) (y1 : Nat) (y2 : Nat) (s : State) :
    Kept k0 s → Kept k0 (walkMessages f y1 y2 s) := by
  induction y1 generalizing y2 s with
  | zero => grind [walkMessages, countLane_kept, takeMessage_kept, Kept]
  | succ n ih => grind [walkMessages, countLane_kept, takeMessage_kept, Kept]

theorem walkFrames_kept {k0 : State} (y1 : List LaneEval) (s : State) :
    Kept k0 s → Kept k0 (walkFrames y1 s) := by
  induction y1 generalizing s with
  | nil => grind [walkFrames, walkMessages_kept, Kept]
  | cons a as ih => grind [walkFrames, walkMessages_kept, Kept]

theorem sampleFrame_kept {k0 : State} (slot : Nat) (s0 : State) (e : LaneEval) (s : State) :
    Kept k0 s → Kept k0 (sampleFrame slot s0 e s) := by
  grind [sampleFrame, addOffset_kept, Kept]

theorem sampleFrames_kept {k0 : State} (slot : Nat) (s0 : State) (y1 : List LaneEval) (s : State) :
    Kept k0 s → Kept k0 (sampleFrames slot s0 y1 s) := by
  induction y1 generalizing s with
  | nil => grind [sampleFrames, sampleFrame_kept, Kept]
  | cons a as ih => grind [sampleFrames, sampleFrame_kept, Kept]

theorem recordFrames_kept {k0 : State} (slot : Nat) (y1 : List LaneEval) (s : State) :
    Kept k0 s → Kept k0 (recordFrames slot y1 s) := by
  induction y1 generalizing s with
  | nil => grind [recordFrames, modRx_kept, Kept]
  | cons a as ih => grind [recordFrames, modRx_kept, Kept]

theorem toEvaluation_kept {k0 : State} (slot : Nat) (cycle : Nat) (s : State) :
    Kept k0 s → Kept k0 (toEvaluation slot cycle s) := by
  grind [toEvaluation, advanceTo_kept, Kept]

theorem takeContents_kept {k0 : State} (slot : Nat) (es : List LaneEval) (s : State) :
    Kept k0 s → Kept k0 (takeContents slot es s) := by
  grind [takeContents, commitPlane_kept, forEach_kept, setReference_kept, walkFrames_kept, Kept]

theorem measureFrames_kept {k0 : State} (slot : Nat) (s0 : State) (es : List LaneEval) (s : State) :
    Kept k0 s → Kept k0 (measureFrames slot s0 es s) := by
  grind [measureFrames, noteUnusable_kept, openRxSlot_kept, recordFrames_kept, sampleFrames_kept, Kept]

theorem execCueFrame_kept {k0 : State} (slot : Nat) (cycle : Nat) (lanes : List CueSlot) (s : State) :
    ∀ u, execCueFrame slot cycle lanes s = .next u → (Kept k0 s → Kept k0 u) := by
  grind (splits := 30) (gen := 20) (ematch := 20) [execCueFrame, cueAcqDone_kept, evalLanes_kept, forEach_kept,
    measureFrames_kept, rootUpdate_kept, setOwnership_kept, takeContents_kept, toEvaluation_kept, tryWaitWindow_kept,
    watchPlanes_kept, Kept]

end Sys2Proof.Machine
end

