-- ==== Sys2Proof/Laws/Kept/EventRows.lean ====
section
/-! SUPPORT. What the operations of Machine/EventRows.lean keep. -/

set_option Elab.async false

namespace Sys2Proof.Machine

theorem execEvtConfig_kept {k0 : State} (src : Source) (tag : Nat) (req : List Word) (s : State) :
    ∀ u, execEvtConfig src tag req s = .next u → (Kept k0 s → Kept k0 u) := by
  grind [execEvtConfig, command_kept, modDest_kept, okay_kept, refuse_kept, Kept]

theorem execAlarmRead_kept {k0 : State} (src : Source) (tag : Nat) (req : List Word) (s : State) :
    ∀ u, execAlarmRead src tag req s = .next u → (Kept k0 s → Kept k0 u) := by
  grind [execAlarmRead, command_kept, okay_kept, refuse_kept, Kept]

theorem execAlarmSummary_kept {k0 : State} (src : Source) (tag : Nat) (req : List Word) (s : State) :
    ∀ u, execAlarmSummary src tag req s = .next u → (Kept k0 s → Kept k0 u) := by
  grind [execAlarmSummary, command_kept, okay_kept, Kept]

theorem execEvtCounters_kept {k0 : State} (src : Source) (tag : Nat) (req : List Word) (s : State) :
    ∀ u, execEvtCounters src tag req s = .next u → (Kept k0 s → Kept k0 u) := by
  grind [execEvtCounters, clear_kept, cleared_kept, command_kept, modDest_kept, okay_kept, Kept]

theorem execBlackboxRead_kept {k0 : State} (src : Source) (tag : Nat) (req : List Word) (s : State) :
    ∀ u, execBlackboxRead src tag req s = .next u → (Kept k0 s → Kept k0 u) := by
  grind [execBlackboxRead, command_kept, okay_kept, refuse_kept, Kept]

theorem execBlackboxClear_kept {k0 : State} (src : Source) (tag : Nat) (req : List Word) (s : State) :
    ∀ u, execBlackboxClear src tag req s = .next u → (Kept k0 s → Kept k0 u) := by
  grind [execBlackboxClear, command_kept, okay_kept, Kept]

theorem execEvtTest_kept {k0 : State} (src : Source) (tag : Nat) (req : List Word) (s : State) :
    ∀ u, execEvtTest src tag req s = .next u → (Kept k0 s → Kept k0 u) := by
  grind [execEvtTest, command_kept, okay_kept, raise_kept, refuse_kept, Kept]

theorem execEventRaise_kept {k0 : State} (clear : Bool) (held : Bool) (code : Nat) (source : Nat) (severity : Severity) (detail4
    : Word) (detail5 : Word) (s : State) :
    ∀ u, execEventRaise clear held code source severity detail4 detail5 s = .next u → (Kept k0 s → Kept k0 u) := by
  grind [execEventRaise, clear_kept, hold_kept, raise_kept, Kept]

theorem execCoalesceWindowClose_kept {k0 : State} (source : Nat) (code : Nat) (detail : Word) (s : State) :
    ∀ u, execCoalesceWindowClose source code detail s = .next u → (Kept k0 s → Kept k0 u) := by
  intro u h hk
  unfold execCoalesceWindowClose at h
  split at h
  · obtain rfl := Host.Outcome.next.inj h; exact hk
  · rename_i w _
    simp only at h
    split at h
    · obtain rfl := Host.Outcome.next.inj h; exact Kept_rest (advanceTo_kept _ _ hk)
    · split at h
      · obtain rfl := Host.Outcome.next.inj h; rename_i hw; exact openWindow_kept _ _ _ _ _ _ hw (emitSummary_kept _ _ (Kept_rest (advanceTo_kept _ _ hk)))
      · obtain rfl := Host.Outcome.next.inj h; exact emitSummary_kept _ _ (Kept_rest (advanceTo_kept _ _ hk))

theorem execEvtLost_kept {k0 : State} (func : Nat) (s : State) :
    ∀ u, execEvtLost func s = .next u → (Kept k0 s → Kept k0 u) := by
  grind [execEvtLost, advanceTo_kept, modDest_kept, raise_kept, Kept]

theorem execBlackboxWrite_kept {k0 : State} (s : State) :
    ∀ u, execBlackboxWrite s = .next u → (Kept k0 s → Kept k0 u) := by
  grind [execBlackboxWrite, Kept]

theorem execMsixHoldoffEnd_kept {k0 : State} (func : Nat) (vector : Nat) (s : State) :
    ∀ u, execMsixHoldoffEnd func vector s = .next u → (Kept k0 s → Kept k0 u) := by
  grind [execMsixHoldoffEnd, advanceTo_kept, modFunc_kept, sendMessage_kept, Kept]

theorem execAlmStateRead_kept {k0 : State} (func : Nat) (source : Nat) (s : State) :
    ∀ u, execAlmStateRead func source s = .next u → (Kept k0 s → Kept k0 u) := by
  intro u h hk
  unfold execAlmStateRead at h
  obtain rfl := Host.Outcome.next.inj h
  exact Kept_rest (modFunc_kept _ _ _ hk)

end Sys2Proof.Machine
end

