-- ==== Sys2Proof/Laws/Kept/SenseOps.lean ====
section
/-! SUPPORT. What the operations of Machine/SenseOps.lean keep. -/

set_option Elab.async false

namespace Sys2Proof.Machine

theorem modIsland_kept {k0 : State} (g : Island → Island) (s : State) :
    Kept k0 s → Kept k0 (modIsland g s) := by
  grind [modIsland, Kept]

theorem modChain_kept {k0 : State} (g : Chain → Chain) (s : State) :
    Kept k0 s → Kept k0 (modChain g s) := by
  grind [modChain, modIsland_kept, Kept]

theorem modInput_kept {k0 : State} (i : Nat) (g : SenseInput → SenseInput) (s : State) :
    Kept k0 s → Kept k0 (modInput i g s) := by
  grind [modInput, modIsland_kept, Kept]

theorem countInput_kept {k0 : State} (i : Nat) (k : Nat) (n : Nat) (s : State) :
    Kept k0 s → Kept k0 (countInput i k n s) := by
  grind [countInput, modInput_kept, Kept]

theorem noteOpen_kept {k0 : State} (i : Nat) (leads : Nat) (s : State) :
    Kept k0 s → Kept k0 (noteOpen i leads s) := by
  grind [noteOpen, clear_kept, countInput_kept, hold_kept, modInput_kept, raise_kept, Kept]

theorem modSensor_kept {k0 : State} (n : Nat) (g : SensorChannel → SensorChannel) (s : State) :
    Kept k0 s → Kept k0 (modSensor n g s) := by
  grind [modSensor, modIsland_kept, Kept]

theorem threshold_kept {k0 : State} (code : Nat) (n : Nat) (i : Nat) (enabled : Bool) (beyond : Bool) (back : Bool) (persist :
    Nat) (run : Nat) (v : Int) (s : State) :
    Kept k0 s → Kept k0 (threshold code n i enabled beyond back persist run v s) := by
  grind [threshold, clear_kept, hold_kept, Kept]

theorem feedSensor_kept {k0 : State} (w : BitVec 64) (good : Bool) (n : Nat) (s : State) :
    Kept k0 s → Kept k0 (feedSensor w good n s) := by
  grind [feedSensor, modSensor_kept, threshold_kept, Kept]

theorem feedSensors_kept {k0 : State} (w : BitVec 64) (good : Bool) (y1 : List Nat) (s : State) :
    Kept k0 s → Kept k0 (feedSensors w good y1 s) := by
  induction y1 generalizing s with
  | nil => grind [feedSensors, feedSensor_kept, Kept]
  | cons a as ih => grind [feedSensors, feedSensor_kept, Kept]

theorem consume_kept {k0 : State} (i : Nat) (before : BitVec 64) (w : BitVec 64) (first : Bool) (s : State) :
    Kept k0 s → Kept k0 (consume i before w first s) := by
  unfold consume; grind [modPower_kept, modStore_kept, watchCoolant_kept, Kept]

theorem endFallback_kept {k0 : State} (i : Nat) (s : State) :
    Kept k0 s → Kept k0 (endFallback i s) := by
  grind [endFallback, clear_kept, modIsland_kept, Kept]

theorem deliverSample_kept {k0 : State} (i : Nat) (w : BitVec 64) (unsettled : Bool) (clamp : Bool) (leads : Nat) (s : State) :
    Kept k0 s → Kept k0 (deliverSample i w unsettled clamp leads s) := by
  grind (splits := 30) (gen := 20) (ematch := 20) [deliverSample, consume_kept, countInput_kept, endFallback_kept,
    feedSensors_kept, modInput_kept, noteOpen_kept, Kept]

end Sys2Proof.Machine
end

