-- ==== Sys2Proof/Laws/Kept/SenseRows.lean ====
section
/-! SUPPORT. What the operations of Machine/SenseRows.lean keep. -/

set_option Elab.async false

namespace Sys2Proof.Machine

theorem execSenseConfig_kept {k0 : State} (src : Source) (tag : Nat) (req : List Word) (s : State) :
    ∀ u, execSenseConfig src tag req s = .next u → (Kept k0 s → Kept k0 u) := by
  grind [execSenseConfig, command_kept, modIsland_kept, okay_kept, refuse_kept, Kept]

theorem execSenseLatest_kept {k0 : State} (src : Source) (tag : Nat) (req : List Word) (s : State) :
    ∀ u, execSenseLatest src tag req s = .next u → (Kept k0 s → Kept k0 u) := by
  grind [execSenseLatest, command_kept, okay_kept, Kept]

theorem execSensorCreate_kept {k0 : State} (src : Source) (tag : Nat) (req : List Word) (s : State) :
    ∀ u, execSensorCreate src tag req s = .next u → (Kept k0 s → Kept k0 u) := by
  grind [execSensorCreate, command_kept, modSensor_kept, okay_kept, openChan_kept, refuse_kept, Kept]

theorem execSensorDestroy_kept {k0 : State} (src : Source) (tag : Nat) (req : List Word) (s : State) :
    ∀ u, execSensorDestroy src tag req s = .next u → (Kept k0 s → Kept k0 u) := by
  grind [execSensorDestroy, clear_kept, closeChan_kept, command_kept, modSensor_kept, okay_kept, withHandle_kept, Kept]

theorem execSenseRead_kept {k0 : State} (src : Source) (tag : Nat) (req : List Word) (s : State) :
    ∀ u, execSenseRead src tag req s = .next u → (Kept k0 s → Kept k0 u) := by
  grind [execSenseRead, command_kept, modSensor_kept, okay_kept, popCycle_kept, refuse_kept, withHandle_kept, Kept]

theorem execCoefWrite_kept {k0 : State} (src : Source) (tag : Nat) (req : List Word) (s : State) :
    ∀ u, execCoefWrite src tag req s = .next u → (Kept k0 s → Kept k0 u) := by
  grind [execCoefWrite, command_kept, modChain_kept, okay_kept, refuse_kept, Kept]

theorem execCoefRead_kept {k0 : State} (src : Source) (tag : Nat) (req : List Word) (s : State) :
    ∀ u, execCoefRead src tag req s = .next u → (Kept k0 s → Kept k0 u) := by
  grind [execCoefRead, command_kept, okay_kept, refuse_kept, Kept]

theorem applySwap_kept {k0 : State} (time : Nat) (s : State) :
    Kept k0 s → Kept k0 (applySwap time s) := by
  grind [applySwap, modChain_kept, respond_kept, Kept]

theorem execCoefSwap_kept {k0 : State} (src : Source) (tag : Nat) (req : List Word) (s : State) :
    ∀ u, execCoefSwap src tag req s = .next u → (Kept k0 s → Kept k0 u) := by
  grind [execCoefSwap, applySwap_kept, command_kept, modChain_kept, refuse_kept, Kept]

theorem execShStatus_kept {k0 : State} (src : Source) (tag : Nat) (req : List Word) (s : State) :
    ∀ u, execShStatus src tag req s = .next u → (Kept k0 s → Kept k0 u) := by
  grind [execShStatus, clear_kept, cleared_kept, command_kept, modIsland_kept, okay_kept, Kept]

theorem execSenseCounters_kept {k0 : State} (src : Source) (tag : Nat) (req : List Word) (s : State) :
    ∀ u, execSenseCounters src tag req s = .next u → (Kept k0 s → Kept k0 u) := by
  grind [execSenseCounters, clear_kept, cleared_kept, command_kept, modInput_kept, okay_kept, Kept]

end Sys2Proof.Machine
end

