-- ==== Sys2Proof/Laws/Kept/QueueRows.lean ====
section
/-! SUPPORT. What the operations of Machine/QueueRows.lean keep. -/

set_option Elab.async false

namespace Sys2Proof.Machine

theorem execVoqConfig_kept {k0 : State} (src : Source) (tag : Nat) (req : List Word) (s : State) :
    ∀ u, execVoqConfig src tag req s = .next u → (Kept k0 s → Kept k0 u) := by
  grind [execVoqConfig, command_kept, modQueues_kept, okay_kept, refuse_kept, Kept]

theorem execVoqStatus_kept {k0 : State} (src : Source) (tag : Nat) (req : List Word) (s : State) :
    ∀ u, execVoqStatus src tag req s = .next u → (Kept k0 s → Kept k0 u) := by
  grind [execVoqStatus, command_kept, okay_kept, refuse_kept, Kept]

theorem execMeterCreate_kept {k0 : State} (src : Source) (tag : Nat) (req : List Word) (s : State) :
    ∀ u, execMeterCreate src tag req s = .next u → (Kept k0 s → Kept k0 u) := by
  grind [execMeterCreate, command_kept, okay_kept, openChan_kept, refuse_kept, setMeter_kept, Kept]

theorem execMeterDestroy_kept {k0 : State} (src : Source) (tag : Nat) (req : List Word) (s : State) :
    ∀ u, execMeterDestroy src tag req s = .next u → (Kept k0 s → Kept k0 u) := by
  grind [execMeterDestroy, closeChan_kept, command_kept, okay_kept, refuse_kept, setMeter_kept, withHandle_kept, Kept]

theorem setTargetShaper_kept {k0 : State} (t : ShaperTarget) (sh : Option Nat) (s : State) :
    Kept k0 s → Kept k0 (setTargetShaper t sh s) := by
  unfold setTargetShaper; grind [modVoq_kept, Kept]

theorem execShaperAttach_kept {k0 : State} (src : Source) (tag : Nat) (req : List Word) (s : State) :
    ∀ u, execShaperAttach src tag req s = .next u → (Kept k0 s → Kept k0 u) := by
  grind [execShaperAttach, command_kept, okay_kept, refuse_kept, setMeter_kept, setTargetShaper_kept, withHandle_kept, Kept]

theorem execEgressConfig_kept {k0 : State} (src : Source) (tag : Nat) (req : List Word) (s : State) :
    ∀ u, execEgressConfig src tag req s = .next u → (Kept k0 s → Kept k0 u) := by
  grind [execEgressConfig, command_kept, modEgress_kept, okay_kept, refuse_kept, Kept]

theorem setMcast_kept {k0 : State} (i : Nat) (m : McastChannel) (s : State) :
    Kept k0 s → Kept k0 (setMcast i m s) := by
  grind [setMcast, modQueues_kept, Kept]

theorem execMcastCreate_kept {k0 : State} (src : Source) (tag : Nat) (req : List Word) (s : State) :
    ∀ u, execMcastCreate src tag req s = .next u → (Kept k0 s → Kept k0 u) := by
  grind [execMcastCreate, command_kept, okay_kept, openChan_kept, refuse_kept, setMcast_kept, Kept]

theorem execMcastPorts_kept {k0 : State} (src : Source) (tag : Nat) (req : List Word) (s : State) :
    ∀ u, execMcastPorts src tag req s = .next u → (Kept k0 s → Kept k0 u) := by
  grind [execMcastPorts, command_kept, okay_kept, setMcast_kept, withHandle_kept, Kept]

theorem execMcastDestroy_kept {k0 : State} (src : Source) (tag : Nat) (req : List Word) (s : State) :
    ∀ u, execMcastDestroy src tag req s = .next u → (Kept k0 s → Kept k0 u) := by
  grind [execMcastDestroy, closeChan_kept, command_kept, okay_kept, setMcast_kept, withHandle_kept, Kept]

theorem execPoolCreate_kept {k0 : State} (src : Source) (tag : Nat) (req : List Word) (s : State) :
    ∀ u, execPoolCreate src tag req s = .next u → (Kept k0 s → Kept k0 u) := by
  grind [execPoolCreate, command_kept, modPool_kept, okay_kept, openChan_kept, refuse_kept, Kept]

theorem execPoolDestroy_kept {k0 : State} (src : Source) (tag : Nat) (req : List Word) (s : State) :
    ∀ u, execPoolDestroy src tag req s = .next u → (Kept k0 s → Kept k0 u) := by
  grind [execPoolDestroy, clear_kept, closeChan_kept, command_kept, modPool_kept, modQueues_kept, okay_kept, refuse_kept,
    withHandle_kept, Kept]

theorem execPoolStatus_kept {k0 : State} (src : Source) (tag : Nat) (req : List Word) (s : State) :
    ∀ u, execPoolStatus src tag req s = .next u → (Kept k0 s → Kept k0 u) := by
  grind [execPoolStatus, command_kept, okay_kept, withHandle_kept, Kept]

theorem execBufAlloc_kept {k0 : State} (src : Source) (tag : Nat) (req : List Word) (s : State) :
    ∀ u, execBufAlloc src tag req s = .next u → (Kept k0 s → Kept k0 u) := by
  grind [execBufAlloc, command_kept, larderAlloc_kept, modQueues_kept, okay_kept, refuse_kept, withHandle_kept, Kept]

theorem execBufFree_kept {k0 : State} (src : Source) (tag : Nat) (req : List Word) (s : State) :
    ∀ u, execBufFree src tag req s = .next u → (Kept k0 s → Kept k0 u) := by
  grind [execBufFree, command_kept, larderFree_kept, modQueues_kept, okay_kept, refuse_kept, withHandle_kept, Kept]

theorem execQueueCounters_kept {k0 : State} (src : Source) (tag : Nat) (req : List Word) (s : State) :
    ∀ u, execQueueCounters src tag req s = .next u → (Kept k0 s → Kept k0 u) := by
  grind [execQueueCounters, clear_kept, cleared_kept, command_kept, countHeld_kept, modEgress_kept, modPool_kept, modVoq_kept,
    okay_kept, refuse_kept, setMeter_kept, withHandle_kept, Kept]

theorem loseHostPools_kept {k0 : State} (stack : Nat) (s : State) :
    Kept k0 s → Kept k0 (loseHostPools stack s) := by
  grind [loseHostPools, forEach_kept, modPool_kept, raise_kept, Kept]

theorem execHbmRetired_kept {k0 : State} (stack : Nat) (s : State) :
    ∀ u, execHbmRetired stack s = .next u → (Kept k0 s → Kept k0 u) := by
  grind [execHbmRetired, loseHostPools_kept, raise_kept, Kept]

theorem execHbmPurgeDone_kept {k0 : State} (stack : Nat) (s : State) :
    ∀ u, execHbmPurgeDone stack s = .next u → (Kept k0 s → Kept k0 u) := by
  grind [execHbmPurgeDone, forEach_kept, purgeQueue_kept, Kept]

end Sys2Proof.Machine
end

