-- ==== Sys2Proof/Laws/Kept/General.lean ====
section
/-! SUPPORT. What the operations of Machine/General.lean keep. -/

set_option Elab.async false

namespace Sys2Proof.Machine

theorem execIdentity_kept {k0 : State} (src : Source) (tag : Nat) (req : List Word) (s : State) :
    ∀ u, execIdentity src tag req s = .next u → (Kept k0 s → Kept k0 u) := by
  grind [execIdentity, command_kept, okay_kept, Kept]

theorem execEcho_kept {k0 : State} (src : Source) (tag : Nat) (req : List Word) (s : State) :
    ∀ u, execEcho src tag req s = .next u → (Kept k0 s → Kept k0 u) := by
  grind [execEcho, command_kept, okay_kept, Kept]

theorem execHandleInfo_kept {k0 : State} (src : Source) (tag : Nat) (req : List Word) (s : State) :
    ∀ u, execHandleInfo src tag req s = .next u → (Kept k0 s → Kept k0 u) := by
  grind [execHandleInfo, command_kept, okay_kept, refuse_kept, Kept]

theorem execHandleList_kept {k0 : State} (src : Source) (tag : Nat) (req : List Word) (s : State) :
    ∀ u, execHandleList src tag req s = .next u → (Kept k0 s → Kept k0 u) := by
  grind [execHandleList, command_kept, okay_kept, refuse_kept, Kept]

theorem coreWords_kept {k0 : State} (c : CoreQueue) (s : State) :
    Kept k0 s → Kept k0 (coreWords c s).2 := by
  grind [coreWords, takeFree_kept, Kept]

theorem coresWords_kept {k0 : State} (y1 : List CoreQueue) (s : State) :
    Kept k0 s → Kept k0 (coresWords y1 s).2 := by
  induction y1 generalizing s with
  | nil => grind [coresWords, List.length_map, List.length_modify, List.length_set, coreWords_kept, Kept]
  | cons a as ih => grind [coresWords, List.length_map, List.length_modify, List.length_set, coreWords_kept, Kept]

theorem execSchedStatus_kept {k0 : State} (src : Source) (tag : Nat) (req : List Word) (s : State) :
    ∀ u, execSchedStatus src tag req s = .next u → (Kept k0 s → Kept k0 u) := by
  grind [execSchedStatus, KeptIn, List.length_map, List.length_modify, List.length_set, clear_kept, cleared_kept, command_kept,
    coresWords_kept, okay_kept, soundJoin, soundZordin, Kept]

theorem sidebandStatusWords_kept {k0 : State} (s : State) :
    Kept k0 s → Kept k0 (sidebandStatusWords s).2 := by
  grind [sidebandStatusWords, takeFree_kept, Kept]

theorem execFuncStatus_kept {k0 : State} (src : Source) (tag : Nat) (req : List Word) (s : State) :
    ∀ u, execFuncStatus src tag req s = .next u → (Kept k0 s → Kept k0 u) := by
  grind [execFuncStatus, clear_kept, cleared_kept, command_kept, modFunc_kept, modSb_kept, okay_kept, refuse_kept,
    sidebandStatusWords_kept, Kept]

end Sys2Proof.Machine
end

