-- ==== Sys2Proof/Laws/Kept/Egress.lean ====
section
/-! SUPPORT. What the operations of Machine/Egress.lean keep. -/

set_option Elab.async false

namespace Sys2Proof.Machine

theorem stampFrame_kept {k0 : State} (p : Nat) (f : EgressFrame) (s : State) :
    Kept k0 s → Kept k0 (stampFrame p f s) := by
  grind [stampFrame, holdTimestamp_kept, modTime_kept, Kept]

theorem execEgressFrameStart_kept {k0 : State} (port : Nat) (s : State) :
    ∀ u, execEgressFrameStart port s = .next u → (Kept k0 s → Kept k0 u) := by
  grind (splits := 30) (gen := 20) (ematch := 20) [execEgressFrameStart, chargeShaper_kept, countPort_kept, macDone_kept,
    modPort_kept, stampFrame_kept, Kept]

end Sys2Proof.Machine
end

