-- ==== Sys2Proof/Laws/Kept/HostOps.lean ====
section
/-! SUPPORT. What the operations of Machine/HostOps.lean keep. -/

set_option Elab.async false

namespace Sys2Proof.Machine

theorem modHq_kept {k0 : State} (g : HostQueues → HostQueues) (s : State) :
    Kept k0 s → Kept k0 (modHq g s) := by
  grind [modHq, Kept]

theorem modPair_kept {k0 : State} (n : Nat) (g : QueuePair → QueuePair) (s : State) :
    Kept k0 s → Kept k0 (modPair n g s) := by
  grind [modPair, modHq_kept, Kept]

theorem countPair_kept {k0 : State} (n : Nat) (i : Nat) (k : Nat) (s : State) :
    Kept k0 s → Kept k0 (countPair n i k s) := by
  grind [countPair, modPair_kept, Kept]

theorem countHq_kept {k0 : State} (i : Nat) (s : State) :
    Kept k0 s → Kept k0 (countHq i s) := by
  grind [countHq, modHq_kept, Kept]

theorem haltFunc_kept {k0 : State} (f : Nat) (s : State) :
    Kept k0 s → Kept k0 (haltFunc f s) := by
  grind [haltFunc, countHq_kept, haltEngine_kept, Kept]

theorem haltPair_kept {k0 : State} (n : Nat) (cause : Nat) (index : Nat) (s : State) :
    Kept k0 s → Kept k0 (haltPair n cause index s) := by
  grind [haltPair, haltFunc_kept, modPair_kept, raise_kept, Kept]

theorem writeCompletion_kept {k0 : State} (n : Nat) (c : Completion) (s : State) :
    Kept k0 s → Kept k0 (writeCompletion n c s) := by
  grind [writeCompletion, hostWrite_kept, modPair_kept, signalVector_kept, Kept]

theorem complete_kept {k0 : State} (n : Nat) (c : Completion) (s : State) :
    Kept k0 s → Kept k0 (complete n c s) := by
  grind [complete, modPair_kept, writeCompletion_kept, Kept]

theorem endTransmit_kept {k0 : State} (n : Nat) (index : Nat) (status : Nat) (cmp : Bool) (s : State) :
    Kept k0 s → Kept k0 (endTransmit n index status cmp s) := by
  grind [endTransmit, complete_kept, modPair_kept, Kept]

theorem newRound_kept {k0 : State} (s : State) :
    Kept k0 s → Kept k0 (newRound s) := by
  grind [newRound, modHq_kept, Kept]

theorem nextPlace_kept {k0 : State} (s : State) :
    Kept k0 s → Kept k0 (nextPlace s).2 := by
  grind [nextPlace, newRound_kept, Kept]

theorem abortTransmit_kept {k0 : State} (n : Nat) (quiet : Bool) (y1 : Nat) (s : State) :
    Kept k0 s → Kept k0 (abortTransmit n quiet y1 s) := by
  induction y1 generalizing s with
  | zero => grind [abortTransmit, countPair_kept, endTransmit_kept, modPair_kept, Kept]
  | succ n ih => grind [abortTransmit, countPair_kept, endTransmit_kept, modPair_kept, Kept]

theorem abortReceive_kept {k0 : State} (n : Nat) (quiet : Bool) (y1 : Nat) (s : State) :
    Kept k0 s → Kept k0 (abortReceive n quiet y1 s) := by
  induction y1 generalizing s with
  | zero => grind [abortReceive, complete_kept, countPair_kept, modPair_kept, Kept]
  | succ n ih => grind [abortReceive, complete_kept, countPair_kept, modPair_kept, Kept]

theorem stopPair_kept {k0 : State} (n : Nat) (s : State) :
    Kept k0 s → Kept k0 (stopPair n s) := by
  grind [stopPair, abortReceive_kept, abortTransmit_kept, modPair_kept, Kept]

theorem returnTokens_kept {k0 : State} (n : Nat) (s : State) :
    Kept k0 s → Kept k0 (returnTokens n s) := by
  grind [returnTokens, modQueues_kept, Kept]

theorem answerStop_kept {k0 : State} (n : Nat) (s : State) :
    Kept k0 s → Kept k0 (answerStop n s) := by
  grind [answerStop, modPair_kept, respond_kept, Kept]

theorem flrPairs_kept {k0 : State} (f : Nat) (s : State) :
    Kept k0 s → Kept k0 (flrPairs f s) := by
  grind [flrPairs, answerStop_kept, forEach_kept, modPair_kept, returnTokens_kept, Kept]

end Sys2Proof.Machine
end

