-- ==== Sys2Proof/Laws/Kept/ResetOps.lean ====
section
/-! SUPPORT. What the operations of Machine/ResetOps.lean keep. -/

set_option Elab.async false

namespace Sys2Proof.Machine

theorem resetChannel_gen (now i : Nat) (c : ChanSlot) (h : c.gen < 1024) : (resetChannel now i c).gen < 1024 := by
  grind [resetChannel]

theorem loseRecords_kept {k0 : State} (f : Nat) (y1 : List EventRecord) (s : State) :
    Kept k0 s → Kept k0 (loseRecords f y1 s) := by
  induction y1 generalizing s with
  | nil => grind [loseRecords, loseRecord_kept, Kept]
  | cons a as ih => grind [loseRecords, loseRecord_kept, Kept]

theorem flrFunction_kept {k0 : State} (f : Nat) (s : State) :
    Kept k0 s → Kept k0 (flrFunction f s) := by
  grind [flrFunction, dropLongs_kept, flrPairs_kept, loseRecords_kept, modChain_kept, noticeToSideband_kept, noticeTo_kept,
    setFunc_kept, Kept]

theorem resetModule_kept {k0 : State} (cold : Bool) (cause : ResetCause) (s : State) :
    Kept k0 s → Kept k0 (resetModule cold cause s) := by
  grind (splits := 30) (gen := 20) (ematch := 20) [resetModule, KeptIn, List.length_replicate, chanSlot, holdIf_kept, joinReset,
    noticeToSideband_kept, resetChannel_gen, resetZordin, schedulerReset, soundChans_get, soundChans_map, soundChans_set,
    soundJoin, soundZordin, zordinReset, Kept]

theorem loseCoreDie_kept {k0 : State} (s : State) :
    Kept k0 s → Kept k0 (loseCoreDie s) := by
  intro h
  have h1 := clear_kept 0x0102 1921 0 0 s h
  unfold loseCoreDie
  generalize clear 0x0102 1921 0 0 s = t at h1 ⊢
  simp only
  refine ⟨h1.1, h1.2.1, h1.2.2.1, h1.2.2.2.1, fun hs => ?_⟩
  obtain ⟨hm, hj, hz, hc⟩ := h1.2.2.2.2 hs
  refine ⟨hm, ?_, ?_, soundChans_map _ _ hc (fun i c h => resetChannel_gen _ _ _ h)⟩
  · grind [soundJoin, joinReset]
  · exact rfl

end Sys2Proof.Machine
end

