-- ==== Sys2Proof/Laws/Kept/StartRows.lean ====
section
/-! SUPPORT. What the operations of Machine/StartRows.lean keep. -/

set_option Elab.async false

namespace Sys2Proof.Machine

theorem fwCommand_kept {k0 : State} (src : Source) (tag : Nat) (req : List Word) (words : Nat) (body : State → Reply × State) (s
    : State) (hbody : ∀ s, (Kept k0 s → Kept k0 (body s).2)) :
    ∀ u, fwCommand src tag req words body s = .next u → (Kept k0 s → Kept k0 u) := by
  grind [fwCommand, runCommand_kept, Kept]

theorem countWarmLoss_kept {k0 : State} (s : State) :
    Kept k0 s → Kept k0 (countWarmLoss s) := by
  grind [countWarmLoss, modPower_kept, Kept]

theorem warmReset_kept {k0 : State} (cause : ResetCause) (s : State) :
    Kept k0 s → Kept k0 (warmReset cause s) := by
  grind [warmReset, countWarmLoss_kept, resetModule_kept, Kept]

theorem resetOfKind_kept {k0 : State} (kind : Nat) (s : State) :
    Kept k0 s → Kept k0 (resetOfKind kind s) := by
  grind [resetOfKind, resetModule_kept, warmReset_kept, Kept]

theorem execReset_kept {k0 : State} (src : Source) (tag : Nat) (req : List Word) (s : State) :
    ∀ u, execReset src tag req s = .next u → (Kept k0 s → Kept k0 u) := by
  grind [execReset, fwCommand_kept, modStart_kept, resetOfKind_kept, respond_kept, Kept]

theorem execFwStatus_kept {k0 : State} (src : Source) (tag : Nat) (req : List Word) (s : State) :
    ∀ u, execFwStatus src tag req s = .next u → (Kept k0 s → Kept k0 u) := by
  grind [execFwStatus, okay_kept, runCommand_kept, Kept]

theorem execFwWrite_kept {k0 : State} (src : Source) (tag : Nat) (req : List Word) (s : State) :
    ∀ u, execFwWrite src tag req s = .next u → (Kept k0 s → Kept k0 u) := by
  grind [execFwWrite, fwCommand_kept, modStart_kept, okay_kept, refuse_kept, Kept]

theorem execFwVerify_kept {k0 : State} (src : Source) (tag : Nat) (req : List Word) (s : State) :
    ∀ u, execFwVerify src tag req s = .next u → (Kept k0 s → Kept k0 u) := by
  grind [execFwVerify, fwCommand_kept, modStart_kept, startLong_kept, Kept]

theorem execFwVerifyDone_kept {k0 : State} (signatureOk : Bool) (s : State) :
    ∀ u, execFwVerifyDone signatureOk s = .next u → (Kept k0 s → Kept k0 u) := by
  grind [execFwVerifyDone, endLongs_kept, modStart_kept, Kept]

theorem execFwActivate_kept {k0 : State} (src : Source) (tag : Nat) (req : List Word) (s : State) :
    ∀ u, execFwActivate src tag req s = .next u → (Kept k0 s → Kept k0 u) := by
  grind [execFwActivate, fwCommand_kept, modStart_kept, okay_kept, refuse_kept, Kept]

theorem execFwCommit_kept {k0 : State} (src : Source) (tag : Nat) (req : List Word) (s : State) :
    ∀ u, execFwCommit src tag req s = .next u → (Kept k0 s → Kept k0 u) := by
  grind [execFwCommit, endTrial_kept, fwCommand_kept, okay_kept, refuse_kept, Kept]

theorem execArbRaise_kept {k0 : State} (src : Source) (tag : Nat) (req : List Word) (s : State) :
    ∀ u, execArbRaise src tag req s = .next u → (Kept k0 s → Kept k0 u) := by
  grind [execArbRaise, fwCommand_kept, okay_kept, refuse_kept, Kept]

end Sys2Proof.Machine
end

