-- ==== Sys2Proof/Laws/Kept/StartEvents.lean ====
section
/-! SUPPORT. What the operations of Machine/StartEvents.lean keep. -/

set_option Elab.async false

namespace Sys2Proof.Machine

theorem powerUp_kept {k0 : State} (wake : Nat) (s : State) :
    Kept k0 s → Kept k0 (powerUp wake s) := by
  intro h
  unfold powerUp
  exact modStart_kept _ _ (modPower_kept _ _ h)

theorem wakeStandby_kept {k0 : State} (wake : Nat) (s : State) :
    Kept k0 s → Kept k0 (wakeStandby wake s) := by
  intro h
  unfold wakeStandby
  split
  · exact h
  · split
    · unfold powerUp; exact modStart_kept _ _ (modPower_kept _ _ h)
    · exact modPower_kept _ _ h

theorem tryStart_kept {k0 : State} (s : State) :
    Kept k0 s → Kept k0 (tryStart s) := by
  grind [tryStart, powerUp_kept, Kept]

theorem execVinGood_kept {k0 : State} (s : State) :
    ∀ u, execVinGood s = .next u → (Kept k0 s → Kept k0 u) := by
  grind [execVinGood, modPower_kept, tryStart_kept, Kept]

theorem tellTiles_kept {k0 : State} (s : State) :
    Kept k0 s → Kept k0 (tellTiles s) := by
  grind [tellTiles, clear_kept, forEach_kept, Kept]

theorem execRailUp_kept {k0 : State} (s : State) :
    ∀ u, execRailUp s = .next u → (Kept k0 s → Kept k0 u) := by
  intro u h hk
  unfold execRailUp at h
  split at h
  · exact next_kept h hk
  · exact next_kept h (powerCueLanes_kept _ (openForIsland_kept _ _ (tellTiles_kept _ (Kept_rest (Kept_rest (modStart_kept _ _ hk))))))

theorem execStrapSample_kept {k0 : State} (reads : List (Nat × Bool)) (s : State) :
    ∀ u, execStrapSample reads s = .next u → (Kept k0 s → Kept k0 u) := by
  grind [execStrapSample, holdIf_kept, tryStart_kept, Kept]

theorem execPowerOnReset_kept {k0 : State} (s : State) :
    ∀ u, execPowerOnReset s = .next u → (Kept k0 s → Kept k0 u) := by
  grind [execPowerOnReset, resetModule_kept, Kept]

theorem execResetN_kept {k0 : State} (s : State) :
    ∀ u, execResetN s = .next u → (Kept k0 s → Kept k0 u) := by
  grind [execResetN, modPower_kept, resetModule_kept, Kept]

theorem execResetNRelease_kept {k0 : State} (s : State) :
    ∀ u, execResetNRelease s = .next u → (Kept k0 s → Kept k0 u) := by
  grind [execResetNRelease, modPower_kept, Kept]

theorem execWarmReset_kept {k0 : State} (s : State) :
    ∀ u, execWarmReset s = .next u → (Kept k0 s → Kept k0 u) := by
  grind [execWarmReset, warmReset_kept, Kept]

theorem execWatchdogReset_kept {k0 : State} (core : Nat) (s : State) :
    ∀ u, execWatchdogReset core s = .next u → (Kept k0 s → Kept k0 u) := by
  grind [execWatchdogReset, raise_kept, warmReset_kept, Kept]

theorem execBrownOutReset_kept {k0 : State} (s : State) :
    ∀ u, execBrownOutReset s = .next u → (Kept k0 s → Kept k0 u) := by
  grind [execBrownOutReset, dropLongs_kept, modIsland_kept, modSb_kept, raise_kept, Kept]

theorem execFlr_kept {k0 : State} (func : Nat) (s : State) :
    ∀ u, execFlr func s = .next u → (Kept k0 s → Kept k0 u) := by
  grind [execFlr, flrFunction_kept, Kept]

theorem execPerstN_kept {k0 : State} (high : Bool) (s : State) :
    ∀ u, execPerstN high s = .next u → (Kept k0 s → Kept k0 u) := by
  grind [execPerstN, flrFunction_kept, Kept]

theorem imageInvalid_kept {k0 : State} (i : Nat) (r : Nat) (s : State) :
    Kept k0 s → Kept k0 (imageInvalid i r s) := by
  grind [imageInvalid, raise_kept, Kept]

theorem trialStep_kept {k0 : State} (s : State) :
    Kept k0 s → Kept k0 (trialStep s) := by
  grind [trialStep, modStart_kept, raise_kept, Kept]

theorem chooseImage_kept {k0 : State} (sig : Nat → Bool) (y1 : List Nat) (s : State) :
    Kept k0 s → Kept k0 (chooseImage sig y1 s) := by
  induction y1 generalizing s with
  | nil => grind [chooseImage, clear_kept, hold_kept, imageInvalid_kept, modStart_kept, Kept]
  | cons a as ih => grind [chooseImage, clear_kept, hold_kept, imageInvalid_kept, modStart_kept, Kept]

theorem mramUncorrectable_kept {k0 : State} (s : State) :
    Kept k0 s → Kept k0 (mramUncorrectable s) := by
  grind [mramUncorrectable, raise_kept, Kept]

theorem execImageChoice_kept {k0 : State} (sigA : Bool) (sigB : Bool) (badA : Bool) (badB : Bool) (s : State) :
    ∀ u, execImageChoice sigA sigB badA badB s = .next u → (Kept k0 s → Kept k0 u) := by
  grind [execImageChoice, chooseImage_kept, modStart_kept, mramUncorrectable_kept, trialStep_kept, Kept]

theorem startEntropy_kept {k0 : State} (s : State) :
    Kept k0 s → Kept k0 (startEntropy s) := by
  grind [startEntropy, Kept]

theorem execStrongroomVerify_kept {k0 : State} (ok : Bool) (s : State) :
    ∀ u, execStrongroomVerify ok s = .next u → (Kept k0 s → Kept k0 u) := by
  grind [execStrongroomVerify, modStart_kept, startEntropy_kept, Kept]

theorem loseItem_kept {k0 : State} (i : StoreItem) (s : State) :
    Kept k0 s → Kept k0 (loseItem i s) := by
  unfold loseItem; grind [KeptIn, closeChan_kept, modDest_kept, modIsland_kept, modPort_kept, modPower_kept, modQueues_kept,
    modSensor_kept, slowPath_kept, soundJoin, soundZordin, Kept]

theorem loseItems_kept {k0 : State} (y1 : List StoreItem) (s : State) :
    Kept k0 s → Kept k0 (loseItems y1 s) := by
  induction y1 generalizing s with
  | nil => grind [loseItems, loseItem_kept, raise_kept, Kept]
  | cons a as ih => grind [loseItems, loseItem_kept, raise_kept, Kept]

theorem mramCorrected_kept {k0 : State} (y1 : Nat) (s : State) :
    Kept k0 s → Kept k0 (mramCorrected y1 s) := by
  induction y1 generalizing s with
  | zero => grind [mramCorrected, raise_kept, Kept]
  | succ n ih => grind [mramCorrected, raise_kept, Kept]

theorem mramLose_kept {k0 : State} (m : MramWord) (s : State) :
    Kept k0 s → Kept k0 (mramLose m s) := by
  unfold mramLose; grind [modPower_kept, modStart_kept, modTx_kept, Kept]

theorem loseWords_kept {k0 : State} (y1 : List MramWord) (s : State) :
    Kept k0 s → Kept k0 (loseWords y1 s) := by
  induction y1 generalizing s with
  | nil => grind [loseWords, mramLose_kept, mramUncorrectable_kept, Kept]
  | cons a as ih => grind [loseWords, mramLose_kept, mramUncorrectable_kept, Kept]

theorem restartQuarantines_kept {k0 : State} (s : State) :
    Kept k0 s → Kept k0 (restartQuarantines s) := by
  grind [restartQuarantines, KeptIn, chanSlot, resetChannel_gen, soundChans_get, soundChans_map, soundChans_set, soundJoin,
    soundZordin, Kept]

theorem startPorts_kept {k0 : State} (s : State) :
    Kept k0 s → Kept k0 (startPorts s) := by
  grind [startPorts, forEach_kept, startPort_kept, Kept]

theorem tellGateStuck_kept {k0 : State} (s : State) :
    Kept k0 s → Kept k0 (tellGateStuck s) := by
  grind [tellGateStuck, forEach_kept, gateStuck_kept, modAlarm_kept, Kept]

theorem clearRestarted_kept {k0 : State} (src : Nat) (y1 : List Condition) (s : State) :
    Kept k0 s → Kept k0 (clearRestarted src y1 s) := by
  induction y1 generalizing s with
  | nil => grind [clearRestarted, clear_kept, Kept]
  | cons a as ih => grind [clearRestarted, clear_kept, Kept]

theorem clearEntries_kept {k0 : State} (y1 : List (Nat × AlarmEntry)) (s : State) :
    Kept k0 s → Kept k0 (clearEntries y1 s) := by
  induction y1 generalizing s with
  | nil => grind [clearEntries, clearRestarted_kept, Kept]
  | cons a as ih => grind [clearEntries, clearRestarted_kept, Kept]

theorem reevaluate_kept {k0 : State} (s : State) :
    Kept k0 s → Kept k0 (reevaluate s) := by
  grind [reevaluate, clearEntries_kept, Kept]

theorem autoJoin_kept {k0 : State} (s : State) :
    Kept k0 s → Kept k0 (autoJoin s) := by
  grind [autoJoin, enterCueAcq_kept, Kept]

theorem execZordinRunning_kept {k0 : State} (corrected : Nat) (lost : List StoreItem) (bad : List MramWord) (s : State) :
    ∀ u, execZordinRunning corrected lost bad s = .next u → (Kept k0 s → Kept k0 u) := by
  intro u h hk
  unfold execZordinRunning at h
  simp only at h
  split at h
  · exact next_kept h hk
  · refine next_kept h (autoJoin_kept _ (tellGateStuck_kept _ (startPorts_kept _ (restartQuarantines_kept _ ?_))))
    exact loseItems_kept _ _ (loseWords_kept _ _ (mramCorrected_kept _ _ (reevaluate_kept _ (Kept_rest (modStart_kept _ _ hk)))))

theorem execSyncLock_kept {k0 : State} (s : State) :
    ∀ u, execSyncLock s = .next u → (Kept k0 s → Kept k0 u) := by
  grind [execSyncLock, autoJoin_kept, clear_kept, Kept]

theorem execSyncRefAbsent_kept {k0 : State} (s : State) :
    ∀ u, execSyncRefAbsent s = .next u → (Kept k0 s → Kept k0 u) := by
  grind [execSyncRefAbsent, List.length_map, List.length_modify, List.length_set, advanceTo_kept, hold_kept, Kept]

theorem execHbmTraining_kept {k0 : State} (stack : Nat) (trained : Bool) (s : State) :
    ∀ u, execHbmTraining stack trained s = .next u → (Kept k0 s → Kept k0 u) := by
  grind [execHbmTraining, execHbmRetired_kept, modStart_kept, raise_kept, Kept]

end Sys2Proof.Machine
end

