-- ==== Sys2Proof/Laws/Kept/PowerRows.lean ====
section
/-! SUPPORT. What the operations of Machine/PowerRows.lean keep. -/

set_option Elab.async false

namespace Sys2Proof.Machine

theorem storeWake_kept {k0 : State} (wt : Nat) (auto : Bool) (after : Nat) (s : State) :
    Kept k0 s → Kept k0 (storeWake wt auto after s) := by
  grind [storeWake, modPower_kept, Kept]

theorem execPowerState_kept {k0 : State} (src : Source) (tag : Nat) (req : List Word) (s : State) :
    ∀ u, execPowerState src tag req s = .next u → (Kept k0 s → Kept k0 u) := by
  grind [execPowerState, beginTransition_kept, command_kept, modPower_kept, okay_kept, refuse_kept, startLong_kept,
    storeWake_kept, wakeStandby_kept, Kept]

theorem execPowerStatus_kept {k0 : State} (src : Source) (tag : Nat) (req : List Word) (s : State) :
    ∀ u, execPowerStatus src tag req s = .next u → (Kept k0 s → Kept k0 u) := by
  grind [execPowerStatus, command_kept, okay_kept, Kept]

theorem execPadRelease_kept {k0 : State} (src : Source) (tag : Nat) (req : List Word) (s : State) :
    ∀ u, execPadRelease src tag req s = .next u → (Kept k0 s → Kept k0 u) := by
  grind [execPadRelease, command_kept, okay_kept, refuse_kept, Kept]

theorem execGateRequest_kept {k0 : State} (src : Source) (tag : Nat) (req : List Word) (s : State) :
    ∀ u, execGateRequest src tag req s = .next u → (Kept k0 s → Kept k0 u) := by
  grind [execGateRequest, carryGate_kept, command_kept, deferGate_kept, okay_kept, refuse_kept, Kept]

theorem loopWord_kept {k0 : State} (i : Nat) (s : State) :
    Kept k0 s → Kept k0 (loopWord i s).2 := by
  grind [loopWord, takeFree_kept, Kept]

theorem loopWords_kept {k0 : State} (y1 : List Nat) (s : State) :
    Kept k0 s → Kept k0 (loopWords y1 s).2 := by
  induction y1 generalizing s with
  | nil => grind [loopWords, loopWord_kept, Kept]
  | cons a as ih => grind [loopWords, loopWord_kept, Kept]

theorem execThermalStatus_kept {k0 : State} (src : Source) (tag : Nat) (req : List Word) (s : State) :
    ∀ u, execThermalStatus src tag req s = .next u → (Kept k0 s → Kept k0 u) := by
  grind [execThermalStatus, command_kept, loopWords_kept, okay_kept, refuse_kept, Kept]

theorem execThermalConfig_kept {k0 : State} (src : Source) (tag : Nat) (req : List Word) (s : State) :
    ∀ u, execThermalConfig src tag req s = .next u → (Kept k0 s → Kept k0 u) := by
  grind [execThermalConfig, command_kept, modPower_kept, okay_kept, refuse_kept, watchCoolant_kept, Kept]

theorem execStoreConfig_kept {k0 : State} (src : Source) (tag : Nat) (req : List Word) (s : State) :
    ∀ u, execStoreConfig src tag req s = .next u → (Kept k0 s → Kept k0 u) := by
  grind [execStoreConfig, command_kept, modPower_kept, modStore_kept, okay_kept, refuse_kept, Kept]

theorem execStoreStatus_kept {k0 : State} (src : Source) (tag : Nat) (req : List Word) (s : State) :
    ∀ u, execStoreStatus src tag req s = .next u → (Kept k0 s → Kept k0 u) := by
  grind [execStoreStatus, command_kept, okay_kept, Kept]

theorem execPowerCounters_kept {k0 : State} (src : Source) (tag : Nat) (req : List Word) (s : State) :
    ∀ u, execPowerCounters src tag req s = .next u → (Kept k0 s → Kept k0 u) := by
  grind [execPowerCounters, clear_kept, cleared_kept, command_kept, countThrottle_kept, modPower_kept, okay_kept, Kept]

end Sys2Proof.Machine
end

