-- ==== Sys2Proof/Laws/Kept/Curtain.lean ====
section
/-! SUPPORT. What the operations of Machine/Curtain.lean keep. -/

set_option Elab.async false

namespace Sys2Proof.Machine

theorem trigger_kept {k0 : State} (cause : Nat) (s : State) :
    Kept k0 s → Kept k0 (trigger cause s) := by
  grind [trigger, modPower_kept, Kept]

theorem enterStandby_kept {k0 : State} (s : State) :
    Kept k0 s → Kept k0 (enterStandby s) := by
  intro h
  unfold enterStandby
  exact enterPower_kept _ _ (Kept_rest (modPower_kept _ _ (loseCoreDie_kept _ h)))

theorem beginCurtain_kept {k0 : State} (cause : Nat) (t : Nat) (s : State) :
    Kept k0 s → Kept k0 (beginCurtain cause t s) := by
  unfold beginCurtain; grind [closeAtOnce_kept, countPower_kept, emptyQueues_kept, endLongs_kept, enterPower_kept, forEach_kept,
    modPower_kept, powerDownPort_kept, raise_kept, trigger_kept, Kept]

theorem execCurtainStart_kept {k0 : State} (s : State) :
    ∀ u, execCurtainStart s = .next u → (Kept k0 s → Kept k0 u) := by
  grind [execCurtainStart, advanceTo_kept, beginCurtain_kept, endLongs_kept, enterStandby_kept, Kept]

theorem fastReading_kept {k0 : State} (mv : Int) (ma : Int) (s : State) :
    Kept k0 s → Kept k0 (fastReading mv ma s) := by
  grind [fastReading, modPower_kept, Kept]

theorem flushBlackBox_kept {k0 : State} (s : State) :
    Kept k0 s → Kept k0 (flushBlackBox s) := by
  grind [flushBlackBox, Kept]

theorem heldResets_kept {k0 : State} (held : Bool) (kind : Option Nat) (s : State) :
    Kept k0 s → Kept k0 (heldResets held kind s) := by
  unfold heldResets; grind [resetModule_kept, resetOfKind_kept, Kept]

theorem execCurtainStop_kept {k0 : State} (s : State) :
    ∀ u, execCurtainStop s = .next u → (Kept k0 s → Kept k0 u) := by
  grind [execCurtainStop, enterStandby_kept, flushBlackBox_kept, heldResets_kept, modPower_kept, raise_kept, Kept]

end Sys2Proof.Machine
end

