-- ==== Sys2Proof/Laws/Kept/RxEvents.lean ====
section
/-! SUPPORT. What the operations of Machine/RxEvents.lean keep. -/

set_option Elab.async false

namespace Sys2Proof.Machine

theorem noKey_kept {k0 : State} (p : Nat) (s : State) :
    Kept k0 s → Kept k0 (noKey p s) := by
  grind [noKey, countSec_kept, raise_kept, Kept]

theorem clashCheck_kept {k0 : State} (slot : Nat) (h : Nat) (s : State) :
    Kept k0 s → Kept k0 (clashCheck slot h s) := by
  grind [clashCheck, KeptIn, hold_kept, soundJoin, soundZordin, Kept]

theorem openContainer_kept {k0 : State} (slot : Nat) (fields : Nat) (overhead : Nat) (area : Nat) (j : Judged) (s : State) :
    Kept k0 s → Kept k0 (openContainer slot fields overhead area j s).2.2 := by
  grind [openContainer, Kept]

theorem expressArrival_kept {k0 : State} (slot : Nat) (j : Judged) (s : State) :
    Kept k0 s → Kept k0 (expressArrival slot j s) := by
  intro h
  unfold expressArrival
  split
  · exact h
  · simp only
    have h1 : ∀ b : Bool, Kept k0 (if b then noKey (j.lane / 64) s else s) := by
      intro b
      split
      · exact noKey_kept _ _ h
      · exact h
    generalize ht : @ite State _ (instDecidableEqBool _ true) (noKey (j.lane / 64) s) s = t
    have h2 : Kept k0 t := ht ▸ h1 _
    have h3 : ∀ (b : Bool) a c d e, Kept k0 (if b then openContainer a c d e j t else ([], 0, t)).2.2 := by
      intro b a c d e
      split
      · exact openContainer_kept _ _ _ _ _ _ h2
      · exact h2
    generalize hx : @ite (Tab Word × Nat × State) _ (instDecidableEqBool _ true) (openContainer _ _ _ _ j t) ([], 0, t) = x
    have h4 : Kept k0 x.2.2 := hx ▸ h3 _ _ _ _ _
    have h5 := fun f => modExpress_kept f _ h4
    split <;> split <;> first | exact raise_kept _ _ _ _ _ _ (modGroup_kept _ _ _ (h5 _)) | exact h5 _

theorem settleLane_kept {k0 : State} (slot : Nat) (j : Judged) (s : State) :
    Kept k0 s → Kept k0 (settleLane slot j s) := by
  grind (splits := 30) (gen := 20) (ematch := 20) [settleLane, clashCheck_kept, countRx_kept, expressArrival_kept,
    feedPrediction_kept, integrityError_kept, modRecord_kept, modRx_kept, noKey_kept, Kept]

theorem settleLanes_kept {k0 : State} (slot : Nat) (y1 : List Judged) (s : State) :
    Kept k0 s → Kept k0 (settleLanes slot y1 s) := by
  induction y1 generalizing s with
  | nil => grind [settleLanes, settleLane_kept, Kept]
  | cons a as ih => grind [settleLanes, settleLane_kept, Kept]

theorem meetContexts_kept {k0 : State} (slot : Nat) (y1 : List (Nat × Option Context)) (s : State) :
    Kept k0 s → Kept k0 (meetContexts slot y1 s) := by
  induction y1 generalizing s with
  | nil => (unfold meetContexts; grind [closeContext_kept, modRecord_kept, modRx_kept, Kept])
  | cons a as ih => (unfold meetContexts; grind [closeContext_kept, modRecord_kept, modRx_kept, Kept])

theorem execBurstReceive_kept {k0 : State} (slot : Nat) (lights : List RxLight) (s : State) :
    ∀ u, execBurstReceive slot lights s = .next u → (Kept k0 s → Kept k0 u) := by
  grind (splits := 30) (gen := 20) (ematch := 20) [execBurstReceive, meetContexts_kept, modRx_kept, openRxSlot_kept,
    settleLanes_kept, toCycle_kept, toSlot_kept, Kept]

theorem execPayloadDecode_kept {k0 : State} (lane : Nat) (s : State) :
    ∀ u, execPayloadDecode lane s = .next u → (Kept k0 s → Kept k0 u) := by
  grind [execPayloadDecode, modRecord_kept, Kept]

theorem takeFrames_kept {k0 : State} (r : Nat) (x : RxRecord) (bad : Bool) (y1 : List (Bool × PayloadUnit)) (y2 : List DoneFrame)
    (s : State) :
    Kept k0 s → Kept k0 (takeFrames r x bad y1 y2 s).2 := by
  induction y1 generalizing y2 s with
  | nil => grind [takeFrames, allocCells_kept, modEgress_kept, Kept]
  | cons a as ih => grind [takeFrames, allocCells_kept, modEgress_kept, Kept]

theorem dropWaiting_kept {k0 : State} (x : RxRecord) (s : State) :
    Kept k0 s → Kept k0 (dropWaiting x s) := by
  grind [dropWaiting, countRx_kept, freeAll_kept, Kept]

theorem openContext_kept {k0 : State} (r : Nat) (slot : Nat) (x : RxRecord) (bad : Bool) (u : PayloadUnit) (s : State) :
    Kept k0 s → Kept k0 (openContext r slot x bad u s) := by
  grind [openContext, allocCells_kept, modRx_kept, Kept]

theorem walkBurst_kept {k0 : State} (slot : Nat) (r : Nat) (x : RxRecord) (area : Nat) (bad : Bool) (out : List DoneFrame) (s :
    State) :
    Kept k0 s → Kept k0 (walkBurst slot r x area bad out s).2 := by
  unfold walkBurst; grind [countRx_kept, dropWaiting_kept, openContext_kept, raise_kept, takeFrames_kept, Kept]

theorem backEnd_kept {k0 : State} (slot : Nat) (r : Nat) (out : List DoneFrame) (s : State) :
    Kept k0 s → Kept k0 (backEnd slot r out s).2 := by
  unfold backEnd; grind [countRx_kept, dropWaiting_kept, modRecord_kept, walkBurst_kept, Kept]

theorem backEnds_kept {k0 : State} (slot : Nat) (y1 : List Nat) (y2 : List DoneFrame) (s : State) :
    Kept k0 s → Kept k0 (backEnds slot y1 y2 s).2 := by
  induction y1 generalizing y2 s with
  | nil => grind [backEnds, backEnd_kept, Kept]
  | cons a as ih => grind [backEnds, backEnd_kept, Kept]

theorem deliverDone_kept {k0 : State} (d : DoneFrame) (s : State) :
    Kept k0 s → Kept k0 (deliverDone d s) := by
  grind [deliverDone, countSec_kept, dropMcast_kept, freeAll_kept, handUnicast_kept, replicate_kept, slowPath_kept, Kept]

theorem deliverAll_kept {k0 : State} (y1 : List DoneFrame) (s : State) :
    Kept k0 s → Kept k0 (deliverAll y1 s) := by
  induction y1 generalizing s with
  | nil => grind [deliverAll, deliverDone_kept, Kept]
  | cons a as ih => grind [deliverAll, deliverDone_kept, Kept]

theorem execTagCheck_kept {k0 : State} (s : State) :
    ∀ u, execTagCheck s = .next u → (Kept k0 s → Kept k0 u) := by
  grind [execTagCheck, backEnds_kept, deliverAll_kept, toCycle_kept, Kept]

theorem execLedgerLanding_kept {k0 : State} (slot : Nat) (s : State) :
    ∀ u, execLedgerLanding slot s = .next u → (Kept k0 s → Kept k0 u) := by
  grind [execLedgerLanding, modRx_kept, openRxSlot_kept, toCycle_kept, toSlot_kept, Kept]

theorem countEntry_kept {k0 : State} (l : Nat) (r : RxRecord) (s : State) :
    Kept k0 s → Kept k0 (countEntry l r s) := by
  grind (splits := 30) (gen := 20) (ematch := 20) [countEntry, countRx_kept, Kept]

theorem countAttributed_kept {k0 : State} (p : Nat) (r : RxRecord) (s : State) :
    Kept k0 s → Kept k0 (countAttributed p r s) := by
  grind (splits := 30) (gen := 20) (ematch := 20) [countAttributed, countSender_kept, Kept]

theorem qualityWindow_kept {k0 : State} (l : Nat) (r : RxRecord) (s : State) :
    Kept k0 s → Kept k0 (qualityWindow l r s) := by
  grind [qualityWindow, holdIf_kept, modRxLane_kept, Kept]

theorem missingRuns_kept {k0 : State} (l : Nat) (r : RxRecord) (s : State) :
    Kept k0 s → Kept k0 (missingRuns l r s) := by
  grind [missingRuns, holdIf_kept, modRxLane_kept, Kept]

theorem entryEvents_kept {k0 : State} (l : Nat) (r : RxRecord) (s : State) :
    Kept k0 s → Kept k0 (entryEvents l r s) := by
  grind [entryEvents, raise_kept, Kept]

theorem ownFeeds_kept {k0 : State} (l : Nat) (r : RxRecord) (s : State) :
    Kept k0 s → Kept k0 (ownFeeds l r s) := by
  intro h
  unfold ownFeeds
  split
  · split
    · exact countTx_kept _ _ _ _ h
    · exact h
  · split
    · exact h
    · simp only
      split
      · exact Kept_rest (countTx_kept _ _ _ _ h)
      · exact Kept_rest (modTx_kept _ _ _ h)

theorem answerTaps_kept {k0 : State} (slot : Nat) (l : Nat) (s : State) :
    Kept k0 s → Kept k0 (answerTaps slot l s) := by
  grind [answerTaps, endLongs_kept, foldl_kept, Kept]

theorem execReconcilerEntry_kept {k0 : State} (lane : Nat) (s : State) :
    ∀ u, execReconcilerEntry lane s = .next u → (Kept k0 s → Kept k0 u) := by
  grind (splits := 30) (gen := 20) (ematch := 20) [execReconcilerEntry, answerTaps_kept, countAttributed_kept, countEntry_kept,
    entryEvents_kept, missingRuns_kept, modRxLane_kept, ownFeeds_kept, qualityWindow_kept, toCycle_kept, Kept]

end Sys2Proof.Machine
end

