-- ==== Sys2Proof/Laws/Kept/ExpressEval.lean ====
section
/-! SUPPORT. What the operations of Machine/ExpressEval.lean keep. -/

set_option Elab.async false

namespace Sys2Proof.Machine

theorem modStream_kept {k0 : State} (i : Nat) (m : Nat) (f : MemberStream → MemberStream) (s : State) :
    Kept k0 s → Kept k0 (modStream i m f s) := by
  grind [modStream, modGroup_kept, Kept]

theorem flipMember_kept {k0 : State} (i : Nat) (m : Nat) (code : Nat) (on : Bool) (s : State) :
    Kept k0 s → Kept k0 (flipMember i m code on s) := by
  grind [flipMember, clear_kept, hold_kept, modStream_kept, Kept]

theorem syncMember_kept {k0 : State} (i : Nat) (m : Nat) (s : State) :
    Kept k0 s → Kept k0 (syncMember i m s) := by
  unfold syncMember; grind [flipMember_kept, Kept]

theorem dropStream_kept {k0 : State} (i : Nat) (m : Nat) (s : State) :
    Kept k0 s → Kept k0 (dropStream i m s) := by
  grind [dropStream, clear_kept, foldl_kept, modGroup_kept, Kept]

theorem authFailure_kept {k0 : State} (i : Nat) (w : Word) (selected : Bool) (s : State) :
    Kept k0 s → Kept k0 (authFailure i w selected s) := by
  unfold authFailure; grind [hold_kept, modGroup_kept, Kept]

theorem countUnverified_kept {k0 : State} (i : Nat) (s : State) :
    Kept k0 s → Kept k0 (countUnverified i s) := by
  grind [countUnverified, modGroup_kept, Kept]

theorem checkTag_kept {k0 : State} (c : Container) (s : State) :
    Kept k0 s → Kept k0 (checkTag c s) := by
  grind [checkTag, authFailure_kept, countUnverified_kept, Kept]

theorem closeSilent_kept {k0 : State} (slot : Nat) (i : Nat) (s : State) :
    Kept k0 s → Kept k0 (closeSilent slot i s) := by
  grind [closeSilent, countUnverified_kept, forEach_kept, modStream_kept, Kept]

theorem takeContainer_kept {k0 : State} (slot : Nat) (c : Container) (s : State) :
    Kept k0 s → Kept k0 (takeContainer slot c s) := by
  grind [takeContainer, checkTag_kept, countGroup_kept, dropStream_kept, modStream_kept, syncMember_kept, Kept]

theorem takeContainers_kept {k0 : State} (slot : Nat) (y1 : List Container) (s : State) :
    Kept k0 s → Kept k0 (takeContainers slot y1 s) := by
  induction y1 generalizing s with
  | nil => grind [takeContainers, takeContainer_kept, Kept]
  | cons a as ih => grind [takeContainers, takeContainer_kept, Kept]

theorem updateSkew_kept {k0 : State} (i : Nat) (ts : List (Nat × Nat)) (s : State) :
    Kept k0 s → Kept k0 (updateSkew i ts s) := by
  grind [updateSkew, foldl_kept, modGroup_kept, raise_kept, Kept]

theorem updateCondition_kept {k0 : State} (i : Nat) (s : State) :
    Kept k0 s → Kept k0 (updateCondition i s) := by
  grind [updateCondition, clear_kept, countGroup_kept, hold_kept, modGroup_kept, Kept]

theorem playOut_kept {k0 : State} (i : Nat) (slot : Nat) (cs : List Container) (s : State) :
    Kept k0 s → Kept k0 (playOut i slot cs s) := by
  grind [playOut, foldl_kept, modGroup_kept, Kept]

theorem setClientAis_kept {k0 : State} (i : Nat) (on : Bool) (s : State) :
    Kept k0 s → Kept k0 (setClientAis i on s) := by
  grind [setClientAis, modGroup_kept, Kept]

theorem syncAdded_kept {k0 : State} (i : Nat) (was : Resize) (s : State) :
    Kept k0 s → Kept k0 (syncAdded i was s) := by
  grind [syncAdded, dropStream_kept, Kept]

theorem readResizes_kept {k0 : State} (i : Nat) (old : ExpGroup) (y1 : List Container) (s : State) :
    Kept k0 s → Kept k0 (readResizes i old y1 s) := by
  induction y1 generalizing s with
  | nil => grind [readResizes, modGroup_kept, syncAdded_kept, Kept]
  | cons a as ih => grind [readResizes, modGroup_kept, syncAdded_kept, Kept]

theorem evaluateGroup_kept {k0 : State} (slot : Nat) (i : Nat) (s : State) :
    Kept k0 s → Kept k0 (evaluateGroup slot i s) := by
  grind [evaluateGroup, countGroup_kept, modExpress_kept, modGroup_kept, playOut_kept, readResizes_kept, takeContainers_kept,
    updateCondition_kept, updateSkew_kept, Kept]

theorem setPair_kept {k0 : State} (w : Nat) (p : Option Pair) (s : State) :
    Kept k0 s → Kept k0 (setPair w p s) := by
  grind [setPair, modExpress_kept, Kept]

theorem switchPair_kept {k0 : State} (w : Nat) (side : Bool) (s : State) :
    Kept k0 s → Kept k0 (switchPair w side s) := by
  grind [switchPair, countGroup_kept, raise_kept, setPair_kept, Kept]

theorem startWtr_kept {k0 : State} (w : Nat) (p : Pair) (aim : Bool × TargetWhy) (s : State) :
    Kept k0 s → Kept k0 (startWtr w p aim s) := by
  grind [startWtr, setPair_kept, Kept]

theorem actSteady_kept {k0 : State} (w : Nat) (s : State) :
    Kept k0 s → Kept k0 (actSteady w s) := by
  grind [actSteady, hold_kept, setPair_kept, startWtr_kept, switchPair_kept, Kept]

theorem selectPair_kept {k0 : State} (w : Nat) (s : State) :
    Kept k0 s → Kept k0 (selectPair w s) := by
  grind [selectPair, actSteady_kept, clear_kept, hold_kept, setPair_kept, startWtr_kept, Kept]

theorem pairOutput_kept {k0 : State} (w : Nat) (s : State) :
    Kept k0 s → Kept k0 (pairOutput w s) := by
  grind [pairOutput, setClientAis_kept, Kept]

theorem groupOutput_kept {k0 : State} (i : Nat) (s : State) :
    Kept k0 s → Kept k0 (groupOutput i s) := by
  grind [groupOutput, pairOutput_kept, selectPair_kept, setClientAis_kept, Kept]

end Sys2Proof.Machine
end

