-- ==== Sys2Proof/Laws/Kept/JoinRows.lean ====
section
/-! SUPPORT. What the operations of Machine/JoinRows.lean keep. -/

set_option Elab.async false

namespace Sys2Proof.Machine

theorem execJoinConfig_kept {k0 : State} (src : Source) (tag : Nat) (req : List Word) (s : State) :
    ∀ u, execJoinConfig src tag req s = .next u → (Kept k0 s → Kept k0 u) := by
  grind [execJoinConfig, KeptIn, command_kept, okay_kept, refuse_kept, soundJoin, soundZordin, Kept]

theorem execJoinStart_kept {k0 : State} (src : Source) (tag : Nat) (req : List Word) (s : State) :
    ∀ u, execJoinStart src tag req s = .next u → (Kept k0 s → Kept k0 u) := by
  grind [execJoinStart, command_kept, enterCueAcq_kept, refuse_kept, startLong_kept, Kept]

theorem execJoinStatus_kept {k0 : State} (src : Source) (tag : Nat) (req : List Word) (s : State) :
    ∀ u, execJoinStatus src tag req s = .next u → (Kept k0 s → Kept k0 u) := by
  grind [execJoinStatus, command_kept, okay_kept, Kept]

theorem execAsymSet_kept {k0 : State} (src : Source) (tag : Nat) (req : List Word) (s : State) :
    ∀ u, execAsymSet src tag req s = .next u → (Kept k0 s → Kept k0 u) := by
  grind [execAsymSet, KeptIn, command_kept, okay_kept, refuse_kept, soundJoin, soundZordin, Kept]

theorem execPlaneHold_kept {k0 : State} (src : Source) (tag : Nat) (req : List Word) (s : State) :
    ∀ u, execPlaneHold src tag req s = .next u → (Kept k0 s → Kept k0 u) := by
  grind [execPlaneHold, command_kept, forEach_kept, hold_kept, modPlane_kept, okay_kept, refuse_kept, Kept]

theorem execJoinLeave_kept {k0 : State} (src : Source) (tag : Nat) (req : List Word) (s : State) :
    ∀ u, execJoinLeave src tag req s = .next u → (Kept k0 s → Kept k0 u) := by
  refine command_kept _ _ _ _ _ _ ?_
  intro s h
  split
  · exact h
  · exact Kept_join (startLong_kept _ _ _ _ (leaveRejected_kept _ (endJoinStart_kept _ _ h))) _ (by rfl) (by rfl)

theorem execOwnershipStatus_kept {k0 : State} (src : Source) (tag : Nat) (req : List Word) (s : State) :
    ∀ u, execOwnershipStatus src tag req s = .next u → (Kept k0 s → Kept k0 u) := by
  grind [execOwnershipStatus, KeptIn, List.length_map, List.length_modify, List.length_set, command_kept, okay_kept, soundJoin,
    soundZordin, Kept]

theorem execJoinCounters_kept {k0 : State} (src : Source) (tag : Nat) (req : List Word) (s : State) :
    ∀ u, execJoinCounters src tag req s = .next u → (Kept k0 s → Kept k0 u) := by
  grind [execJoinCounters, KeptIn, clear_kept, cleared_kept, command_kept, modPlane_kept, okay_kept, refuse_kept, soundJoin,
    soundZordin, Kept]

theorem handleMsg_kept {k0 : State} (modes : List Nat) (m : StageMsg) (s : State) (k : State → State) (hk : ∀ s, (Kept k0 s →
    Kept k0 (k s))) :
    ∀ u, handleMsg modes m s k = .next u → (Kept k0 s → Kept k0 u) := by
  grind [handleMsg, countLane_kept, takeMsg_kept, Kept]

theorem fromOwner_kept {k0 : State} (m : StageMsg) (p : Nat) (s : State) (k : State → State) (hk : ∀ s, (Kept k0 s → Kept k0 (k
    s))) :
    Kept k0 s → Kept k0 (fromOwner m p s k) := by
  grind [fromOwner, Kept]

theorem drawDelay_kept {k0 : State} (a : Answer) (bound : Nat) (s : State) :
    Kept k0 s → Kept k0 (drawDelay a bound s) := by
  intro h
  unfold drawDelay
  split
  · exact Kept_join h _ (by rfl) (by rfl)
  · exact Kept_join (drbgDraw_kept _ _ h) _ (by rfl) (by rfl)

theorem answerWindow_kept {k0 : State} (m : StageMsg) (p : Nat) (first : Nat) (len : Nat) (allow : Nat) (s : State) :
    Kept k0 s → Kept k0 (answerWindow m p first len allow s) := by
  grind [answerWindow, KeptIn, drawDelay_kept, soundJoin, soundZordin, Kept]

theorem execDiscoveryOpen_kept {k0 : State} (msg : StageMsg) (s : State) :
    ∀ u, execDiscoveryOpen msg s = .next u → (Kept k0 s → Kept k0 u) := by
  grind [execDiscoveryOpen, answerWindow_kept, countJoin_kept, discardMsg_kept, handleMsg_kept, Kept]

theorem execDiscoveryAck_kept {k0 : State} (msg : StageMsg) (s : State) :
    ∀ u, execDiscoveryAck msg s = .next u → (Kept k0 s → Kept k0 u) := by
  refine handleMsg_kept _ _ _ _ ?_
  intro s h
  simp only
  split
  · exact h
  · refine fromOwner_kept _ _ _ _ ?_ h
    intro s h
    split
    · exact discardMsg_kept _ _ h
    · split
      · exact discardMsg_kept _ _ h
      · split
        · exact h
        · split
          · exact countJoin_kept _ _ h
          · exact makeIdentity_kept _ _ _ (Kept_join h _ (by rfl) (by rfl))

theorem storeTn_kept {k0 : State} (tn : Nat) (mask : Nat) (s : State) (hb : tn ≤ 29) :
    Kept k0 s → Kept k0 (storeTn tn mask s) := by
  intro h
  unfold storeTn
  refine forEach_kept _ _ _ (fun i s h => tryWaitWindow_kept _ _ h) ?_
  refine drawSelfKey_kept _ ?_
  refine KeptIn_join_tn _ h ?_ (.inl (by rfl))
  intro t ht
  cases ht
  exact hb

theorem liftClash_kept {k0 : State} (s : State) :
    Kept k0 s → Kept k0 (liftClash s) := by
  grind [liftClash, KeptIn, clear_kept, soundJoin, soundZordin, Kept]

theorem execTnAssign_kept {k0 : State} (msg : StageMsg) (s : State) :
    ∀ u, execTnAssign msg s = .next u → (Kept k0 s → Kept k0 u) := by
  refine handleMsg_kept _ _ _ _ ?_
  intro s h
  simp only
  split
  · exact h
  · split
    · exact discardMsg_kept _ _ h
    · rename_i hb
      have hb := Nat.le_of_not_lt hb
      split
      · exact storeTn_kept _ _ _ hb h
      · split
        · split
          · exact liftClash_kept _ h
          · exact storeTn_kept _ _ _ hb (forgetTn_kept _ h)
        · exact h

theorem enterRejected_kept {k0 : State} (reason : Nat) (holdoff : Nat) (s : State) :
    Kept k0 s → Kept k0 (enterRejected reason holdoff s) := by
  grind [enterRejected, KeptIn, endJoinStart_kept, hold_kept, soundJoin, soundZordin, stopTermTimers, Kept]

theorem execReject_kept {k0 : State} (msg : StageMsg) (s : State) :
    ∀ u, execReject msg s = .next u → (Kept k0 s → Kept k0 u) := by
  refine handleMsg_kept _ _ _ _ ?_
  intro s h
  simp only
  by_cases h1 : (!ownSerial msg s) = true
  · rw [if_pos h1]; exact h
  · rw [if_neg h1]
    by_cases h2 : s.join.phase = .discSent ∨ s.join.phase = .identity
    · rw [if_pos h2]; exact enterRejected_kept _ _ _ h
    · rw [if_neg h2]; exact h

theorem execRangeWindow_kept {k0 : State} (msg : StageMsg) (s : State) :
    ∀ u, execRangeWindow msg s = .next u → (Kept k0 s → Kept k0 u) := by
  refine handleMsg_kept _ _ _ _ ?_
  intro s h
  refine fromOwner_kept _ _ _ _ ?_ h
  intro s h
  split
  · exact discardMsg_kept _ _ h
  · split
    · exact h
    · exact Kept_join (modPlane_kept _ _ _ h) _ (by rfl) (by rfl)

theorem execRangeResult_kept {k0 : State} (msg : StageMsg) (s : State) :
    ∀ u, execRangeResult msg s = .next u → (Kept k0 s → Kept k0 u) := by
  refine handleMsg_kept _ _ _ _ ?_
  intro s h
  refine fromOwner_kept _ _ _ _ ?_ h
  intro s h
  split
  · exact discardMsg_kept _ _ h
  · split
    · exact rangingFailure_kept _ _ h
    · split
      · exact equalisationEvent_kept _ _ (countPlane_kept _ _ _ h)
      · exact modPlane_kept _ _ _ (resetBaselines_kept _ _ h)

theorem execActivate_kept {k0 : State} (msg : StageMsg) (s : State) :
    ∀ u, execActivate msg s = .next u → (Kept k0 s → Kept k0 u) := by
  grind [execActivate, forEach_kept, handleMsg_kept, modPlane_kept, Kept]

theorem execFineCorrect_kept {k0 : State} (msg : StageMsg) (s : State) :
    ∀ u, execFineCorrect msg s = .next u → (Kept k0 s → Kept k0 u) := by
  refine handleMsg_kept _ _ _ _ ?_
  intro s h
  refine fromOwner_kept _ _ _ _ ?_ h
  intro s h
  split
  · exact discardMsg_kept _ _ h
  · split
    · exact equalisationEvent_kept _ _ (countPlane_kept _ _ _ h)
    · split
      · exact equalisationEvent_kept _ _ (countPlane_kept _ _ _ h)
      · exact modPlane_kept _ _ _ h

theorem execDeregister_kept {k0 : State} (msg : StageMsg) (s : State) :
    ∀ u, execDeregister msg s = .next u → (Kept k0 s → Kept k0 u) := by
  grind [execDeregister, endLongs_kept, enterCueAcq_kept, enterOffline_kept, forgetTn_kept, handleMsg_kept, Kept]

end Sys2Proof.Machine
end

