-- ==== Sys2Proof/Laws/Kept/RxRows.lean ====
section
/-! SUPPORT. What the operations of Machine/RxRows.lean keep. -/

set_option Elab.async false

namespace Sys2Proof.Machine

theorem execRxLaneStatus_kept {k0 : State} (src : Source) (tag : Nat) (req : List Word) (s : State) :
    ∀ u, execRxLaneStatus src tag req s = .next u → (Kept k0 s → Kept k0 u) := by
  grind [execRxLaneStatus, command_kept, okay_kept, refuse_kept, Kept]

theorem execRxCounters_kept {k0 : State} (src : Source) (tag : Nat) (req : List Word) (s : State) :
    ∀ u, execRxCounters src tag req s = .next u → (Kept k0 s → Kept k0 u) := by
  grind [execRxCounters, clear_kept, cleared_kept, command_kept, modRxLane_kept, okay_kept, refuse_kept, Kept]

theorem execRxSenderStats_kept {k0 : State} (src : Source) (tag : Nat) (req : List Word) (s : State) :
    ∀ u, execRxSenderStats src tag req s = .next u → (Kept k0 s → Kept k0 u) := by
  grind [execRxSenderStats, clear_kept, cleared_kept, command_kept, modRx_kept, okay_kept, refuse_kept, Kept]

theorem changeMember_kept {k0 : State} (g : Nat) (on : Bool) (s : State) :
    Kept k0 s → Kept k0 (changeMember g on s) := by
  grind [changeMember, modRx_kept, Kept]

theorem execRxMembership_kept {k0 : State} (src : Source) (tag : Nat) (req : List Word) (s : State) :
    ∀ u, execRxMembership src tag req s = .next u → (Kept k0 s → Kept k0 u) := by
  grind [execRxMembership, changeMember_kept, command_kept, okay_kept, refuse_kept, Kept]

theorem execRxLedgerTap_kept {k0 : State} (src : Source) (tag : Nat) (req : List Word) (s : State) :
    ∀ u, execRxLedgerTap src tag req s = .next u → (Kept k0 s → Kept k0 u) := by
  grind [execRxLedgerTap, command_kept, refuse_kept, startLong_kept, Kept]

theorem execRxCueCounters_kept {k0 : State} (src : Source) (tag : Nat) (req : List Word) (s : State) :
    ∀ u, execRxCueCounters src tag req s = .next u → (Kept k0 s → Kept k0 u) := by
  grind [execRxCueCounters, clear_kept, cleared_kept, command_kept, modLane_kept, okay_kept, Kept]

end Sys2Proof.Machine
end

