-- ==== Sys2Proof/Laws/Kept/TribOps.lean ====
section
/-! SUPPORT. What the operations of Machine/TribOps.lean keep. -/

set_option Elab.async false

namespace Sys2Proof.Machine

theorem modTrib_kept {k0 : State} (i : Nat) (f : Tributary → Tributary) (s : State) :
    Kept k0 s → Kept k0 (modTrib i f s) := by
  grind [modTrib, modExpress_kept, Kept]

theorem takeDescriptors_kept {k0 : State} (c : Container) (s : State) :
    Kept k0 s → Kept k0 (takeDescriptors c s) := by
  intros; simp_all only [takeDescriptors]; (repeat' split) <;> grind [modGroup_kept, modStream_kept, Kept]

theorem evaluateTrib_kept {k0 : State} (slot : Nat) (cs : List Container) (i : Nat) (s : State) :
    Kept k0 s → Kept k0 (evaluateTrib slot cs i s) := by
  grind [evaluateTrib, holdIf_kept, modTrib_kept, Kept]

theorem freeWords_kept {k0 : State} (y1 : Nat) (s : State) :
    Kept k0 s → Kept k0 (freeWords y1 s).2 := by
  induction y1 generalizing s with
  | zero => grind [freeWords, takeFree_kept, Kept]
  | succ n ih => grind [freeWords, takeFree_kept, Kept]

theorem elasticOf_kept {k0 : State} (next : Bool) (k : Nat) (s : State) :
    Kept k0 s → Kept k0 (elasticOf next k s).2 := by
  grind [elasticOf, freeWords_kept, takeFree_kept, Kept]

theorem setElastic_kept {k0 : State} (next : Bool) (k : Nat) (q : List TribSlot) (s : State) :
    Kept k0 s → Kept k0 (setElastic next k q s) := by
  grind [setElastic, modExpress_kept, Kept]

theorem feedThrough_kept {k0 : State} (slot : Nat) (cs : List Container) (k : Nat) (e : BitVec 64) (s : State) :
    Kept k0 s → Kept k0 (feedThrough slot cs k e s) := by
  grind [feedThrough, elasticOf_kept, setElastic_kept, Kept]

theorem feedThroughs_kept {k0 : State} (slot : Nat) (cs : List Container) (y1 : List (Nat × BitVec 64)) (s : State) :
    Kept k0 s → Kept k0 (feedThroughs slot cs y1 s) := by
  induction y1 generalizing s with
  | nil => grind [feedThroughs, feedThrough_kept, Kept]
  | cons a as ih => grind [feedThroughs, feedThrough_kept, Kept]

theorem takeAllDescriptors_kept {k0 : State} (y1 : List Container) (s : State) :
    Kept k0 s → Kept k0 (takeAllDescriptors y1 s) := by
  induction y1 generalizing s with
  | nil => (unfold takeAllDescriptors; grind [takeDescriptors_kept, Kept])
  | cons a as ih => (unfold takeAllDescriptors; grind [takeDescriptors_kept, Kept])

theorem evaluateTribs_kept {k0 : State} (slot : Nat) (s : State) :
    Kept k0 s → Kept k0 (evaluateTribs slot s) := by
  grind [evaluateTribs, evaluateTrib_kept, feedThroughs_kept, forEach_kept, takeAllDescriptors_kept, Kept]

theorem sendSlot_kept {k0 : State} (slot : Nat) (num : Nat) (m : Nat) (ts : Nat) (s : State) :
    Kept k0 s → Kept k0 (sendSlot slot num m ts s).2 := by
  grind [sendSlot, elasticOf_kept, setElastic_kept, Kept]

theorem sendSlots_kept {k0 : State} (slot : Nat) (num : Nat) (m : Nat) (y1 : List Nat) (s : State) :
    Kept k0 s → Kept k0 (sendSlots slot num m y1 s).2 := by
  induction y1 generalizing s with
  | nil => grind [sendSlots, sendSlot_kept, Kept]
  | cons a as ih => grind [sendSlots, sendSlot_kept, Kept]

end Sys2Proof.Machine
end

