-- ==== Sys2Proof/Laws/Kept/ExpressRows.lean ====
section
/-! SUPPORT. What the operations of Machine/ExpressRows.lean keep. -/

set_option Elab.async false

namespace Sys2Proof.Machine

theorem carryPort_kept {k0 : State} (p : Nat) (on : Bool) (s : State) :
    Kept k0 s → Kept k0 (carryPort p on s) := by
  grind [carryPort, modPort_kept, Kept]

theorem openGroup_kept {k0 : State} (i : Nat) (c : GroupConfig) (map : Nat) (s : State) :
    Kept k0 s → Kept k0 (openGroup i c map s) := by
  grind [openGroup, modExpress_kept, openChan_kept, Kept]

theorem execGroupCreate_kept {k0 : State} (src : Source) (tag : Nat) (req : List Word) (s : State) :
    ∀ u, execGroupCreate src tag req s = .next u → (Kept k0 s → Kept k0 u) := by
  grind [execGroupCreate, carryPort_kept, command_kept, okay_kept, openGroup_kept, refuse_kept, setClientAis_kept, Kept]

theorem clearGroup_kept {k0 : State} (i : Nat) (s : State) :
    Kept k0 s → Kept k0 (clearGroup i s) := by
  grind [clearGroup, clear_kept, foldl_kept, Kept]

theorem endGroup_kept {k0 : State} (i : Nat) (s : State) :
    Kept k0 s → Kept k0 (endGroup i s) := by
  grind [endGroup, modExpress_kept, Kept]

theorem execGroupDestroy_kept {k0 : State} (src : Source) (tag : Nat) (req : List Word) (s : State) :
    ∀ u, execGroupDestroy src tag req s = .next u → (Kept k0 s → Kept k0 u) := by
  unfold execGroupDestroy; grind [carryPort_kept, clearGroup_kept, closeChan_kept, command_kept, endGroup_kept, endLongs_kept,
    okay_kept, refuse_kept, withHandle_kept, Kept]

theorem execGroupStatus_kept {k0 : State} (src : Source) (tag : Nat) (req : List Word) (s : State) :
    ∀ u, execGroupStatus src tag req s = .next u → (Kept k0 s → Kept k0 u) := by
  grind [execGroupStatus, clear_kept, cleared_kept, command_kept, modGroup_kept, okay_kept, withHandle_kept, Kept]

theorem execGroupResize_kept {k0 : State} (src : Source) (tag : Nat) (req : List Word) (s : State) :
    ∀ u, execGroupResize src tag req s = .next u → (Kept k0 s → Kept k0 u) := by
  grind [execGroupResize, command_kept, dropStream_kept, modGroup_kept, refuse_kept, startLong_kept, withHandle_kept, Kept]

theorem execPairCreate_kept {k0 : State} (src : Source) (tag : Nat) (req : List Word) (s : State) :
    ∀ u, execPairCreate src tag req s = .next u → (Kept k0 s → Kept k0 u) := by
  unfold execPairCreate; grind [command_kept, modGroup_kept, okay_kept, pairOutput_kept, refuse_kept, setClientAis_kept,
    setPair_kept, withHandle_kept, Kept]

theorem execPairDestroy_kept {k0 : State} (src : Source) (tag : Nat) (req : List Word) (s : State) :
    ∀ u, execPairDestroy src tag req s = .next u → (Kept k0 s → Kept k0 u) := by
  grind (splits := 30) (gen := 20) (ematch := 20) [execPairDestroy, clear_kept, command_kept, modGroup_kept, okay_kept,
    refuse_kept, setClientAis_kept, setPair_kept, withHandle_kept, Kept]

theorem execProtectRequest_kept {k0 : State} (src : Source) (tag : Nat) (req : List Word) (s : State) :
    ∀ u, execProtectRequest src tag req s = .next u → (Kept k0 s → Kept k0 u) := by
  unfold execProtectRequest; grind [command_kept, okay_kept, pairOutput_kept, refuse_kept, selectPair_kept, setPair_kept,
    withHandle_kept, Kept]

theorem execGroupCounters_kept {k0 : State} (src : Source) (tag : Nat) (req : List Word) (s : State) :
    ∀ u, execGroupCounters src tag req s = .next u → (Kept k0 s → Kept k0 u) := by
  grind [execGroupCounters, cleared_kept, command_kept, modGroup_kept, okay_kept, setClientAis_kept, withHandle_kept, Kept]

theorem execLanePlacementRead_kept {k0 : State} (src : Source) (tag : Nat) (req : List Word) (s : State) :
    ∀ u, execLanePlacementRead src tag req s = .next u → (Kept k0 s → Kept k0 u) := by
  grind [execLanePlacementRead, command_kept, okay_kept, Kept]

end Sys2Proof.Machine
end

