-- ==== Sys2Proof/Laws/Kept/ExpressEvents.lean ====
section
/-! SUPPORT. What the operations of Machine/ExpressEvents.lean keep. -/

set_option Elab.async false

namespace Sys2Proof.Machine

theorem execContainerEval_kept {k0 : State} (slot : Nat) (s : State) :
    ∀ u, execContainerEval slot s = .next u → (Kept k0 s → Kept k0 u) := by
  grind [execContainerEval, closeSilent_kept, evaluateGroup_kept, evaluateTribs_kept, forEach_kept, groupOutput_kept,
    modExpress_kept, toSlot_kept, Kept]

theorem execSdBlockClose_kept {k0 : State} (group : Nat) (member : Nat) (s : State) :
    ∀ u, execSdBlockClose group member s = .next u → (Kept k0 s → Kept k0 u) := by
  grind [execSdBlockClose, groupOutput_kept, modStream_kept, syncMember_kept, updateCondition_kept, Kept]

theorem selectorTimer_kept {k0 : State} (phase : SelPhase) (w : Nat) (s : State) :
    ∀ u, selectorTimer phase w s = .next u → (Kept k0 s → Kept k0 u) := by
  unfold selectorTimer; grind [advanceTo_kept, pairOutput_kept, setPair_kept, switchPair_kept, Kept]

theorem execHoldOffExpiry_kept {k0 : State} (group : Nat) (s : State) :
    ∀ u, execHoldOffExpiry group s = .next u → (Kept k0 s → Kept k0 u) := by
  grind [execHoldOffExpiry, hold_kept, selectorTimer_kept, Kept]

theorem execWtrExpiry_kept {k0 : State} (group : Nat) (s : State) :
    ∀ u, execWtrExpiry group s = .next u → (Kept k0 s → Kept k0 u) := by
  grind [execWtrExpiry, selectorTimer_kept, Kept]

theorem execAfHoldExpiry_kept {k0 : State} (group : Nat) (s : State) :
    ∀ u, execAfHoldExpiry group s = .next u → (Kept k0 s → Kept k0 u) := by
  grind [execAfHoldExpiry, advanceTo_kept, modGroup_kept, pairOutput_kept, setClientAis_kept, Kept]

theorem modResize_kept {k0 : State} (i : Nat) (f : Resize → Resize) (s : State) :
    Kept k0 s → Kept k0 (modResize i f s) := by
  grind [modResize, modGroup_kept, Kept]

theorem endResizeCommand_kept {k0 : State} (i : Nat) (st : Status) (s : State) :
    Kept k0 s → Kept k0 (endResizeCommand i st s) := by
  grind [endResizeCommand, endLongs_kept, Kept]

theorem failResize_kept {k0 : State} (i : Nat) (st : Status) (s : State) :
    Kept k0 s → Kept k0 (failResize i st s) := by
  grind [failResize, dropStream_kept, endResizeCommand_kept, modResize_kept, raise_kept, Kept]

theorem resizeMsg_kept {k0 : State} (m : StageMsg) (s : State) (k : Nat → Nat → State → State) (hk : ∀ i j s, (Kept k0 s → Kept
    k0 (k i j s))) :
    ∀ u, resizeMsg m s k = .next u → (Kept k0 s → Kept k0 u) := by
  grind [resizeMsg, discardMsg_kept, handleMsg_kept, Kept]

theorem execResizePrepare_kept {k0 : State} (msg : StageMsg) (s : State) :
    ∀ u, execResizePrepare msg s = .next u → (Kept k0 s → Kept k0 u) := by
  grind [execResizePrepare, modResize_kept, resizeMsg_kept, Kept]

theorem execResizeCommit_kept {k0 : State} (msg : StageMsg) (s : State) :
    ∀ u, execResizeCommit msg s = .next u → (Kept k0 s → Kept k0 u) := by
  grind [execResizeCommit, modResize_kept, resizeMsg_kept, Kept]

theorem execResizeCancel_kept {k0 : State} (msg : StageMsg) (s : State) :
    ∀ u, execResizeCancel msg s = .next u → (Kept k0 s → Kept k0 u) := by
  grind [execResizeCancel, failResize_kept, resizeMsg_kept, Kept]

theorem execTPrep_kept {k0 : State} (group : Nat) (s : State) :
    ∀ u, execTPrep group s = .next u → (Kept k0 s → Kept k0 u) := by
  grind [execTPrep, advanceTo_kept, failResize_kept, Kept]

theorem execTCommit_kept {k0 : State} (group : Nat) (s : State) :
    ∀ u, execTCommit group s = .next u → (Kept k0 s → Kept k0 u) := by
  grind [execTCommit, advanceTo_kept, failResize_kept, Kept]

theorem execResizePrepared_kept {k0 : State} (group : Nat) (s : State) :
    ∀ u, execResizePrepared group s = .next u → (Kept k0 s → Kept k0 u) := by
  grind [execResizePrepared, modResize_kept, Kept]

theorem execResizeSwitchover_kept {k0 : State} (group : Nat) (s : State) :
    ∀ u, execResizeSwitchover group s = .next u → (Kept k0 s → Kept k0 u) := by
  grind [execResizeSwitchover, modGroup_kept, toSlot_kept, Kept]

theorem execResizeDone_kept {k0 : State} (group : Nat) (s : State) :
    ∀ u, execResizeDone group s = .next u → (Kept k0 s → Kept k0 u) := by
  grind [execResizeDone, clear_kept, endResizeCommand_kept, foldl_kept, modGroup_kept, modStream_kept, raise_kept, Kept]

end Sys2Proof.Machine
end

