-- ==== Sys2Proof/Laws/Kept/Freeze.lean ====
section
/-! SUPPORT. What the operations of Machine/Freeze.lean keep. -/

set_option Elab.async false

namespace Sys2Proof.Machine

theorem sequenceRestart_kept {k0 : State} (s : State) :
    Kept k0 s → Kept k0 (sequenceRestart s) := by
  grind [sequenceRestart, enterCueAcq_kept, forgetTn_kept, modSeq_kept, seqHalt_kept, Kept]

theorem startRecord_kept {k0 : State} (v : Nat) (s : State) :
    Kept k0 s → Kept k0 (startRecord v s) := by
  unfold startRecord; (repeat' split) <;> grind [modSeq_kept, Kept]

theorem assignSequence_kept {k0 : State} (slot : Nat) (s : State) :
    Kept k0 s → Kept k0 (assignSequence slot s) := by
  grind [assignSequence, modSeq_kept, seqHalt_kept, seqResume_kept, sequenceRestart_kept, startRecord_kept, Kept]

theorem rollKey_kept {k0 : State} (k : Nat) (s : State) :
    Kept k0 s → Kept k0 (rollKey k s) := by
  grind [rollKey, modKey_kept, raise_kept, Kept]

theorem placementError_kept {k0 : State} (i : Nat) (lane : Nat) (s : State) :
    Kept k0 s → Kept k0 (placementError i lane s) := by
  grind [placementError, countGroup_kept, raise_kept, Kept]

theorem placementErrors_kept {k0 : State} (i : Nat) (lane : Nat) (n : Nat) (s : State) :
    Kept k0 s → Kept k0 (placementErrors i lane n s) := by
  grind [placementErrors, placementError_kept, repeatOn_kept, Kept]

theorem checkMember_kept {k0 : State} (m : Placed) (s : State) :
    Kept k0 s → Kept k0 (checkMember m s) := by
  grind [checkMember, placementError_kept, placementErrors_kept, Kept]

theorem checkCount_kept {k0 : State} (ms : List Placed) (i : Nat) (s : State) :
    Kept k0 s → Kept k0 (checkCount ms i s) := by
  grind [checkCount, placementError_kept, Kept]

theorem checkPair_kept {k0 : State} (ms : List Placed) (w : Nat) (s : State) :
    Kept k0 s → Kept k0 (checkPair ms w s) := by
  grind [checkPair, forEach_kept, placementError_kept, Kept]

theorem checkPlacement_kept {k0 : State} (slot : Nat) (s : State) :
    Kept k0 s → Kept k0 (checkPlacement slot s) := by
  grind [checkPlacement, checkCount_kept, checkMember_kept, checkPair_kept, foldl_kept, forEach_kept, Kept]

theorem freezePlane_kept {k0 : State} (slot : Nat) (p : Nat) (s : State) :
    Kept k0 s → Kept k0 (freezePlane slot p s) := by
  grind [freezePlane, integrityError_kept, lapseSheets_kept, modGrants_kept, repeatOn_kept, Kept]

theorem execFreeze_kept {k0 : State} (slot : Nat) (s : State) :
    ∀ u, execFreeze slot s = .next u → (Kept k0 s → Kept k0 u) := by
  intro u h hk
  unfold execFreeze at h
  split at h
  · exact next_kept h hk
  · refine next_kept h (checkPlacement_kept _ _ (forEach_kept _ _ _ (fun i s h => rollKey_kept _ _ h) (modRx_kept _ _ ?_)))
    refine assignSequence_kept _ _ (Kept_rest ?_)
    exact forEach_kept _ _ _ (fun i s h => freezePlane_kept _ _ _ h) (toSlot_kept _ _ hk)

end Sys2Proof.Machine
end

