-- ==== Sys2Proof/Laws/Kept/GrantRows.lean ====
section
/-! SUPPORT. What the operations of Machine/GrantRows.lean keep. -/

set_option Elab.async false

namespace Sys2Proof.Machine

theorem execGrantView_kept {k0 : State} (src : Source) (tag : Nat) (req : List Word) (s : State) :
    ∀ u, execGrantView src tag req s = .next u → (Kept k0 s → Kept k0 u) := by
  grind [execGrantView, command_kept, okay_kept, refuse_kept, Kept]

theorem execStandingRead_kept {k0 : State} (src : Source) (tag : Nat) (req : List Word) (s : State) :
    ∀ u, execStandingRead src tag req s = .next u → (Kept k0 s → Kept k0 u) := by
  grind [execStandingRead, command_kept, okay_kept, refuse_kept, Kept]

theorem execReportConfig_kept {k0 : State} (src : Source) (tag : Nat) (req : List Word) (s : State) :
    ∀ u, execReportConfig src tag req s = .next u → (Kept k0 s → Kept k0 u) := by
  grind [execReportConfig, command_kept, okay_kept, refuse_kept, Kept]

theorem execGrantCounters_kept {k0 : State} (src : Source) (tag : Nat) (req : List Word) (s : State) :
    ∀ u, execGrantCounters src tag req s = .next u → (Kept k0 s → Kept k0 u) := by
  grind [execGrantCounters, clear_kept, cleared_kept, command_kept, modGrants_kept, okay_kept, Kept]

end Sys2Proof.Machine
end

