-- ==== Sys2Proof/Laws/Kept/Mailbox.lean ====
section
/-! SUPPORT. What the operations of Machine/Mailbox.lean keep. -/

set_option Elab.async false

namespace Sys2Proof.Machine

theorem execMboxEnable_kept {k0 : State} (func : Nat) (s : State) :
    ∀ u, execMboxEnable func s = .next u → (Kept k0 s → Kept k0 u) := by
  grind [execMboxEnable, setFunc_kept, Kept]

theorem execMboxDisable_kept {k0 : State} (func : Nat) (s : State) :
    ∀ u, execMboxDisable func s = .next u → (Kept k0 s → Kept k0 u) := by
  grind [execMboxDisable, dropLongs_kept, setFunc_kept, Kept]

theorem execMboxCmdPi_kept {k0 : State} (func : Nat) (value : Word) (s : State) :
    ∀ u, execMboxCmdPi func value s = .next u → (Kept k0 s → Kept k0 u) := by
  grind [execMboxCmdPi, setFunc_kept, Kept]

theorem execMboxRspCi_kept {k0 : State} (func : Nat) (value : Word) (s : State) :
    ∀ u, execMboxRspCi func value s = .next u → (Kept k0 s → Kept k0 u) := by
  grind [execMboxRspCi, popCycle_kept, setFunc_kept, Kept]

theorem execMboxNtfCi_kept {k0 : State} (func : Nat) (value : Word) (s : State) :
    ∀ u, execMboxNtfCi func value s = .next u → (Kept k0 s → Kept k0 u) := by
  grind [execMboxNtfCi, popCycle_kept, setFunc_kept, Kept]

theorem startCommand_kept {k0 : State} (src : Source) (header : Word) (os : List Outstanding) (s : State) :
    Kept k0 s → Kept k0 (startCommand src header os s).2.2 := by
  grind [startCommand, createTask_kept, deliver_kept, respond_kept, Kept]

theorem takeFunc_kept {k0 : State} (src : Source) (f : Nat) (slot : List Word) (s : State) :
    Kept k0 s → Kept k0 (takeFunc src f slot s) := by
  grind [takeFunc, modFunc_kept, popCycle_kept, setFunc_kept, startCommand_kept, Kept]

theorem takeSideband_kept {k0 : State} (s : State) :
    Kept k0 s → Kept k0 (takeSideband s) := by
  grind [takeSideband, modSb_kept, startCommand_kept, Kept]

theorem execCommandTake_kept {k0 : State} (src : Source) (slot : List Word) (s : State) :
    ∀ u, execCommandTake src slot s = .next u → (Kept k0 s → Kept k0 u) := by
  unfold execCommandTake; grind [takeFunc_kept, takeSideband_kept, Kept]

theorem execResponseWrite_kept {k0 : State} (src : Source) (s : State) :
    ∀ u, execResponseWrite src s = .next u → (Kept k0 s → Kept k0 u) := by
  unfold execResponseWrite; grind [modSb_kept, setFunc_kept, sidebandSlot_kept, writeResponse_kept, Kept]

theorem writeNotification_kept {k0 : State} (f : Nat) (ws : Nat → List Word) (s : State) :
    Kept k0 s → Kept k0 (writeNotification f ws s) := by
  grind [writeNotification, hostWrite_kept, setFunc_kept, signalVector_kept, Kept]

theorem execNotificationWrite_kept {k0 : State} (func : Nat) (s : State) :
    ∀ u, execNotificationWrite func s = .next u → (Kept k0 s → Kept k0 u) := by
  grind [execNotificationWrite, loseRecord_kept, modClass_kept, popCycle_kept, setFunc_kept, writeNotification_kept, Kept]

theorem rejectWrite_kept {k0 : State} (s : State) :
    Kept k0 s → Kept k0 (rejectWrite s) := by
  grind [rejectWrite, modSb_kept, Kept]

theorem acceptRequest_kept {k0 : State} (bs : List Byte) (s : State) :
    Kept k0 s → Kept k0 (acceptRequest bs s) := by
  grind [acceptRequest, modSb_kept, rejectWrite_kept, Kept]

theorem joinFragment_kept {k0 : State} (ix : Nat) (isLast : Bool) (bs : List Byte) (s : State) :
    Kept k0 s → Kept k0 (joinFragment ix isLast bs s) := by
  grind [joinFragment, acceptRequest_kept, modSb_kept, Kept]

theorem execSbReq_kept {k0 : State} (pec : Option Byte) (bytes : List Byte) (s : State) :
    ∀ u, execSbReq pec bytes s = .next u → (Kept k0 s → Kept k0 u) := by
  unfold execSbReq; grind [joinFragment_kept, modSb_kept, rejectWrite_kept, Kept]

theorem returnBytes_kept {k0 : State} (code : Nat) (block : Bool) (bs : List Byte) (s : State) :
    Kept k0 s → Kept k0 (returnBytes code block bs s) := by
  grind [returnBytes, Kept]

theorem execSbRsp_kept {k0 : State} (s : State) :
    ∀ u, execSbRsp s = .next u → (Kept k0 s → Kept k0 u) := by
  grind [execSbRsp, modSb_kept, returnBytes_kept, Kept]

theorem execSbStatus_kept {k0 : State} (s : State) :
    ∀ u, execSbStatus s = .next u → (Kept k0 s → Kept k0 u) := by
  grind [execSbStatus, modSb_kept, returnBytes_kept, Kept]

theorem execSbNtf_kept {k0 : State} (s : State) :
    ∀ u, execSbNtf s = .next u → (Kept k0 s → Kept k0 u) := by
  grind [execSbNtf, modSb_kept, returnBytes_kept, Kept]

theorem writeBase_kept {k0 : State} (f : Nat) (offset : Nat) (value : Word) (s : State) :
    Kept k0 s → Kept k0 (writeBase f offset value s) := by
  grind [writeBase, setFunc_kept, Kept]

theorem writeStat_kept {k0 : State} (f : Nat) (value : Word) (s : State) :
    Kept k0 s → Kept k0 (writeStat f value s) := by
  grind [writeStat, setFunc_kept, Kept]

theorem writeVector_kept {k0 : State} (f : Nat) (offset : Nat) (value : Word) (s : State) :
    Kept k0 s → Kept k0 (writeVector f offset value s) := by
  grind [writeVector, sendMessage_kept, setFunc_kept, Kept]

theorem execQuarantineExpiry_kept {k0 : State} (type : Nat) (index : Nat) (s : State) :
    ∀ u, execQuarantineExpiry type index s = .next u → (Kept k0 s → Kept k0 u) := by
  intro u h hk
  unfold execQuarantineExpiry at h
  simp only at h
  split at h
  · cases h
    exact setChan_kept _ _ _ _ (fun hs => soundChans_get _ _ hs) (advanceToOut_kept _ _ hk)
  · cases h; exact hk

end Sys2Proof.Machine
end

