-- ==== Sys2Proof/Laws/Kept/HostRows.lean ====
section
/-! SUPPORT. What the operations of Machine/HostRows.lean keep. -/

set_option Elab.async false

namespace Sys2Proof.Machine

theorem execDmaError_kept {k0 : State} (func : Nat) (pair : Option Nat) (s : State) :
    ∀ u, execDmaError func pair s = .next u → (Kept k0 s → Kept k0 u) := by
  unfold execDmaError; grind [haltFunc_kept, modPair_kept, Kept]

theorem execHqTxPi_kept {k0 : State} (func : Nat) (pair : Nat) (value : Word) (s : State) :
    ∀ u, execHqTxPi func pair value s = .next u → (Kept k0 s → Kept k0 u) := by
  grind [execHqTxPi, haltPair_kept, modPair_kept, Kept]

theorem execHqRxPi_kept {k0 : State} (func : Nat) (pair : Nat) (value : Word) (s : State) :
    ∀ u, execHqRxPi func pair value s = .next u → (Kept k0 s → Kept k0 u) := by
  grind [execHqRxPi, haltPair_kept, modPair_kept, Kept]

theorem execHqCqCi_kept {k0 : State} (func : Nat) (pair : Nat) (value : Word) (s : State) :
    ∀ u, execHqCqCi func pair value s = .next u → (Kept k0 s → Kept k0 u) := by
  grind [execHqCqCi, haltPair_kept, modPair_kept, Kept]

theorem execCqResume_kept {k0 : State} (pair : Nat) (s : State) :
    ∀ u, execCqResume pair s = .next u → (Kept k0 s → Kept k0 u) := by
  grind [execCqResume, answerStop_kept, modPair_kept, writeCompletion_kept, Kept]

theorem injectFrame_kept {k0 : State} (port : Nat) (data : List Byte) (s : State) :
    Kept k0 s → Kept k0 (injectFrame port data s) := by
  intro h
  unfold injectFrame
  split
  · exact countPort_kept _ _ _ _ h
  · exact Kept_rest (countPort_kept _ _ _ _ (countPort_kept _ _ _ _ h))

theorem sendFrame_kept {k0 : State} (ws : List Word) (frame : List Byte) (s : State) :
    Kept k0 s → Kept k0 (sendFrame ws frame s).2 := by
  grind [sendFrame, allocCells_kept, handUnicast_kept, injectFrame_kept, modEgress_kept, Kept]

theorem takeToken2_kept {k0 : State} (n : Nat) (t : Nat) (s : State) :
    Kept k0 s → Kept k0 (takeToken2 n t s) := by
  grind [takeToken2, larderShare_kept, modQueues_kept, Kept]

theorem settleToken_kept {k0 : State} (n : Nat) (t : Nat) (ok : Bool) (s : State) :
    Kept k0 s → Kept k0 (settleToken n t ok s) := by
  grind [settleToken, larderShare_kept, modQueues_kept, ownerDone_kept, Kept]

theorem takeDescriptor_kept {k0 : State} (n : Nat) (ws : List Word) (frame : List Byte) (s : State) :
    Kept k0 s → Kept k0 (takeDescriptor n ws frame s) := by
  unfold takeDescriptor; grind [countPair_kept, endTransmit_kept, haltPair_kept, modPair_kept, sendFrame_kept, settleToken_kept,
    takeToken2_kept, Kept]

theorem execTxDescriptor_kept {k0 : State} (words : List Word) (frame : List Byte) (s : State) :
    ∀ u, execTxDescriptor words frame s = .next u → (Kept k0 s → Kept k0 u) := by
  grind [execTxDescriptor, modHq_kept, nextPlace_kept, takeDescriptor_kept, Kept]

theorem fillBuffers_kept {k0 : State} (size : Nat) (y1 : List (List Word)) (y2 : List Byte) (s : State) :
    Kept k0 s → Kept k0 (fillBuffers size y1 y2 s) := by
  induction y1 generalizing y2 s with
  | nil => grind [fillBuffers, hostWrite_kept, Kept]
  | cons a as ih => grind [fillBuffers, hostWrite_kept, Kept]

theorem useReceive_kept {k0 : State} (n : Nat) (k : Nat) (s : State) :
    Kept k0 s → Kept k0 (useReceive n k s) := by
  grind [useReceive, modPair_kept, Kept]

theorem deliverFrame_kept {k0 : State} (f : SlowFrame) (n : Nat) (descriptors : List (List Word)) (s : State) :
    Kept k0 s → Kept k0 (deliverFrame f n descriptors s) := by
  grind [deliverFrame, complete_kept, countPair_kept, fillBuffers_kept, haltPair_kept, useReceive_kept, Kept]

theorem execSlowPathDelivery_kept {k0 : State} (descriptors : List (List Word)) (s : State) :
    ∀ u, execSlowPathDelivery descriptors s = .next u → (Kept k0 s → Kept k0 u) := by
  grind [execSlowPathDelivery, countHq_kept, deliverFrame_kept, freeAll_kept, Kept]

theorem execQpCreate_kept {k0 : State} (src : Source) (tag : Nat) (req : List Word) (s : State) :
    ∀ u, execQpCreate src tag req s = .next u → (Kept k0 s → Kept k0 u) := by
  grind [execQpCreate, command_kept, modPair_kept, okay_kept, openChan_kept, refuse_kept, Kept]

theorem execQpDestroy_kept {k0 : State} (src : Source) (tag : Nat) (req : List Word) (s : State) :
    ∀ u, execQpDestroy src tag req s = .next u → (Kept k0 s → Kept k0 u) := by
  grind [execQpDestroy, answerStop_kept, closeChan_kept, command_kept, modPair_kept, okay_kept, refuse_kept, withHandle_kept,
    Kept]

theorem execQpStart_kept {k0 : State} (src : Source) (tag : Nat) (req : List Word) (s : State) :
    ∀ u, execQpStart src tag req s = .next u → (Kept k0 s → Kept k0 u) := by
  grind [execQpStart, answerStop_kept, command_kept, modPair_kept, okay_kept, refuse_kept, withHandle_kept, Kept]

theorem execQpStop_kept {k0 : State} (src : Source) (tag : Nat) (req : List Word) (s : State) :
    ∀ u, execQpStop src tag req s = .next u → (Kept k0 s → Kept k0 u) := by
  grind [execQpStop, command_kept, lands_kept, modPair_kept, okay_kept, refuse_kept, stopPair_kept, withHandle_kept, Kept]

theorem execQpStatus_kept {k0 : State} (src : Source) (tag : Nat) (req : List Word) (s : State) :
    ∀ u, execQpStatus src tag req s = .next u → (Kept k0 s → Kept k0 u) := by
  grind [execQpStatus, command_kept, okay_kept, withHandle_kept, Kept]

theorem execQpSched_kept {k0 : State} (src : Source) (tag : Nat) (req : List Word) (s : State) :
    ∀ u, execQpSched src tag req s = .next u → (Kept k0 s → Kept k0 u) := by
  grind [execQpSched, command_kept, modPair_kept, okay_kept, refuse_kept, withHandle_kept, Kept]

theorem execSlowpathMap_kept {k0 : State} (src : Source) (tag : Nat) (req : List Word) (s : State) :
    ∀ u, execSlowpathMap src tag req s = .next u → (Kept k0 s → Kept k0 u) := by
  grind [execSlowpathMap, command_kept, modHq_kept, okay_kept, refuse_kept, Kept]

theorem execWatchSet_kept {k0 : State} (src : Source) (tag : Nat) (req : List Word) (s : State) :
    ∀ u, execWatchSet src tag req s = .next u → (Kept k0 s → Kept k0 u) := by
  grind [execWatchSet, command_kept, modHq_kept, okay_kept, refuse_kept, Kept]

theorem execQpCounters_kept {k0 : State} (src : Source) (tag : Nat) (req : List Word) (s : State) :
    ∀ u, execQpCounters src tag req s = .next u → (Kept k0 s → Kept k0 u) := by
  grind [execQpCounters, clear_kept, cleared_kept, command_kept, modHq_kept, modPair_kept, okay_kept, withHandle_kept, Kept]

end Sys2Proof.Machine
end

