-- ==== Sys2Proof/Laws/Kept/JoinTimers.lean ====
section
/-! SUPPORT. What the operations of Machine/JoinTimers.lean keep. -/

set_option Elab.async false

namespace Sys2Proof.Machine

theorem joinMessage_kept {k0 : State} (m : StageMsg) (s : State) :
    ∀ u, joinMessage m s = .next u → (Kept k0 s → Kept k0 u) := by
  grind [joinMessage, execActivate_kept, execDeregister_kept, execDiscoveryAck_kept, execDiscoveryOpen_kept,
    execFineCorrect_kept, execRangeResult_kept, execRangeWindow_kept, execReject_kept, execTnAssign_kept, Kept]

theorem handleMessages_kept {k0 : State} (y1 : List StageMsg) (s : State) :
    Kept k0 s → Kept k0 (handleMessages y1 s) := by
  induction y1 generalizing s with
  | nil => grind [handleMessages, joinMessage_kept, Kept]
  | cons a as ih => grind [handleMessages, joinMessage_kept, Kept]

theorem atDeadline_kept {k0 : State} (timer : State → Option Nat) (s : State) (k : State → State) (hk : ∀ s, (Kept k0 s → Kept k0
    (k s))) :
    ∀ u, atDeadline timer s k = .next u → (Kept k0 s → Kept k0 u) := by
  unfold atDeadline; grind [advanceTo_kept, handleMessages_kept, Kept]

theorem afterSlot_kept {k0 : State} (limit : State → Option Nat) (s : State) (k : State → State) (hk : ∀ s, (Kept k0 s → Kept k0
    (k s))) :
    ∀ u, afterSlot limit s k = .next u → (Kept k0 s → Kept k0 u) := by
  grind [afterSlot, handleMessages_kept, toSlot_kept, Kept]

theorem execTCue_kept {k0 : State} (s : State) :
    ∀ u, execTCue s = .next u → (Kept k0 s → Kept k0 u) := by
  refine atDeadline_kept _ _ _ ?_
  intro s h
  exact Kept_join (endJoinStart_kept _ _ (raise_kept _ _ _ _ _ _ h)) _ (by rfl) (by rfl)

theorem execJoinNoWindow_kept {k0 : State} (s : State) :
    ∀ u, execJoinNoWindow s = .next u → (Kept k0 s → Kept k0 u) := by
  refine atDeadline_kept _ _ _ ?_
  intro s h
  exact Kept_join (raise_kept _ _ _ _ _ _ h) _ (by rfl) (by rfl)

theorem execDiscoveryTimeout_kept {k0 : State} (s : State) :
    ∀ u, execDiscoveryTimeout s = .next u → (Kept k0 s → Kept k0 u) := by
  grind [execDiscoveryTimeout, KeptIn, afterSlot_kept, enterDiscWait_kept, raise_kept, soundJoin, soundZordin, Kept]

theorem retryDiscovery_kept {k0 : State} (s : State) :
    Kept k0 s → Kept k0 (retryDiscovery s) := by
  grind [retryDiscovery, KeptIn, enterDiscWait_kept, soundJoin, soundZordin, Kept]

theorem execTId_kept {k0 : State} (s : State) :
    ∀ u, execTId s = .next u → (Kept k0 s → Kept k0 u) := by
  grind [execTId, atDeadline_kept, raise_kept, retryDiscovery_kept, Kept]

theorem execRegistrationLost_kept {k0 : State} (s : State) :
    ∀ u, execRegistrationLost s = .next u → (Kept k0 s → Kept k0 u) := by
  grind [execRegistrationLost, atDeadline_kept, enterCueAcq_kept, forgetTn_kept, raise_kept, Kept]

theorem execRejectHoldoff_kept {k0 : State} (s : State) :
    ∀ u, execRejectHoldoff s = .next u → (Kept k0 s → Kept k0 u) := by
  grind [execRejectHoldoff, atDeadline_kept, retryDiscovery_kept, Kept]

theorem execTLeave_kept {k0 : State} (s : State) :
    ∀ u, execTLeave s = .next u → (Kept k0 s → Kept k0 u) := by
  grind [execTLeave, atDeadline_kept, endLongs_kept, enterOffline_kept, forgetTn_kept, Kept]

theorem execTRwin_kept {k0 : State} (plane : Nat) (s : State) :
    ∀ u, execTRwin plane s = .next u → (Kept k0 s → Kept k0 u) := by
  grind [execTRwin, atDeadline_kept, modPlane_kept, rangingEvent_kept, Kept]

theorem execRangingTimeout_kept {k0 : State} (plane : Nat) (s : State) :
    ∀ u, execRangingTimeout plane s = .next u → (Kept k0 s → Kept k0 u) := by
  grind [execRangingTimeout, afterSlot_kept, rangingFailure_kept, Kept]

theorem restartRanging_kept {k0 : State} (plane : Nat) (s : State) :
    Kept k0 s → Kept k0 (restartRanging plane s) := by
  grind [restartRanging, modPlane_kept, Kept]

theorem execTAct_kept {k0 : State} (plane : Nat) (s : State) :
    ∀ u, execTAct plane s = .next u → (Kept k0 s → Kept k0 u) := by
  grind [execTAct, atDeadline_kept, rangingEvent_kept, restartRanging_kept, Kept]

theorem execTSkew_kept {k0 : State} (plane : Nat) (s : State) :
    ∀ u, execTSkew plane s = .next u → (Kept k0 s → Kept k0 u) := by
  grind [execTSkew, atDeadline_kept, restartRanging_kept, Kept]

theorem execTSusp_kept {k0 : State} (plane : Nat) (s : State) :
    ∀ u, execTSusp plane s = .next u → (Kept k0 s → Kept k0 u) := by
  grind [execTSusp, atDeadline_kept, modPlane_kept, rangingEvent_kept, watchPlanes_kept, Kept]

theorem registerOnActive_kept {k0 : State} (s : State) :
    Kept k0 s → Kept k0 (registerOnActive s) := by
  grind [registerOnActive, KeptIn, endJoinStart_kept, noteRegistered_kept, raise_kept, soundJoin, soundZordin, Kept]

theorem activatePlane_kept {k0 : State} (p : Nat) (s : State) :
    Kept k0 s → Kept k0 (activatePlane p s) := by
  intro h
  unfold activatePlane
  refine registerOnActive_kept _ ?_
  refine rangingEvent_kept _ _ _ ?_
  refine watchPlanes_kept _ ?_
  exact Kept_join (modPlane_kept _ _ _ h) _ (by rfl) (by rfl)

theorem execPlaneActivation_kept {k0 : State} (plane : Nat) (s : State) :
    ∀ u, execPlaneActivation plane s = .next u → (Kept k0 s → Kept k0 u) := by
  grind [execPlaneActivation, activatePlane_kept, modPlane_kept, raise_kept, toSlot_kept, Kept]

theorem heldEqd_kept {k0 : State} (e : Int) (s : State) :
    Kept k0 s → Kept k0 (heldEqd e s).2 := by
  grind [heldEqd, takeFree_kept, Kept]

theorem execFineCorrectApply_kept {k0 : State} (plane : Nat) (s : State) :
    ∀ u, execFineCorrectApply plane s = .next u → (Kept k0 s → Kept k0 u) := by
  grind [execFineCorrectApply, foldl_kept, heldEqd_kept, modPlane_kept, toSlot_kept, Kept]

theorem execPlaneHoldApply_kept {k0 : State} (plane : Nat) (s : State) :
    ∀ u, execPlaneHoldApply plane s = .next u → (Kept k0 s → Kept k0 u) := by
  intro u h hk
  unfold execPlaneHoldApply at h
  split at h
  · obtain rfl := Host.Outcome.next.inj h; exact hk
  · simp only at h
    obtain rfl := Host.Outcome.next.inj h
    exact watchPlanes_kept _ (Kept_join (modPlane_kept _ _ _ (toSlot_kept _ _ hk)) _ (by rfl) (by rfl))

end Sys2Proof.Machine
end

