-- ==== Sys2Proof/Laws/Kept/SendOps.lean ====
section
/-! SUPPORT. What the operations of Machine/SendOps.lean keep. -/

set_option Elab.async false

namespace Sys2Proof.Machine

theorem countDark_kept {k0 : State} (p : Nat) (x : Nat) (s : State) :
    Kept k0 s → Kept k0 (countDark p x s) := by
  grind [countDark, countGrant_kept, countTx_kept, Kept]

theorem tellStop_kept {k0 : State} (p : Nat) (x : Nat) (why : Stop) (s : State) :
    Kept k0 s → Kept k0 (tellStop p x why s) := by
  unfold tellStop; grind [countDark_kept, integrityError_kept, raise_kept, Kept]

theorem tellKeyCap_kept {k0 : State} (p : Nat) (dest : Nat) (s : State) :
    Kept k0 s → Kept k0 (tellKeyCap p dest s) := by
  grind [tellKeyCap, countSec_kept, raise_kept, Kept]

theorem setLastReport_kept {k0 : State} (p : Nat) (n : Option Nat) (s : State) :
    Kept k0 s → Kept k0 (setLastReport p n s) := by
  grind [setLastReport, modGrants_kept, Kept]

end Sys2Proof.Machine
end

