-- ==== Sys2Proof/Laws/Kept/Select.lean ====
section
/-! SUPPORT. What the operations of Machine/Select.lean keep. -/

set_option Elab.async false

namespace Sys2Proof.Machine

theorem modDrr_kept {k0 : State} (d : Nat) (group : Nat) (p : Nat) (g : Drr → Drr) (s : State) :
    Kept k0 s → Kept k0 (modDrr d group p g s) := by
  grind [modDrr, modQueues_kept, Kept]

theorem dropRetired_kept {k0 : State} (e : FillPlan) (s : State) :
    Kept k0 s → Kept k0 (dropRetired e s) := by
  grind [dropRetired, dropRetiredHeads_kept, forEach_kept, Kept]

theorem placeFrame_kept {k0 : State} (e : FillPlan) (c : Nat) (f : QFrame) (s : State) :
    Kept k0 s → Kept k0 (placeFrame e c f s) := by
  grind [placeFrame, chargeShaper_kept, countVoq_kept, popFrame_kept, Kept]

theorem placeWhole_kept {k0 : State} (e : FillPlan) (c : Nat) (f : QFrame) (r : FillRun) :
    Kept k0 r.m → Kept k0 (placeWhole e c f r).m := by
  grind [placeWhole, modDrr_kept, placeFrame_kept, Kept]

theorem placeHead_kept {k0 : State} (e : FillPlan) (c : Nat) (f : QFrame) (r : FillRun) :
    Kept k0 r.m → Kept k0 (placeHead e c f r).m := by
  grind [placeHead, modDrr_kept, placeFrame_kept, Kept]

theorem offerFrame_kept {k0 : State} (e : FillPlan) (c : Nat) (f : QFrame) (r : FillRun) :
    Kept k0 r.m → Kept k0 (offerFrame e c f r).m := by
  grind [offerFrame, placeHead_kept, placeWhole_kept, Kept]

theorem fillStep_kept {k0 : State} (e : FillPlan) (second : Bool) (r : FillRun) :
    Kept k0 r.m → Kept k0 (fillStep e second r).m := by
  grind [fillStep, modDrr_kept, offerFrame_kept, Kept]

theorem fillLoop_kept {k0 : State} (e : FillPlan) (second : Bool) (y1 : Nat) (r : FillRun) :
    Kept k0 r.m → Kept k0 (fillLoop e second y1 r).m := by
  induction y1 generalizing r with
  | zero => grind [fillLoop, dropRetired_kept, fillStep_kept, Kept]
  | succ n ih => grind [fillLoop, dropRetired_kept, fillStep_kept, Kept]

theorem runFill_kept {k0 : State} (e : FillPlan) (start : Nat) (fill : Nat) (s : State) :
    Kept k0 s → Kept k0 (runFill e start fill s).m := by
  grind [runFill, fillLoop_kept, modDrr_kept, Kept]

theorem dropJumbos_kept {k0 : State} (e : FillPlan) (s : State) :
    Kept k0 s → Kept k0 (dropJumbos e s) := by
  grind [dropJumbos, countTx_kept, forEach_kept, ownerDone_kept, popFrame_kept, Kept]

theorem markPassed_kept {k0 : State} (e : FillPlan) (x : Nat) (skipped : List Nat) (s : State) :
    Kept k0 s → Kept k0 (markPassed e x skipped s) := by
  grind [markPassed, forEach_kept, modPlaneQueue_kept, Kept]

theorem setHubQueue_kept {k0 : State} (toB : Bool) (q : List KeySegment) (s : State) :
    Kept k0 s → Kept k0 (setHubQueue toB q s) := by
  grind [setHubQueue, Kept]

theorem returnQueue_kept {k0 : State} (k : Nat) (fs : List QFrame) (s : State) :
    Kept k0 s → Kept k0 (returnQueue k fs s) := by
  grind [returnQueue, modPlaneQueue_kept, modQueues_kept, unchargeShaper_kept, Kept]

theorem returnFrames_kept {k0 : State} (taken : List (Nat × QFrame)) (s : State) :
    Kept k0 s → Kept k0 (returnFrames taken s) := by
  grind [returnFrames, forEach_kept, returnQueue_kept, Kept]

theorem discardTail_kept {k0 : State} (x : Nat) (t : Tail) (s : State) :
    Kept k0 s → Kept k0 (discardTail x t s) := by
  grind [discardTail, countTx_kept, forEach_kept, ownerDone_kept, Kept]

theorem discardDueTail_kept {k0 : State} (x : Nat) (slot : Nat) (s : State) :
    Kept k0 s → Kept k0 (discardDueTail x slot s) := by
  grind [discardDueTail, discardTail_kept, modTx_kept, Kept]

theorem returnSelection_kept {k0 : State} (x : Nat) (s : State) :
    Kept k0 s → Kept k0 (returnSelection x s) := by
  unfold returnSelection; split <;> grind [discardTail_kept, modTx_kept, returnFrames_kept, setHubQueue_kept, setLastReport_kept,
    Kept]

theorem setSelection_kept {k0 : State} (x : Nat) (l : Selection) (s : State) :
    Kept k0 s → Kept k0 (setSelection x l s) := by
  grind [setSelection, modTx_kept, Kept]

theorem openSelection_kept {k0 : State} (p : Nat) (slot : Nat) (o : OwnGrant) (s : State) :
    Kept k0 s → Kept k0 (openSelection p slot o s).2 := by
  grind [openSelection, modTx_kept, setLastReport_kept, Kept]

theorem selectSegments_kept {k0 : State} (p : Nat) (slot : Nat) (o : OwnGrant) (s : State) :
    Kept k0 s → Kept k0 (selectSegments p slot o s) := by
  grind [selectSegments, openSelection_kept, setHubQueue_kept, setSelection_kept, Kept]

theorem selectFrames_kept {k0 : State} (e : FillPlan) (p : Nat) (slot : Nat) (o : OwnGrant) (s : State) :
    Kept k0 s → Kept k0 (selectFrames e p slot o s) := by
  unfold selectFrames; grind [dropJumbos_kept, markPassed_kept, openSelection_kept, runFill_kept, setSelection_kept, Kept]

theorem selectGrant_kept {k0 : State} (own : List OwnGrant) (p : Nat) (slot : Nat) (o : OwnGrant) (s : State) :
    Kept k0 s → Kept k0 (selectGrant own p slot o s) := by
  grind [selectGrant, dropJumbos_kept, dropRetired_kept, selectFrames_kept, selectSegments_kept, Kept]

theorem windowGrant_kept {k0 : State} (own : List OwnGrant) (p : Nat) (slot : Nat) (s : State) (o : OwnGrant) :
    Kept k0 s → Kept k0 (windowGrant own p slot s o) := by
  grind [windowGrant, discardDueTail_kept, returnSelection_kept, selectGrant_kept, Kept]

theorem execSelectionWindow_kept {k0 : State} (slot : Nat) (plane : Nat) (s : State) :
    ∀ u, execSelectionWindow slot plane s = .next u → (Kept k0 s → Kept k0 u) := by
  grind [execSelectionWindow, advanceTo_kept, foldl_kept, windowGrant_kept, Kept]

theorem closeSelection_kept {k0 : State} (slot : Nat) (x : Nat) (s : State) :
    Kept k0 s → Kept k0 (closeSelection slot x s) := by
  grind [closeSelection, modTx_kept, Kept]

theorem execSelectionClose_kept {k0 : State} (slot : Nat) (plane : Nat) (s : State) :
    ∀ u, execSelectionClose slot plane s = .next u → (Kept k0 s → Kept k0 u) := by
  grind [execSelectionClose, advanceTo_kept, closeSelection_kept, forEach_kept, Kept]

end Sys2Proof.Machine
end

