-- ==== Sys2Proof/Laws/Kept/SendExpress.lean ====
section
/-! SUPPORT. What the operations of Machine/SendExpress.lean keep. -/

set_option Elab.async false

namespace Sys2Proof.Machine

theorem memberPayload_kept {k0 : State} (slot : Nat) (i : Nat) (m : Nat) (s : State) :
    Kept k0 s → Kept k0 (memberPayload slot i m s).2 := by
  grind [memberPayload, sendSlots_kept, Kept]

theorem expressPayload_kept {k0 : State} (slot : Nat) (gr : Grant) (s : State) :
    ∀ u, expressPayload slot gr s = some u → (Kept k0 s → Kept k0 u.2) := by
  intro u h hk
  unfold expressPayload at h
  split at h
  · cases h; exact hk
  · obtain ⟨e, _, rfl⟩ := Option.map_eq_some_iff.mp h
    exact memberPayload_kept _ _ _ _ hk

theorem settleEnded_kept {k0 : State} (num : Nat) (m : Nat) (s : State) :
    Kept k0 s → Kept k0 (settleEnded num m s) := by
  grind [settleEnded, modExpress_kept, Kept]

theorem containerSent_kept {k0 : State} (slot : Nat) (num : Nat) (m : Nat) (overhead : Nat) (s : State) :
    Kept k0 s → Kept k0 (containerSent slot num m overhead s) := by
  grind [containerSent, countGroup_kept, modGroup_kept, settleEnded_kept, Kept]

theorem noteTag_kept {k0 : State} (num : Nat) (m : Nat) (tag : Nat) (s : State) :
    Kept k0 s → Kept k0 (noteTag num m tag s) := by
  grind [noteTag, modGroup_kept, Kept]

theorem emitBurst_kept {k0 : State} (x : Nat) (s : State) :
    Kept k0 s → Kept k0 (emitBurst x s) := by
  grind [emitBurst, modTx_kept, noteTag_kept, Kept]

theorem refreshGroup_kept {k0 : State} (slot : Nat) (i : Nat) (x : Nat) (s : State) :
    Kept k0 s → Kept k0 (refreshGroup slot i x s) := by
  grind [refreshGroup, countGroup_kept, emitBurst_kept, modTx_kept, Kept]

theorem refreshTrib_kept {k0 : State} (slot : Nat) (circ : Nat) (x : Nat) (s : State) :
    Kept k0 s → Kept k0 (refreshTrib slot circ x s) := by
  grind [refreshTrib, emitBurst_kept, modTx_kept, Kept]

theorem execRateControl_kept {k0 : State} (trib : Bool) (index : Nat) (slot : Nat) (lanes : List ClientFeed) (s : State) :
    ∀ u, execRateControl trib index slot lanes s = .next u → (Kept k0 s → Kept k0 u) := by
  grind [execRateControl, forEach_kept, modGroup_kept, modTrib_kept, refreshGroup_kept, refreshTrib_kept, Kept]

end Sys2Proof.Machine
end

