-- ==== Sys2Proof/Laws/Kept/Launch.lean ====
section
/-! SUPPORT. What the operations of Machine/Launch.lean keep. -/

set_option Elab.async false

namespace Sys2Proof.Machine

theorem planBurst_kept {k0 : State} (x : Nat) (b : Burst) (key : BitVec 256) (edge : Int) (s : State) :
    Kept k0 s → Kept k0 (planBurst x b key edge s) := by
  grind [planBurst, modTx_kept, Kept]

theorem dropSelected_kept {k0 : State} (x : Nat) (slot : Nat) (s : State) :
    Kept k0 s → Kept k0 (dropSelected x slot s) := by
  grind [dropSelected, discardDueTail_kept, returnSelection_kept, Kept]

theorem planIdle_kept {k0 : State} (p : Nat) (slot : Nat) (o : OwnGrant) (s : State) :
    Kept k0 s → Kept k0 (planIdle p slot o s) := by
  grind [planIdle, countDark_kept, dropSelected_kept, planBurst_kept, Kept]

theorem grantContent_kept {k0 : State} (p : Nat) (slot : Nat) (o : OwnGrant) (s : State) :
    ∀ u, grantContent p slot o s = some u → (Kept k0 s → Kept k0 u.2.2) := by
  intro u h hk
  unfold grantContent at h
  split at h
  · split at h
    · cases h
    · split at h
      · cases h; exact hk
      · cases h
  · split at h
    · obtain ⟨e, he, rfl⟩ := Option.map_eq_some_iff.mp h
      exact expressPayload_kept _ _ _ _ he hk
    · split at h <;> cases h <;> exact hk

theorem planCipher_kept {k0 : State} (p : Nat) (slot : Nat) (type : Nat) (epoch : KeyEpoch) (o : OwnGrant) (pl : Payload) (s :
    State) :
    Kept k0 s → Kept k0 (planCipher p slot type epoch o pl s) := by
  grind [planCipher, countDark_kept, dropSelected_kept, planBurst_kept, Kept]

theorem launchContent_kept {k0 : State} (p : Nat) (slot : Nat) (o : OwnGrant) (s : State) :
    Kept k0 s → Kept k0 (launchContent p slot o s) := by
  intro hk
  unfold launchContent
  split
  · exact planIdle_kept _ _ _ _ hk
  · split
    · exact planIdle_kept _ _ _ _ (tellKeyCap_kept _ _ _ hk)
    · split
      · exact planIdle_kept _ _ _ _ hk
      · rename_i h; exact planCipher_kept _ _ _ _ _ _ _ (grantContent_kept _ _ _ _ _ h hk)

theorem launchGrant_kept {k0 : State} (own : List OwnGrant) (p : Nat) (slot : Nat) (s : State) (o : OwnGrant) :
    Kept k0 s → Kept k0 (launchGrant own p slot s o) := by
  grind [launchGrant, dropSelected_kept, launchContent_kept, tellStop_kept, Kept]

theorem launchAnswer_kept {k0 : State} (s : State) (a : Answer) :
    Kept k0 s → Kept k0 (launchAnswer s a) := by
  grind [launchAnswer, KeptIn, countPlane_kept, planBurst_kept, soundJoin, soundZordin, Kept]

theorem fixPlans_kept {k0 : State} (p : Nat) (slot : Nat) (s : State) :
    Kept k0 s → Kept k0 (fixPlans p slot s) := by
  grind [fixPlans, forEach_kept, modTx_kept, Kept]

theorem execLaunch_kept {k0 : State} (slot : Nat) (plane : Nat) (s : State) :
    ∀ u, execLaunch slot plane s = .next u → (Kept k0 s → Kept k0 u) := by
  grind [execLaunch, advanceTo_kept, dropSelected_kept, fixPlans_kept, foldl_kept, forEach_kept, launchAnswer_kept,
    launchGrant_kept, modTx_kept, txBoundary_kept, Kept]

end Sys2Proof.Machine
end

