-- ==== Sys2Proof/Laws/Kept/PortEvents.lean ====
section
/-! SUPPORT. What the operations of Machine/PortEvents.lean keep. -/

set_option Elab.async false

namespace Sys2Proof.Machine

theorem execTTrain_kept {k0 : State} (port : Nat) (s : State) :
    ∀ u, execTTrain port s = .next u → (Kept k0 s → Kept k0 u) := by
  grind [execTTrain, advanceTo_kept, modPort_kept, raise_kept, Kept]

theorem execTrainingComplete_kept {k0 : State} (port : Nat) (s : State) :
    ∀ u, execTrainingComplete port s = .next u → (Kept k0 s → Kept k0 u) := by
  grind [execTrainingComplete, modPort_kept, Kept]

theorem execLinkUp_kept {k0 : State} (port : Nat) (s : State) :
    ∀ u, execLinkUp port s = .next u → (Kept k0 s → Kept k0 u) := by
  grind [execLinkUp, modPort_kept, raise_kept, Kept]

theorem execLinkDown_kept {k0 : State} (port : Nat) (s : State) :
    ∀ u, execLinkDown port s = .next u → (Kept k0 s → Kept k0 u) := by
  grind [execLinkDown, linkLost_kept, Kept]

theorem execRemoteFault_kept {k0 : State} (port : Nat) (rf : Bool) (lf : Bool) (s : State) :
    ∀ u, execRemoteFault port rf lf s = .next u → (Kept k0 s → Kept k0 u) := by
  grind [execRemoteFault, flushPort_kept, holdIf_kept, modPort_kept, Kept]

theorem execLaneLos_kept {k0 : State} (lane : Nat) (present : Bool) (s : State) :
    ∀ u, execLaneLos lane present s = .next u → (Kept k0 s → Kept k0 u) := by
  grind [execLaneLos, holdIf_kept, linkLost_kept, modPort_kept, Kept]

theorem execCrefLoss_kept {k0 : State} (s : State) :
    ∀ u, execCrefLoss s = .next u → (Kept k0 s → Kept k0 u) := by
  grind [execCrefLoss, forEach_kept, linkLost_kept, tellCref_kept, Kept]

theorem execCrefReturn_kept {k0 : State} (s : State) :
    ∀ u, execCrefReturn s = .next u → (Kept k0 s → Kept k0 u) := by
  grind [execCrefReturn, forEach_kept, tellCref_kept, Kept]

theorem execClientFrame_kept {k0 : State} (port : Nat) (data : List Byte) (back : Nat) (s : State) :
    ∀ u, execClientFrame port data back s = .next u → (Kept k0 s → Kept k0 u) := by
  intro u h hk
  unfold execClientFrame at h
  simp only at h
  split at h
  · obtain rfl := Host.Outcome.next.inj h; exact hk
  · split at h
    · obtain rfl := Host.Outcome.next.inj h; exact countPort_kept _ _ _ _ hk
    · split at h
      · obtain rfl := Host.Outcome.next.inj h; exact countPort_kept _ _ _ _ (countPort_kept _ _ _ _ (countPort_kept _ _ _ _ hk))
      · obtain rfl := Host.Outcome.next.inj h; exact Kept_rest (countPort_kept _ _ _ _ (countPort_kept _ _ _ _ hk))

end Sys2Proof.Machine
end

