-- ==== Sys2Proof/Laws/Kept/PortRows.lean ====
section
/-! SUPPORT. What the operations of Machine/PortRows.lean keep. -/

set_option Elab.async false

namespace Sys2Proof.Machine

theorem endPortAis_kept {k0 : State} (p : Nat) (n : Nat) (s : State) :
    Kept k0 s → Kept k0 (endPortAis p n s) := by
  grind [endPortAis, Kept]

theorem execPortConfig_kept {k0 : State} (src : Source) (tag : Nat) (req : List Word) (s : State) :
    ∀ u, execPortConfig src tag req s = .next u → (Kept k0 s → Kept k0 u) := by
  grind [execPortConfig, command_kept, disablePort_kept, endPortAis_kept, modPort_kept, okay_kept, refuse_kept, startPort_kept,
    Kept]

theorem execPortStatus_kept {k0 : State} (src : Source) (tag : Nat) (req : List Word) (s : State) :
    ∀ u, execPortStatus src tag req s = .next u → (Kept k0 s → Kept k0 u) := by
  grind [execPortStatus, command_kept, okay_kept, refuse_kept, Kept]

theorem execPortCounters_kept {k0 : State} (src : Source) (tag : Nat) (req : List Word) (s : State) :
    ∀ u, execPortCounters src tag req s = .next u → (Kept k0 s → Kept k0 u) := by
  grind [execPortCounters, clear_kept, cleared_kept, command_kept, modPort_kept, okay_kept, refuse_kept, Kept]

theorem modPorts_kept {k0 : State} (g : Ports → Ports) (s : State) :
    Kept k0 s → Kept k0 (modPorts g s) := by
  grind [modPorts, Kept]

theorem setGraph_kept {k0 : State} (i : Nat) (g : GraphImage) (s : State) :
    Kept k0 s → Kept k0 (setGraph i g s) := by
  grind [setGraph, modPorts_kept, Kept]

theorem setRuleSet_kept {k0 : State} (i : Nat) (r : RuleSet) (s : State) :
    Kept k0 s → Kept k0 (setRuleSet i r s) := by
  grind [setRuleSet, modPorts_kept, Kept]

theorem execGraphCreate_kept {k0 : State} (src : Source) (tag : Nat) (req : List Word) (s : State) :
    ∀ u, execGraphCreate src tag req s = .next u → (Kept k0 s → Kept k0 u) := by
  grind [execGraphCreate, command_kept, okay_kept, openChan_kept, refuse_kept, setGraph_kept, Kept]

theorem execNodeWrite_kept {k0 : State} (src : Source) (tag : Nat) (req : List Word) (s : State) :
    ∀ u, execNodeWrite src tag req s = .next u → (Kept k0 s → Kept k0 u) := by
  grind [execNodeWrite, command_kept, okay_kept, refuse_kept, setGraph_kept, withHandle_kept, Kept]

theorem execRulesetCreate_kept {k0 : State} (src : Source) (tag : Nat) (req : List Word) (s : State) :
    ∀ u, execRulesetCreate src tag req s = .next u → (Kept k0 s → Kept k0 u) := by
  grind [execRulesetCreate, command_kept, okay_kept, openChan_kept, refuse_kept, setRuleSet_kept, Kept]

theorem execRuleWrite_kept {k0 : State} (src : Source) (tag : Nat) (req : List Word) (s : State) :
    ∀ u, execRuleWrite src tag req s = .next u → (Kept k0 s → Kept k0 u) := by
  grind [execRuleWrite, command_kept, okay_kept, refuse_kept, setRuleSet_kept, withHandle_kept, Kept]

theorem execRulesetParam_kept {k0 : State} (src : Source) (tag : Nat) (req : List Word) (s : State) :
    ∀ u, execRulesetParam src tag req s = .next u → (Kept k0 s → Kept k0 u) := by
  grind [execRulesetParam, command_kept, okay_kept, refuse_kept, setRuleSet_kept, withHandle_kept, Kept]

theorem sealRuleSet_kept {k0 : State} (i : Option Nat) (s : State) :
    Kept k0 s → Kept k0 (sealRuleSet i s) := by
  unfold sealRuleSet; grind [setRuleSet_kept, Kept]

theorem sealGraph_kept {k0 : State} (i : Option Nat) (s : State) :
    Kept k0 s → Kept k0 (sealGraph i s) := by
  unfold sealGraph; grind [setGraph_kept, Kept]

theorem execClassifyActivate_kept {k0 : State} (src : Source) (tag : Nat) (req : List Word) (s : State) :
    ∀ u, execClassifyActivate src tag req s = .next u → (Kept k0 s → Kept k0 u) := by
  unfold execClassifyActivate; grind [command_kept, modPorts_kept, okay_kept, raise_kept, refuse_kept, sealGraph_kept,
    sealRuleSet_kept, Kept]

theorem execClassifyDestroy_kept {k0 : State} (src : Source) (tag : Nat) (req : List Word) (s : State) :
    ∀ u, execClassifyDestroy src tag req s = .next u → (Kept k0 s → Kept k0 u) := by
  grind [execClassifyDestroy, closeChan_kept, command_kept, okay_kept, refuse_kept, setGraph_kept, setRuleSet_kept,
    withHandle_kept, Kept]

theorem placeKey_kept {k0 : State} (s : State) :
    Kept k0 s → Kept k0 (placeKey s).2 := by
  grind [placeKey, takeFree_kept, Kept]

theorem setFib_kept {k0 : State} (k : Nat) (e : Option (Nat × Bool)) (s : State) :
    Kept k0 s → Kept k0 (setFib k e s) := by
  grind [setFib, modPorts_kept, Kept]

theorem execFibInsert_kept {k0 : State} (src : Source) (tag : Nat) (req : List Word) (s : State) :
    ∀ u, execFibInsert src tag req s = .next u → (Kept k0 s → Kept k0 u) := by
  unfold execFibInsert; split <;> grind [command_kept, lands_kept, okay_kept, placeKey_kept, refuse_kept, setFib_kept, Kept]

theorem drainStash_kept {k0 : State} (s : State) :
    Kept k0 s → Kept k0 (drainStash s) := by
  grind [drainStash, setFib_kept, takeFree_kept, Kept]

theorem execFibDelete_kept {k0 : State} (src : Source) (tag : Nat) (req : List Word) (s : State) :
    ∀ u, execFibDelete src tag req s = .next u → (Kept k0 s → Kept k0 u) := by
  unfold execFibDelete; split <;> grind [command_kept, drainStash_kept, lands_kept, okay_kept, refuse_kept, setFib_kept, Kept]

theorem execFibRead_kept {k0 : State} (src : Source) (tag : Nat) (req : List Word) (s : State) :
    ∀ u, execFibRead src tag req s = .next u → (Kept k0 s → Kept k0 u) := by
  grind [execFibRead, command_kept, okay_kept, Kept]

theorem execIndirectionWrite_kept {k0 : State} (src : Source) (tag : Nat) (req : List Word) (s : State) :
    ∀ u, execIndirectionWrite src tag req s = .next u → (Kept k0 s → Kept k0 u) := by
  grind [execIndirectionWrite, command_kept, modPorts_kept, okay_kept, refuse_kept, Kept]

theorem execSlowPathConfig_kept {k0 : State} (src : Source) (tag : Nat) (req : List Word) (s : State) :
    ∀ u, execSlowPathConfig src tag req s = .next u → (Kept k0 s → Kept k0 u) := by
  grind [execSlowPathConfig, command_kept, modPorts_kept, okay_kept, refuse_kept, Kept]

theorem execClassifyCounters_kept {k0 : State} (src : Source) (tag : Nat) (req : List Word) (s : State) :
    ∀ u, execClassifyCounters src tag req s = .next u → (Kept k0 s → Kept k0 u) := by
  grind [execClassifyCounters, clear_kept, cleared_kept, command_kept, modPorts_kept, okay_kept, Kept]

theorem setBinding_kept {k0 : State} (i : Nat) (b : FlowBinding) (s : State) :
    Kept k0 s → Kept k0 (setBinding i b s) := by
  grind [setBinding, modPorts_kept, Kept]

theorem execFlowBindCreate_kept {k0 : State} (src : Source) (tag : Nat) (req : List Word) (s : State) :
    ∀ u, execFlowBindCreate src tag req s = .next u → (Kept k0 s → Kept k0 u) := by
  grind [execFlowBindCreate, command_kept, lands_kept, okay_kept, openChan_kept, refuse_kept, setBinding_kept, Kept]

theorem execFlowBindDestroy_kept {k0 : State} (src : Source) (tag : Nat) (req : List Word) (s : State) :
    ∀ u, execFlowBindDestroy src tag req s = .next u → (Kept k0 s → Kept k0 u) := by
  grind [execFlowBindDestroy, closeChan_kept, command_kept, lands_kept, okay_kept, setBinding_kept, withHandle_kept, Kept]

theorem execFlowBindStatus_kept {k0 : State} (src : Source) (tag : Nat) (req : List Word) (s : State) :
    ∀ u, execFlowBindStatus src tag req s = .next u → (Kept k0 s → Kept k0 u) := by
  grind [execFlowBindStatus, clear_kept, cleared_kept, command_kept, okay_kept, setBinding_kept, withHandle_kept, Kept]

end Sys2Proof.Machine
end

