-- ==== Sys2Proof/Laws/Kept/SenseEvents.lean ====
section
/-! SUPPORT. What the operations of Machine/SenseEvents.lean keep. -/

set_option Elab.async false

namespace Sys2Proof.Machine

theorem endOutput_kept {k0 : State} (isOpen : Bool) (s : State) :
    Kept k0 s → Kept k0 (endOutput isOpen s) := by
  grind [endOutput, modChain_kept, modIsland_kept, Kept]

theorem startChain_kept {k0 : State} (s : State) :
    Kept k0 s → Kept k0 (startChain s) := by
  grind [startChain, modIsland_kept, Kept]

theorem chainOutput_kept {k0 : State} (time : Nat) (island : Bool) (bits : List Bool) (leads : Nat) (overload : Bool) (s : State)
    :
    Kept k0 s → Kept k0 (chainOutput time island bits leads overload s) := by
  grind [chainOutput, deliverSample_kept, modChain_kept, Kept]

theorem execSenseOutput_kept {k0 : State} (bits : List Bool) (leads : Nat) (overload : Bool) (s : State) :
    ∀ u, execSenseOutput bits leads overload s = .next u → (Kept k0 s → Kept k0 u) := by
  grind [execSenseOutput, advanceTo_kept, applySwap_kept, chainOutput_kept, endOutput_kept, modChain_kept, startChain_kept, Kept]

theorem execRcPeriodCapture_kept {k0 : State} (elapsed : Nat) (s : State) :
    ∀ u, execRcPeriodCapture elapsed s = .next u → (Kept k0 s → Kept k0 u) := by
  grind [execRcPeriodCapture, clear_kept, hold_kept, modChain_kept, Kept]

theorem execSenseFallback_kept {k0 : State} (input : Nat) (s : State) :
    ∀ u, execSenseFallback input s = .next u → (Kept k0 s → Kept k0 u) := by
  grind [execSenseFallback, advanceTo_kept, hold_kept, modIsland_kept, Kept]

theorem execIslandWait_kept {k0 : State} (s : State) :
    ∀ u, execIslandWait s = .next u → (Kept k0 s → Kept k0 u) := by
  grind [execIslandWait, modIsland_kept, Kept]

theorem monitorTake_kept {k0 : State} (s : State) (b : Byte) :
    Kept k0 s → Kept k0 (monitorTake s b) := by
  grind [monitorTake, modIsland_kept, Kept]

theorem drainConsole_kept {k0 : State} (s : State) :
    Kept k0 s → Kept k0 (drainConsole s) := by
  grind [drainConsole, foldl_kept, modIsland_kept, monitorTake_kept, Kept]

theorem wakeIsland_kept {k0 : State} (s : State) :
    Kept k0 s → Kept k0 (wakeIsland s) := by
  grind [wakeIsland, drainConsole_kept, modIsland_kept, Kept]

theorem execIslandWake_kept {k0 : State} (s : State) :
    ∀ u, execIslandWake s = .next u → (Kept k0 s → Kept k0 u) := by
  grind [execIslandWake, wakeIsland_kept, Kept]

theorem execSmbusAddressMatch_kept {k0 : State} (address : Nat) (s : State) :
    ∀ u, execSmbusAddressMatch address s = .next u → (Kept k0 s → Kept k0 u) := by
  grind [execSmbusAddressMatch, wakeIsland_kept, Kept]

theorem takeCharacter_kept {k0 : State} (b : Byte) (s : State) :
    Kept k0 s → Kept k0 (takeCharacter b s) := by
  grind [takeCharacter, drainConsole_kept, modIsland_kept, Kept]

theorem execUartCharacter_kept {k0 : State} (samples : List Bool) (s : State) :
    ∀ u, execUartCharacter samples s = .next u → (Kept k0 s → Kept k0 u) := by
  grind [execUartCharacter, modIsland_kept, takeCharacter_kept, Kept]

theorem execUartBreakEnd_kept {k0 : State} (s : State) :
    ∀ u, execUartBreakEnd s = .next u → (Kept k0 s → Kept k0 u) := by
  grind [execUartBreakEnd, modIsland_kept, Kept]

end Sys2Proof.Machine
end

