-- ==== Sys2Proof/Laws/Kept/PowerEvents.lean ====
section
/-! SUPPORT. What the operations of Machine/PowerEvents.lean keep. -/

set_option Elab.async false

namespace Sys2Proof.Machine

theorem wake_kept {k0 : State} (kind : Nat) (s : State) :
    Kept k0 s → Kept k0 (wake kind s) := by
  grind [wake, beginTransition_kept, modPower_kept, wakeStandby_kept, Kept]

theorem execWakeN_kept {k0 : State} (s : State) :
    ∀ u, execWakeN s = .next u → (Kept k0 s → Kept k0 u) := by
  grind [execWakeN, wakeIsland_kept, wake_kept, Kept]

theorem execIslandTimerWake_kept {k0 : State} (s : State) :
    ∀ u, execIslandTimerWake s = .next u → (Kept k0 s → Kept k0 u) := by
  grind [execIslandTimerWake, advanceTo_kept, modPower_kept, wakeIsland_kept, wake_kept, Kept]

theorem execVinFail_kept {k0 : State} (s : State) :
    ∀ u, execVinFail s = .next u → (Kept k0 s → Kept k0 u) := by
  grind [execVinFail, modPower_kept, trigger_kept, Kept]

theorem execPwrfailN_kept {k0 : State} (s : State) :
    ∀ u, execPwrfailN s = .next u → (Kept k0 s → Kept k0 u) := by
  grind [execPwrfailN, modPower_kept, trigger_kept, Kept]

theorem auxGone_kept {k0 : State} (s : State) :
    Kept k0 s → Kept k0 (auxGone s) := by
  intro h
  unfold auxGone
  have h1 := modPower_kept (fun p => { p with aux := false }) s h
  simp only
  split
  · exact trigger_kept _ _ h1
  · split
    · exact Kept_rest (enterStandby_kept _ h1)
    · exact Kept_rest h1

theorem execAuxLoss_kept {k0 : State} (s : State) :
    ∀ u, execAuxLoss s = .next u → (Kept k0 s → Kept k0 u) := by
  grind [execAuxLoss, auxGone_kept, Kept]

theorem execLossOfAux_kept {k0 : State} (s : State) :
    ∀ u, execLossOfAux s = .next u → (Kept k0 s → Kept k0 u) := by
  intro u h hk
  unfold execLossOfAux at h
  split at h
  · exact next_kept h (auxGone_kept _ hk)
  · exact next_kept h (Kept_rest (modPower_kept _ _ hk))

theorem execCoreWait_kept {k0 : State} (core : Nat) (s : State) :
    ∀ u, execCoreWait core s = .next u → (Kept k0 s → Kept k0 u) := by
  grind [execCoreWait, KeptIn, List.length_map, List.length_modify, List.length_set, soundJoin, soundZordin, Kept]

theorem abortOutstanding_kept {k0 : State} (src : Source) (y1 : List Outstanding) (s : State) :
    Kept k0 s → Kept k0 (abortOutstanding src y1 s) := by
  induction y1 generalizing s with
  | nil => grind [abortOutstanding, respond_kept, Kept]
  | cons a as ih => grind [abortOutstanding, respond_kept, Kept]

theorem execCorePowerOff_kept {k0 : State} (s : State) :
    ∀ u, execCorePowerOff s = .next u → (Kept k0 s → Kept k0 u) := by
  intro u h hk
  unfold execCorePowerOff at h
  split at h
  · exact next_kept h hk
  · split at h
    · exact next_kept h hk
    · refine next_kept h ?_
      refine Kept_zordin ?_ _ (.inr rfl)
      refine abortOutstanding_kept _ _ _ ?_
      refine abortOutstanding_kept _ _ _ ?_
      refine abortOutstanding_kept _ _ _ ?_
      refine endLongs_kept _ _ _ _ ?_
      refine endLongs_kept _ _ _ _ ?_
      split
      · exact hk
      · exact advanceTo_kept _ _ hk

theorem reachTarget_kept {k0 : State} (target : Nat) (s : State) :
    Kept k0 s → Kept k0 (reachTarget target s) := by
  unfold reachTarget; split <;> grind [countPower_kept, emptyQueues_kept, enterPower_kept, enterStandby_kept, modPower_kept,
    modStart_kept, openForIsland_kept, powerCueLanes_kept, resumeRun_kept, Kept]

theorem execPowerTransitionDone_kept {k0 : State} (s : State) :
    ∀ u, execPowerTransitionDone s = .next u → (Kept k0 s → Kept k0 u) := by
  grind [execPowerTransitionDone, beginTransition_kept, closeForIsland_kept, endLongs_kept, holdPlanes_kept, modPower_kept,
    reachTarget_kept, Kept]

theorem tellDeferred_kept {k0 : State} (y1 : List Nat) (s : State) :
    Kept k0 s → Kept k0 (tellDeferred y1 s) := by
  induction y1 generalizing s with
  | nil => grind [tellDeferred, raise_kept, Kept]
  | cons a as ih => grind [tellDeferred, raise_kept, Kept]

theorem execPowerDeferred_kept {k0 : State} (s : State) :
    ∀ u, execPowerDeferred s = .next u → (Kept k0 s → Kept k0 u) := by
  grind [execPowerDeferred, advanceTo_kept, countPower_kept, modPower_kept, tellDeferred_kept, Kept]

theorem execPowerStateTimeout_kept {k0 : State} (s : State) :
    ∀ u, execPowerStateTimeout s = .next u → (Kept k0 s → Kept k0 u) := by
  grind [execPowerStateTimeout, advanceTo_kept, endLongs_kept, Kept]

theorem execLaserHeaterFault_kept {k0 : State} (x : Nat) (s : State) :
    ∀ u, execLaserHeaterFault x s = .next u → (Kept k0 s → Kept k0 u) := by
  grind [execLaserHeaterFault, hold_kept, modPower_kept, Kept]

theorem execLaserHeaterFaultClear_kept {k0 : State} (x : Nat) (s : State) :
    ∀ u, execLaserHeaterFaultClear x s = .next u → (Kept k0 s → Kept k0 u) := by
  grind [execLaserHeaterFaultClear, clear_kept, modPower_kept, Kept]

theorem modDemux_kept {k0 : State} (p : Nat) (g : DemuxLoop → DemuxLoop) (s : State) :
    Kept k0 s → Kept k0 (modDemux p g s) := by
  grind [modDemux, modPower_kept, Kept]

theorem execDemuxSettled_kept {k0 : State} (plane : Nat) (s : State) :
    ∀ u, execDemuxSettled plane s = .next u → (Kept k0 s → Kept k0 u) := by
  grind [execDemuxSettled, modDemux_kept, tryWaitWindow_kept, Kept]

theorem execDemuxUnsettled_kept {k0 : State} (plane : Nat) (s : State) :
    ∀ u, execDemuxUnsettled plane s = .next u → (Kept k0 s → Kept k0 u) := by
  grind [execDemuxUnsettled, hold_kept, modDemux_kept, Kept]

theorem execDemuxSettledAgain_kept {k0 : State} (plane : Nat) (s : State) :
    ∀ u, execDemuxSettledAgain plane s = .next u → (Kept k0 s → Kept k0 u) := by
  grind [execDemuxSettledAgain, clear_kept, modDemux_kept, Kept]

theorem useCoolant_kept {k0 : State} (die : Int) (s : State) :
    Kept k0 s → Kept k0 (useCoolant die s) := by
  grind [useCoolant, modPower_kept, watchCoolant_kept, Kept]

theorem applyWatch_kept {k0 : State} (k : Nat) (s : State) :
    Kept k0 s → Kept k0 (applyWatch k s) := by
  grind [applyWatch, countThrottle_kept, holdIf_kept, modPower_kept, Kept]

theorem execCoolantCondition_kept {k0 : State} (die : Int) (s : State) :
    ∀ u, execCoolantCondition die s = .next u → (Kept k0 s → Kept k0 u) := by
  grind [execCoolantCondition, advanceTo_kept, applyWatch_kept, forEach_kept, useCoolant_kept, Kept]

theorem readJunctions_kept {k0 : State} (js : List Int) (s : State) :
    Kept k0 s → Kept k0 (readJunctions js s) := by
  grind [readJunctions, countThrottle_kept, modPower_kept, Kept]

theorem execJunctionHigh_kept {k0 : State} (readings : List Int) (s : State) :
    ∀ u, execJunctionHigh readings s = .next u → (Kept k0 s → Kept k0 u) := by
  grind [execJunctionHigh, hold_kept, modPower_kept, readJunctions_kept, Kept]

theorem execJunctionHighClear_kept {k0 : State} (readings : List Int) (s : State) :
    ∀ u, execJunctionHighClear readings s = .next u → (Kept k0 s → Kept k0 u) := by
  grind [execJunctionHighClear, clear_kept, modPower_kept, readJunctions_kept, Kept]

theorem execThermalStop_kept {k0 : State} (readings : List Int) (s : State) :
    ∀ u, execThermalStop readings s = .next u → (Kept k0 s → Kept k0 u) := by
  grind [execThermalStop, countPower_kept, raise_kept, readJunctions_kept, trigger_kept, Kept]

theorem execChargeStart_kept {k0 : State} (s : State) :
    ∀ u, execChargeStart s = .next u → (Kept k0 s → Kept k0 u) := by
  grind [execChargeStart, modStore_kept, Kept]

theorem setMissing_kept {k0 : State} (on : Bool) (s : State) :
    Kept k0 s → Kept k0 (setMissing on s) := by
  grind [setMissing, holdIf_kept, modStore_kept, Kept]

theorem setStoreFault_kept {k0 : State} (on : Bool) (s : State) :
    Kept k0 s → Kept k0 (setStoreFault on s) := by
  grind [setStoreFault, holdIf_kept, modStore_kept, Kept]

theorem execCapacitanceMeasure_kept {k0 : State} (deltaQ : Nat) (s : State) :
    ∀ u, execCapacitanceMeasure deltaQ s = .next u → (Kept k0 s → Kept k0 u) := by
  grind [execCapacitanceMeasure, modStore_kept, setMissing_kept, setStoreFault_kept, Kept]

theorem execChargeComplete_kept {k0 : State} (s : State) :
    ∀ u, execChargeComplete s = .next u → (Kept k0 s → Kept k0 u) := by
  grind [execChargeComplete, modStore_kept, setMissing_kept, setStoreFault_kept, Kept]

theorem execChargeTimeout_kept {k0 : State} (s : State) :
    ∀ u, execChargeTimeout s = .next u → (Kept k0 s → Kept k0 u) := by
  grind [execChargeTimeout, advanceTo_kept, modStore_kept, setStoreFault_kept, Kept]

theorem execGaugeReanchor_kept {k0 : State} (s : State) :
    ∀ u, execGaugeReanchor s = .next u → (Kept k0 s → Kept k0 u) := by
  grind [execGaugeReanchor, countPower_kept, modStore_kept, Kept]

theorem execGaugeSkew_kept {k0 : State} (s : State) :
    ∀ u, execGaugeSkew s = .next u → (Kept k0 s → Kept k0 u) := by
  grind [execGaugeSkew, hold_kept, modStore_kept, Kept]

theorem execGaugeSkewClear_kept {k0 : State} (s : State) :
    ∀ u, execGaugeSkewClear s = .next u → (Kept k0 s → Kept k0 u) := by
  grind [execGaugeSkewClear, clear_kept, modStore_kept, Kept]

end Sys2Proof.Machine
end

