-- ==== Sys2Proof/Laws/Kept/TimeRows.lean ====
section
/-! SUPPORT. What the operations of Machine/TimeRows.lean keep. -/

set_option Elab.async false

namespace Sys2Proof.Machine

theorem execTimeCapture_kept {k0 : State} (func : Nat) (s : State) :
    ∀ u, execTimeCapture func s = .next u → (Kept k0 s → Kept k0 u) := by
  grind [execTimeCapture, modTime_kept, Kept]

theorem execTimeTsqHiRead_kept {k0 : State} (s : State) :
    ∀ u, execTimeTsqHiRead s = .next u → (Kept k0 s → Kept k0 u) := by
  intro u h hk
  unfold execTimeTsqHiRead at h
  split at h
  · exact next_kept h hk
  · exact next_kept h (Kept_rest (popCycle_kept _ _ _ _ hk))

theorem execTsqOvfClear_kept {k0 : State} (s : State) :
    ∀ u, execTsqOvfClear s = .next u → (Kept k0 s → Kept k0 u) := by
  grind [execTsqOvfClear, modTime_kept, Kept]

theorem pushHolding_kept {k0 : State} (port : Nat) (s : State) :
    Kept k0 s → Kept k0 (pushHolding port s) := by
  grind [pushHolding, advance_kept, dropTimestamp_kept, modTime_kept, Kept]

theorem execTsqPush_kept {k0 : State} (port : Nat) (s : State) :
    ∀ u, execTsqPush port s = .next u → (Kept k0 s → Kept k0 u) := by
  grind [execTsqPush, foldl_kept, pushHolding_kept, Kept]

theorem execPpsOutPulse_kept {k0 : State} (s : State) :
    ∀ u, execPpsOutPulse s = .next u → (Kept k0 s → Kept k0 u) := by
  intro u h hk
  have h1 := advance_kept (toNextSecond s) s hk
  unfold execPpsOutPulse at h
  simp only at h
  generalize advance (toNextSecond s) s = t at h h1
  split at h
  · obtain rfl := Host.Outcome.next.inj h; exact h1
  · obtain rfl := Host.Outcome.next.inj h; exact Kept_rest h1

theorem execPpsOutFall_kept {k0 : State} (s : State) :
    ∀ u, execPpsOutFall s = .next u → (Kept k0 s → Kept k0 u) := by
  intro u h hk
  unfold execPpsOutFall at h
  split at h
  · obtain rfl := Host.Outcome.next.inj h; exact hk
  · obtain rfl := Host.Outcome.next.inj h; exact Kept_rest (advanceTo_kept _ _ hk)

theorem execPpsInEdge_kept {k0 : State} (highNs : Nat) (s : State) :
    ∀ u, execPpsInEdge highNs s = .next u → (Kept k0 s → Kept k0 u) := by
  grind [execPpsInEdge, modTime_kept, raise_kept, Kept]

theorem execPtmDialog_kept {k0 : State} (hostEnabled : Bool) (s : State) :
    ∀ u, execPtmDialog hostEnabled s = .next u → (Kept k0 s → Kept k0 u) := by
  grind [execPtmDialog, advanceTo_kept, modTime_kept, Kept]

theorem execPtmResponse_kept {k0 : State} (master : Nat) (prop : Nat) (s : State) :
    ∀ u, execPtmResponse master prop s = .next u → (Kept k0 s → Kept k0 u) := by
  grind [execPtmResponse, modTime_kept, Kept]

theorem execPtmFail_kept {k0 : State} (s : State) :
    ∀ u, execPtmFail s = .next u → (Kept k0 s → Kept k0 u) := by
  grind [execPtmFail, advanceTo_kept, modTime_kept, raise_kept, Kept]

theorem execTimeConfig_kept {k0 : State} (src : Source) (tag : Nat) (req : List Word) (s : State) :
    ∀ u, execTimeConfig src tag req s = .next u → (Kept k0 s → Kept k0 u) := by
  grind [execTimeConfig, command_kept, modTime_kept, okay_kept, refuse_kept, Kept]

theorem execTimeStatus_kept {k0 : State} (src : Source) (tag : Nat) (req : List Word) (s : State) :
    ∀ u, execTimeStatus src tag req s = .next u → (Kept k0 s → Kept k0 u) := by
  grind [execTimeStatus, clear_kept, cleared_kept, command_kept, modTime_kept, okay_kept, Kept]

theorem execTimeRead_kept {k0 : State} (src : Source) (tag : Nat) (req : List Word) (s : State) :
    ∀ u, execTimeRead src tag req s = .next u → (Kept k0 s → Kept k0 u) := by
  grind [execTimeRead, command_kept, okay_kept, Kept]

theorem execTsPortCreate_kept {k0 : State} (src : Source) (tag : Nat) (req : List Word) (s : State) :
    ∀ u, execTsPortCreate src tag req s = .next u → (Kept k0 s → Kept k0 u) := by
  grind [execTsPortCreate, command_kept, modTime_kept, okay_kept, openChan_kept, refuse_kept, Kept]

theorem endTsPort_kept {k0 : State} (i : Nat) (s : State) :
    Kept k0 s → Kept k0 (endTsPort i s) := by
  grind [endTsPort, closeChan_kept, modTime_kept, Kept]

theorem execTsPortDestroy_kept {k0 : State} (src : Source) (tag : Nat) (req : List Word) (s : State) :
    ∀ u, execTsPortDestroy src tag req s = .next u → (Kept k0 s → Kept k0 u) := by
  grind [execTsPortDestroy, command_kept, endTsPort_kept, okay_kept, withHandle_kept, Kept]

theorem execPtmConfig_kept {k0 : State} (src : Source) (tag : Nat) (req : List Word) (s : State) :
    ∀ u, execPtmConfig src tag req s = .next u → (Kept k0 s → Kept k0 u) := by
  grind [execPtmConfig, command_kept, modTime_kept, okay_kept, refuse_kept, Kept]

theorem execPtmRead_kept {k0 : State} (src : Source) (tag : Nat) (req : List Word) (s : State) :
    ∀ u, execPtmRead src tag req s = .next u → (Kept k0 s → Kept k0 u) := by
  grind [execPtmRead, command_kept, okay_kept, refuse_kept, Kept]

theorem execPpsInRead_kept {k0 : State} (src : Source) (tag : Nat) (req : List Word) (s : State) :
    ∀ u, execPpsInRead src tag req s = .next u → (Kept k0 s → Kept k0 u) := by
  grind [execPpsInRead, command_kept, okay_kept, refuse_kept, Kept]

end Sys2Proof.Machine
end

