-- ==== Sys2Proof/Laws/Kept/Registers.lean ====
section
/-! SUPPORT. What the operations of Machine/Registers.lean keep. -/

set_option Elab.async false

namespace Sys2Proof.Machine

theorem writeMbox_kept {k0 : State} (func : Nat) (offset : Nat) (value : Word) (s : State) :
    ∀ u, writeMbox func offset value s = .next u → (Kept k0 s → Kept k0 u) := by
  unfold writeMbox; grind [execMboxCmdPi_kept, execMboxDisable_kept, execMboxEnable_kept, execMboxNtfCi_kept, execMboxRspCi_kept,
    writeBase_kept, writeStat_kept, Kept]

theorem writeHq_kept {k0 : State} (func : Nat) (offset : Nat) (value : Word) (s : State) :
    ∀ u, writeHq func offset value s = .next u → (Kept k0 s → Kept k0 u) := by
  grind [writeHq, execHqCqCi_kept, execHqRxPi_kept, execHqTxPi_kept, Kept]

theorem execRegisterWrite_kept {k0 : State} (func : Nat) (offset : Nat) (value : Word) (s : State) :
    ∀ u, execRegisterWrite func offset value s = .next u → (Kept k0 s → Kept k0 u) := by
  grind [execRegisterWrite, execTimeCapture_kept, execTsqOvfClear_kept, writeHq_kept, writeMbox_kept, writeVector_kept, Kept]

end Sys2Proof.Machine
end

