-- ==== Sys2Proof/Laws/Kept/SecRows.lean ====
section
/-! SUPPORT. What the operations of Machine/SecRows.lean keep. -/

set_option Elab.async false

namespace Sys2Proof.Machine

theorem execPeerKeyCreate_kept {k0 : State} (src : Source) (tag : Nat) (req : List Word) (s : State) :
    ∀ u, execPeerKeyCreate src tag req s = .next u → (Kept k0 s → Kept k0 u) := by
  grind [execPeerKeyCreate, command_kept, openChan_kept, refuse_kept, sendOffer_kept, setAssoc_kept, startLong_kept, Kept]

theorem execPeerKeyDestroy_kept {k0 : State} (src : Source) (tag : Nat) (req : List Word) (s : State) :
    ∀ u, execPeerKeyDestroy src tag req s = .next u → (Kept k0 s → Kept k0 u) := by
  grind [execPeerKeyDestroy, command_kept, endAssoc_kept, okay_kept, withHandle_kept, Kept]

theorem execPeerKeyStatus_kept {k0 : State} (src : Source) (tag : Nat) (req : List Word) (s : State) :
    ∀ u, execPeerKeyStatus src tag req s = .next u → (Kept k0 s → Kept k0 u) := by
  grind [execPeerKeyStatus, command_kept, okay_kept, refuse_kept, Kept]

theorem execKeyRoll_kept {k0 : State} (src : Source) (tag : Nat) (req : List Word) (s : State) :
    ∀ u, execKeyRoll src tag req s = .next u → (Kept k0 s → Kept k0 u) := by
  grind [execKeyRoll, command_kept, refuse_kept, sendOffer_kept, startLong_kept, Kept]

theorem execKeyPolicy_kept {k0 : State} (src : Source) (tag : Nat) (req : List Word) (s : State) :
    ∀ u, execKeyPolicy src tag req s = .next u → (Kept k0 s → Kept k0 u) := by
  grind [execKeyPolicy, command_kept, okay_kept, refuse_kept, Kept]

theorem valueOrFree_kept {k0 : State} (v : Option Nat) (s : State) :
    Kept k0 s → Kept k0 (valueOrFree v s).2 := by
  unfold valueOrFree; grind [takeFree_kept, Kept]

theorem execSeqStatus_kept {k0 : State} (src : Source) (tag : Nat) (req : List Word) (s : State) :
    ∀ u, execSeqStatus src tag req s = .next u → (Kept k0 s → Kept k0 u) := by
  grind [execSeqStatus, command_kept, okay_kept, valueOrFree_kept, Kept]

theorem execIdentityRead_kept {k0 : State} (src : Source) (tag : Nat) (req : List Word) (s : State) :
    ∀ u, execIdentityRead src tag req s = .next u → (Kept k0 s → Kept k0 u) := by
  grind [execIdentityRead, command_kept, okay_kept, Kept]

theorem execEntropyStatus_kept {k0 : State} (src : Source) (tag : Nat) (req : List Word) (s : State) :
    ∀ u, execEntropyStatus src tag req s = .next u → (Kept k0 s → Kept k0 u) := by
  grind [execEntropyStatus, command_kept, okay_kept, Kept]

theorem execGateStatus_kept {k0 : State} (src : Source) (tag : Nat) (req : List Word) (s : State) :
    ∀ u, execGateStatus src tag req s = .next u → (Kept k0 s → Kept k0 u) := by
  grind [execGateStatus, command_kept, okay_kept, Kept]

theorem execSecCounters_kept {k0 : State} (src : Source) (tag : Nat) (req : List Word) (s : State) :
    ∀ u, execSecCounters src tag req s = .next u → (Kept k0 s → Kept k0 u) := by
  grind [execSecCounters, clear_kept, cleared_kept, command_kept, okay_kept, Kept]

end Sys2Proof.Machine
end

