-- ==== Sys2Proof/Laws/Kept/SecEvents.lean ====
section
/-! SUPPORT. What the operations of Machine/SecEvents.lean keep. -/

set_option Elab.async false

namespace Sys2Proof.Machine

theorem closeRecord_kept {k0 : State} (r : KeyRecord) (accepted : Bool) (s : State) :
    Kept k0 s → Kept k0 (closeRecord r accepted s) := by
  grind [closeRecord, countSec_kept, Kept]

theorem badSignature_kept {k0 : State} (r : KeyRecord) (s : State) :
    Kept k0 s → Kept k0 (badSignature r s) := by
  grind [badSignature, closeRecord_kept, raise_kept, Kept]

theorem answerOffer_kept {k0 : State} (i : Nat) (r : KeyRecord) (s : State) :
    Kept k0 s → Kept k0 (answerOffer i r s) := by
  intro h
  have h1 := answerRecord_kept r s h
  unfold answerOffer
  generalize answerRecord r s = x at h1 ⊢
  exact installEpoch_kept _ _ _ (closeRecord_kept _ _ _ (sendRecord_kept _ _ _ _ _ (Kept_rest h1)))

theorem offerTo_kept {k0 : State} (i : Nat) (r : KeyRecord) (s : State) :
    Kept k0 s → Kept k0 (offerTo i r s) := by
  grind [offerTo, answerOffer_kept, closeRecord_kept, setAssoc_kept, Kept]

theorem takeOffer_kept {k0 : State} (r : KeyRecord) (s : State) :
    Kept k0 s → Kept k0 (takeOffer r s) := by
  grind [takeOffer, closeRecord_kept, offerTo_kept, openChan_kept, setAssoc_kept, Kept]

theorem answerTo_kept {k0 : State} (i : Nat) (r : KeyRecord) (s : State) :
    Kept k0 s → Kept k0 (answerTo i r s) := by
  grind [answerTo, closeRecord_kept, concludeOffer_kept, countSec_kept, sendOffer_kept, setAssoc_kept, Kept]

theorem takeAnswer_kept {k0 : State} (r : KeyRecord) (s : State) :
    Kept k0 s → Kept k0 (takeAnswer r s) := by
  grind [takeAnswer, answerTo_kept, closeRecord_kept, Kept]

theorem takeHubAnswer_kept {k0 : State} (r : KeyRecord) (s : State) :
    Kept k0 s → Kept k0 (takeHubAnswer r s) := by
  grind [takeHubAnswer, answerTo_kept, closeRecord_kept, installEpoch_kept, Kept]

theorem takeGroupKey_kept {k0 : State} (r : KeyRecord) (s : State) :
    Kept k0 s → Kept k0 (takeGroupKey r s) := by
  grind [takeGroupKey, closeRecord_kept, installEpoch_kept, unwrapUnder_kept, Kept]

theorem processRecord_kept {k0 : State} (r : KeyRecord) (s : State) :
    Kept k0 s → Kept k0 (processRecord r s) := by
  grind [processRecord, takeAnswer_kept, takeGroupKey_kept, takeHubAnswer_kept, takeOffer_kept, Kept]

theorem handleRecord_kept {k0 : State} (kind : Nat) (fromTn : Nat) (recId : Nat) (s : State) :
    ∀ u, handleRecord kind fromTn recId s = .next u → (Kept k0 s → Kept k0 u) := by
  grind [handleRecord, badSignature_kept, processRecord_kept, Kept]

theorem execOffer_kept {k0 : State} (fromTn : Nat) (recId : Nat) (s : State) :
    ∀ u, execOffer fromTn recId s = .next u → (Kept k0 s → Kept k0 u) := by
  grind [execOffer, handleRecord_kept, Kept]

theorem execAnswer_kept {k0 : State} (fromTn : Nat) (recId : Nat) (s : State) :
    ∀ u, execAnswer fromTn recId s = .next u → (Kept k0 s → Kept k0 u) := by
  grind [execAnswer, handleRecord_kept, Kept]

theorem execHubAnswer_kept {k0 : State} (fromTn : Nat) (recId : Nat) (s : State) :
    ∀ u, execHubAnswer fromTn recId s = .next u → (Kept k0 s → Kept k0 u) := by
  grind [execHubAnswer, handleRecord_kept, Kept]

theorem execGroupKey_kept {k0 : State} (fromTn : Nat) (recId : Nat) (s : State) :
    ∀ u, execGroupKey fromTn recId s = .next u → (Kept k0 s → Kept k0 u) := by
  grind [execGroupKey, handleRecord_kept, Kept]

theorem joinSegment_kept {k0 : State} (g : Segment) (s : State) :
    Kept k0 s → Kept k0 (joinSegment g s) := by
  grind [joinSegment, Kept]

theorem execKeySeg_kept {k0 : State} (msg : StageMsg) (s : State) :
    ∀ u, execKeySeg msg s = .next u → (Kept k0 s → Kept k0 u) := by
  grind [execKeySeg, countSec_kept, handleMsg_kept, joinSegment_kept, Kept]

theorem execKeyRecordTimeout_kept {k0 : State} (fromTn : Nat) (recId : Nat) (s : State) :
    ∀ u, execKeyRecordTimeout fromTn recId s = .next u → (Kept k0 s → Kept k0 u) := by
  intro u h hk
  unfold execKeyRecordTimeout at h
  split at h
  · obtain rfl := Host.Outcome.next.inj h; exact hk
  · obtain rfl := Host.Outcome.next.inj h; exact Kept_rest (toSlot_kept _ _ hk)

theorem execKeyEpochErase_kept {k0 : State} (key : Nat) (s : State) :
    ∀ u, execKeyEpochErase key s = .next u → (Kept k0 s → Kept k0 u) := by
  grind [execKeyEpochErase, modKey_kept, toSlot_kept, Kept]

theorem rollSelfKey_kept {k0 : State} (s : State) :
    Kept k0 s → Kept k0 (rollSelfKey s) := by
  grind [rollSelfKey, chooseActivation_kept, drawSelfEpoch_kept, Kept]

theorem execKeyRollInterval_kept {k0 : State} (key : Nat) (s : State) :
    ∀ u, execKeyRollInterval key s = .next u → (Kept k0 s → Kept k0 u) := by
  grind [execKeyRollInterval, rollSelfKey_kept, sendOffer_kept, toSlot_kept, Kept]

theorem execTAns_kept {k0 : State} (assoc : Nat) (s : State) :
    ∀ u, execTAns assoc s = .next u → (Kept k0 s → Kept k0 u) := by
  grind [execTAns, endKeyCommand_kept, raise_kept, sendOffer_kept, setAssoc_kept, toSlot_kept, Kept]

theorem execWithdrawnReoffer_kept {k0 : State} (assoc : Nat) (s : State) :
    ∀ u, execWithdrawnReoffer assoc s = .next u → (Kept k0 s → Kept k0 u) := by
  grind [execWithdrawnReoffer, sendOffer_kept, setAssoc_kept, toSlot_kept, Kept]

theorem execEntropyFail_kept {k0 : State} (s : State) :
    ∀ u, execEntropyFail s = .next u → (Kept k0 s → Kept k0 u) := by
  grind [execEntropyFail, hold_kept, Kept]

theorem resumeOffer_kept {k0 : State} (i : Nat) (s : State) :
    Kept k0 s → Kept k0 (resumeOffer i s) := by
  grind [resumeOffer, makeIdentity_kept, sendOffer_kept, Kept]

theorem resumeDraw_kept {k0 : State} (s : State) :
    Kept k0 s → Kept k0 (resumeDraw s) := by
  grind [resumeDraw, drawDelay_kept, Kept]

theorem resumeAgreement_kept {k0 : State} (s : State) :
    Kept k0 s → Kept k0 (resumeAgreement s) := by
  grind [resumeAgreement, drawSelfKey_kept, foldl_kept, forEach_kept, processRecord_kept, resumeDraw_kept, resumeOffer_kept, Kept]

theorem execEntropyRetest_kept {k0 : State} (passed : Bool) (s : State) :
    ∀ u, execEntropyRetest passed s = .next u → (Kept k0 s → Kept k0 u) := by
  intro u h hk
  unfold execEntropyRetest at h
  split at h
  · exact next_kept h hk
  · have h1 : Kept k0 (if s.sec.entropy = .failed then advanceTo (s.sec.testedAt + 1000 * msCc) s else s) := by
      split
      · exact advanceTo_kept _ _ hk
      · exact hk
    simp only at h
    split at h
    · exact next_kept h (resumeAgreement_kept _ (clear_kept _ _ _ _ _ (reseed_kept _ (Kept_rest h1))))
    · exact next_kept h (hold_kept _ _ _ _ _ _ (Kept_rest h1))

theorem execDrbgReseed_kept {k0 : State} (s : State) :
    ∀ u, execDrbgReseed s = .next u → (Kept k0 s → Kept k0 u) := by
  grind [execDrbgReseed, advanceTo_kept, reseed_kept, Kept]

theorem execDebugAuthorisation_kept {k0 : State} (serial : Nat) (signatureOk : Bool) (s : State) :
    ∀ u, execDebugAuthorisation serial signatureOk s = .next u → (Kept k0 s → Kept k0 u) := by
  grind [execDebugAuthorisation, eraseKeys_kept, raise_kept, Kept]

theorem execFirewallAccess_kept {k0 : State} (secure : Bool) (initiator : Nat) (write : Bool) (bar : Bool) (addr : Nat) (len :
    Nat) (s : State) :
    ∀ u, execFirewallAccess secure initiator write bar addr len s = .next u → (Kept k0 s → Kept k0 u) := by
  grind [execFirewallAccess, countSec_kept, raise_kept, Kept]

theorem applyRuleWrite_kept {k0 : State} (s : State) :
    Kept k0 s → Kept k0 (applyRuleWrite s) := by
  grind [applyRuleWrite, Kept]

theorem execFwRuleWrite_kept {k0 : State} (rule : Nat) (base : Word) (limit : Word) (flags : Word) (s : State) :
    ∀ u, execFwRuleWrite rule base limit flags s = .next u → (Kept k0 s → Kept k0 u) := by
  grind [execFwRuleWrite, applyRuleWrite_kept, Kept]

theorem execFirewallDrain_kept {k0 : State} (completed : Nat) (s : State) :
    ∀ u, execFirewallDrain completed s = .next u → (Kept k0 s → Kept k0 u) := by
  intro u h hk
  unfold execFirewallDrain at h
  split at h
  · exact next_kept h hk
  · refine next_kept h (applyRuleWrite_kept _ (Kept_rest (countSec_kept _ _ _ ?_)))
    split
    · exact advanceTo_kept _ _ hk
    · exact hk

end Sys2Proof.Machine
end

