-- ==== Sys2Proof/Laws/Kept/Servo.lean ====
section
/-! SUPPORT. What the operations of Machine/Servo.lean keep. -/

set_option Elab.async false

namespace Sys2Proof.Machine

theorem stepEvent_kept {k0 : State} (v : Int) (s : State) :
    Kept k0 s → Kept k0 (stepEvent v s) := by
  grind [stepEvent, modTime_kept, raise_kept, Kept]

theorem servoAct_kept {k0 : State} (a : ServoAction) (s : State) :
    Kept k0 s → Kept k0 (servoAct a s).2 := by
  intro h
  cases a with
  | stay => exact h
  | begin_ x => exact Kept_rest h
  | switchTo x => unfold servoAct; exact raise_kept _ _ _ _ _ _ (modTime_kept _ _ h)
  | holdOver => unfold servoAct; exact hold_kept _ _ _ _ _ _ (modTime_kept _ _ h)
  | step => unfold servoAct; exact stepEvent_kept _ _ (Kept_rest h)
  | recover x =>
    unfold servoAct
    simp only
    split
    · exact stepEvent_kept _ _ (Kept_rest (clear_kept _ _ _ _ _ (Kept_rest h)))
    · exact clear_kept _ _ _ _ _ (Kept_rest h)

theorem outlierEvents_kept {k0 : State} (s : State) :
    Kept k0 s → Kept k0 (outlierEvents s) := by
  grind [outlierEvents, List.length_map, List.length_modify, List.length_set, forEach_kept, holdIf_kept, Kept]

theorem divergeEvent_kept {k0 : State} (s : State) :
    Kept k0 s → Kept k0 (divergeEvent s) := by
  grind [divergeEvent, clear_kept, hold_kept, modTime_kept, Kept]

theorem restartMeasure_kept {k0 : State} (s : State) :
    Kept k0 s → Kept k0 (restartMeasure s) := by
  grind [restartMeasure, List.length_map, List.length_modify, List.length_set, foldl_kept, modTime_kept, Kept]

theorem steerBy_kept {k0 : State} (v : Int) (s : State) :
    Kept k0 s → Kept k0 (steerBy v s) := by
  grind [steerBy, KeptIn, restartMeasure_kept, soundJoin, soundZordin, Kept]

theorem execServoUpdate_kept {k0 : State} (s : State) :
    ∀ u, execServoUpdate s = .next u → (Kept k0 s → Kept k0 u) := by
  intro u h hk
  refine next_kept h ?_
  refine steerBy_kept _ _ ?_
  refine servoAct_kept _ _ ?_
  refine divergeEvent_kept _ ?_
  refine outlierEvents_kept _ ?_
  exact modTime_kept _ _ (toSlot_kept _ _ hk)

end Sys2Proof.Machine
end

