-- ==== Sys2Proof/Laws/Kept/TileEvents.lean ====
section
/-! SUPPORT. What the operations of Machine/TileEvents.lean keep. -/

set_option Elab.async false

namespace Sys2Proof.Machine

theorem modTile_kept {k0 : State} (t : Nat) (g : Tile → Tile) (s : State) :
    Kept k0 s → Kept k0 (modTile t g s) := by
  grind [modTile, Kept]

theorem execTileLinkLost_kept {k0 : State} (tile : Nat) (s : State) :
    ∀ u, execTileLinkLost tile s = .next u → (Kept k0 s → Kept k0 u) := by
  grind [execTileLinkLost, forEach_kept, hold_kept, modTile_kept, powerOffTx_kept, Kept]

theorem execTileDegraded_kept {k0 : State} (tile : Nat) (s : State) :
    ∀ u, execTileDegraded tile s = .next u → (Kept k0 s → Kept k0 u) := by
  grind [execTileDegraded, hold_kept, Kept]

theorem execTileDegradedClear_kept {k0 : State} (tile : Nat) (s : State) :
    ∀ u, execTileDegradedClear tile s = .next u → (Kept k0 s → Kept k0 u) := by
  grind [execTileDegradedClear, clear_kept, Kept]

theorem threeFailed_kept {k0 : State} (tile : Nat) (n : Nat) (s : State) :
    Kept k0 s → Kept k0 (threeFailed tile n s) := by
  grind [threeFailed, hold_kept, modTile_kept, Kept]

theorem execTileRetrain_kept {k0 : State} (tile : Nat) (trained : Bool) (s : State) :
    ∀ u, execTileRetrain tile trained s = .next u → (Kept k0 s → Kept k0 u) := by
  grind [execTileRetrain, advanceTo_kept, clear_kept, modTile_kept, raise_kept, threeFailed_kept, Kept]

end Sys2Proof.Machine
end

