-- ==== Sys2Proof/Laws/Kept/TribRows.lean ====
section
/-! SUPPORT. What the operations of Machine/TribRows.lean keep. -/

set_option Elab.async false

namespace Sys2Proof.Machine

theorem execTribGroupCreate_kept {k0 : State} (src : Source) (tag : Nat) (req : List Word) (s : State) :
    ∀ u, execTribGroupCreate src tag req s = .next u → (Kept k0 s → Kept k0 u) := by
  grind [execTribGroupCreate, command_kept, modGroup_kept, okay_kept, openGroup_kept, refuse_kept, Kept]

theorem execTribCreate_kept {k0 : State} (src : Source) (tag : Nat) (req : List Word) (s : State) :
    ∀ u, execTribCreate src tag req s = .next u → (Kept k0 s → Kept k0 u) := by
  grind [execTribCreate, carryPort_kept, command_kept, modTrib_kept, okay_kept, openChan_kept, refuse_kept, Kept]

theorem execTribDestroy_kept {k0 : State} (src : Source) (tag : Nat) (req : List Word) (s : State) :
    ∀ u, execTribDestroy src tag req s = .next u → (Kept k0 s → Kept k0 u) := by
  grind [execTribDestroy, carryPort_kept, clear_kept, closeChan_kept, command_kept, modExpress_kept, okay_kept, refuse_kept,
    withHandle_kept, Kept]

theorem execWingsWrite_kept {k0 : State} (src : Source) (tag : Nat) (req : List Word) (s : State) :
    ∀ u, execWingsWrite src tag req s = .next u → (Kept k0 s → Kept k0 u) := by
  grind [execWingsWrite, command_kept, modExpress_kept, okay_kept, refuse_kept, Kept]

theorem execPageRead_kept {k0 : State} (src : Source) (tag : Nat) (req : List Word) (s : State) :
    ∀ u, execPageRead src tag req s = .next u → (Kept k0 s → Kept k0 u) := by
  grind [execPageRead, command_kept, okay_kept, refuse_kept, Kept]

theorem execWingsCopy_kept {k0 : State} (src : Source) (tag : Nat) (req : List Word) (s : State) :
    ∀ u, execWingsCopy src tag req s = .next u → (Kept k0 s → Kept k0 u) := by
  grind [execWingsCopy, command_kept, modExpress_kept, okay_kept, refuse_kept, Kept]

theorem execPageSwap_kept {k0 : State} (src : Source) (tag : Nat) (req : List Word) (s : State) :
    ∀ u, execPageSwap src tag req s = .next u → (Kept k0 s → Kept k0 u) := by
  grind [execPageSwap, command_kept, modExpress_kept, okay_kept, refuse_kept, Kept]

theorem execPageSwapped_kept {k0 : State} (s : State) :
    ∀ u, execPageSwapped s = .next u → (Kept k0 s → Kept k0 u) := by
  grind [execPageSwapped, foldl_kept, modExpress_kept, raise_kept, toSlot_kept, Kept]

end Sys2Proof.Machine
end

