-- ==== Sys2Proof/Laws/Kept/TxRows.lean ====
section
/-! SUPPORT. What the operations of Machine/TxRows.lean keep. -/

set_option Elab.async false

namespace Sys2Proof.Machine

theorem execTxStatus_kept {k0 : State} (src : Source) (tag : Nat) (req : List Word) (s : State) :
    ∀ u, execTxStatus src tag req s = .next u → (Kept k0 s → Kept k0 u) := by
  grind [execTxStatus, command_kept, okay_kept, refuse_kept, Kept]

theorem serviceOut_kept {k0 : State} (x : Nat) (s : State) :
    Kept k0 s → Kept k0 (serviceOut x s).2 := by
  grind [serviceOut, awaitChange_kept, okay_kept, refuse_kept, Kept]

theorem serviceIn_kept {k0 : State} (x : Nat) (s : State) :
    Kept k0 s → Kept k0 (serviceIn x s).2 := by
  intro h
  unfold serviceIn
  simp only
  split
  · split
    · exact awaitChange_kept _ _ _ h
    · exact h
  · split
    · split
      · exact h
      · exact awaitChange_kept _ _ _ h
    · exact h

theorem execTxService_kept {k0 : State} (src : Source) (tag : Nat) (req : List Word) (s : State) :
    ∀ u, execTxService src tag req s = .next u → (Kept k0 s → Kept k0 u) := by
  grind [execTxService, command_kept, serviceIn_kept, serviceOut_kept, Kept]

theorem execTxCounters_kept {k0 : State} (src : Source) (tag : Nat) (req : List Word) (s : State) :
    ∀ u, execTxCounters src tag req s = .next u → (Kept k0 s → Kept k0 u) := by
  grind [execTxCounters, clear_kept, cleared_kept, command_kept, modTx_kept, okay_kept, Kept]

theorem execTuneTableRead_kept {k0 : State} (src : Source) (tag : Nat) (req : List Word) (s : State) :
    ∀ u, execTuneTableRead src tag req s = .next u → (Kept k0 s → Kept k0 u) := by
  grind [execTuneTableRead, command_kept, okay_kept, refuse_kept, Kept]

theorem execTxConfig_kept {k0 : State} (src : Source) (tag : Nat) (req : List Word) (s : State) :
    ∀ u, execTxConfig src tag req s = .next u → (Kept k0 s → Kept k0 u) := by
  grind [execTxConfig, command_kept, okay_kept, refuse_kept, Kept]

theorem execTrimReset_kept {k0 : State} (src : Source) (tag : Nat) (req : List Word) (s : State) :
    ∀ u, execTrimReset src tag req s = .next u → (Kept k0 s → Kept k0 u) := by
  grind [execTrimReset, command_kept, modTx_kept, okay_kept, Kept]

theorem execTableLoad_kept {k0 : State} (x : Nat) (checkOk : Bool) (s : State) :
    ∀ u, execTableLoad x checkOk s = .next u → (Kept k0 s → Kept k0 u) := by
  grind [execTableLoad, awaitChange_kept, Kept]

theorem maybeReady_kept {k0 : State} (x : Nat) (s : State) :
    Kept k0 s → Kept k0 (maybeReady x s) := by
  grind [maybeReady, awaitChange_kept, Kept]

theorem execPedestalSettled_kept {k0 : State} (x : Nat) (s : State) :
    ∀ u, execPedestalSettled x s = .next u → (Kept k0 s → Kept k0 u) := by
  grind [execPedestalSettled, maybeReady_kept, modTx_kept, Kept]

theorem execPedestalUnsettled_kept {k0 : State} (x : Nat) (s : State) :
    ∀ u, execPedestalUnsettled x s = .next u → (Kept k0 s → Kept k0 u) := by
  grind [execPedestalUnsettled, awaitChange_kept, modTx_kept, Kept]

theorem execTrimCheckpoint_kept {k0 : State} (s : State) :
    ∀ u, execTrimCheckpoint s = .next u → (Kept k0 s → Kept k0 u) := by
  grind [execTrimCheckpoint, Kept]

theorem execTileLaserCut_kept {k0 : State} (x : Nat) (stillHigh : Bool) (s : State) :
    ∀ u, execTileLaserCut x stillHigh s = .next u → (Kept k0 s → Kept k0 u) := by
  grind [execTileLaserCut, advanceTo_kept, cutTx_kept, forEach_kept, modTx_kept, Kept]

theorem recalibrate_kept {k0 : State} (sfn : Nat) (x : Nat) (s : State) :
    Kept k0 s → Kept k0 (recalibrate sfn x s) := by
  grind [recalibrate, awaitChange_kept, modTx_kept, raise_kept, Kept]

theorem execRecalibration_kept {k0 : State} (sfn : Nat) (s : State) :
    ∀ u, execRecalibration sfn s = .next u → (Kept k0 s → Kept k0 u) := by
  intro u h hk
  unfold execRecalibration at h
  simp only at h
  obtain rfl := Host.Outcome.next.inj h
  refine Kept_rest ?_
  split
  · exact forEach_kept _ _ _ (fun i s h => recalibrate_kept _ _ _ h) hk
  · exact hk

theorem execDriftSupervision_kept {k0 : State} (plane : Nat) (s : State) :
    ∀ u, execDriftSupervision plane s = .next u → (Kept k0 s → Kept k0 u) := by
  intro u h hk
  unfold execDriftSupervision at h
  split at h
  · exact next_kept h hk
  · simp only at h
    have h1 := fun b => holdIf_kept b 0x020B (srcPlane plane 5) .minor 0 0 s hk
    split at h
    · refine next_kept h (forEach_kept _ _ _ (fun i s h => ?_) (Kept_rest (h1 _)))
      split
      · exact awaitChange_kept _ _ _ h
      · exact h
    · split at h
      · exact next_kept h (Kept_rest (h1 _))
      · exact next_kept h (returnDrifted_kept _ _ (Kept_rest (h1 _)))

end Sys2Proof.Machine
end

