-- ==== Sys2Proof/Laws/Kept/Tune.lean ====
section
/-! SUPPORT. What the operations of Machine/Tune.lean keep. -/

set_option Elab.async false

namespace Sys2Proof.Machine

theorem retune_kept {k0 : State} (x : Nat) (w : Nat) (lowFrom : Nat) (lowTo : Nat) (s : State) :
    Kept k0 s → Kept k0 (retune x w lowFrom lowTo s) := by
  grind [retune, modTx_kept, Kept]

theorem guardRetune_kept {k0 : State} (x : Nat) (w : Nat) (at_ : Nat) (s : State) :
    Kept k0 s → Kept k0 (guardRetune x w at_ s) := by
  grind [guardRetune, retune_kept, Kept]

theorem refusedRetune_kept {k0 : State} (x : Nat) (at_ : Nat) (s : State) :
    Kept k0 s → Kept k0 (refusedRetune x at_ s) := by
  grind [refusedRetune, retune_kept, Kept]

theorem failLater_kept {k0 : State} (x : Nat) (r : TxReason) (s : State) :
    Kept k0 s → Kept k0 (failLater x r s) := by
  grind [failLater, awaitChange_kept, Kept]

theorem endBurst_kept {k0 : State} (x : Nat) (powerLow : Bool) (s : State) :
    Kept k0 s → Kept k0 (endBurst x powerLow s) := by
  grind [endBurst, failLater_kept, modTx_kept, txBoundary_kept, Kept]

theorem darkCheck_kept {k0 : State} (x : Nat) (high : Bool) (s : State) :
    Kept k0 s → Kept k0 (darkCheck x high s) := by
  grind [darkCheck, cutTx_kept, maybeReady_kept, modTx_kept, Kept]

theorem refuseBurst_kept {k0 : State} (x : Nat) (b : Burst) (s : State) :
    Kept k0 s → Kept k0 (refuseBurst x b s) := by
  grind [refuseBurst, countDark_kept, dropSelected_kept, modTx_kept, refusedRetune_kept, Kept]

theorem tellDark_kept {k0 : State} (x : Nat) (b : Burst) (s : State) :
    Kept k0 s → Kept k0 (tellDark x b s) := by
  grind [tellDark, raise_kept, Kept]

theorem lockerMiss_kept {k0 : State} (x : Nat) (b : Burst) (s : State) :
    Kept k0 s → Kept k0 (lockerMiss x b s) := by
  grind (splits := 30) (gen := 20) (ematch := 20) [lockerMiss, countTx_kept, failLater_kept, modTx_kept, raise_kept,
    refuseBurst_kept, retune_kept, tellDark_kept, Kept]

theorem sendSelection_kept {k0 : State} (x : Nat) (s : State) :
    Kept k0 s → Kept k0 (sendSelection x s) := by
  grind [sendSelection, forEach_kept, modTx_kept, ownerDone_kept, Kept]

theorem sentEffects_kept {k0 : State} (x : Nat) (b : Burst) (s : State) :
    Kept k0 s → Kept k0 (sentEffects x b s) := by
  grind [sentEffects, containerSent_kept, countGrant_kept, countTx_kept, sendSelection_kept, setLastReport_kept, Kept]

theorem sendBurst_kept {k0 : State} (x : Nat) (b : Burst) (s : State) :
    Kept k0 s → Kept k0 (sendBurst x b s) := by
  intro h
  unfold sendBurst
  exact sentEffects_kept _ _ _ (Kept_rest (emitBurst_kept _ _ (countTx_kept _ _ _ _ (modTx_kept _ _ _ h))))

theorem gateBurst_kept {k0 : State} (x : Nat) (b : Burst) (mv : Int) (ma : Int) (s : State) :
    Kept k0 s → Kept k0 (gateBurst x b mv ma s) := by
  grind [gateBurst, countPower_kept, fastReading_kept, modPower_kept, refuseBurst_kept, sendBurst_kept, Kept]

theorem tuneBurst_kept {k0 : State} (x : Nat) (lockerMHz : Int) (mv : Int) (ma : Int) (b : Burst) (s : State) :
    Kept k0 s → Kept k0 (tuneBurst x lockerMHz mv ma b s) := by
  grind [tuneBurst, advanceTo_kept, gateBurst_kept, guardRetune_kept, lockerMiss_kept, modTx_kept, refuseBurst_kept,
    tellDark_kept, Kept]

theorem execTuneSequence_kept {k0 : State} (x : Nat) (lockerMHz : Int) (guardHigh : Bool) (powerLow : Bool) (holdMv : Int)
    (holdMa : Int) (s : State) :
    ∀ u, execTuneSequence x lockerMHz guardHigh powerLow holdMv holdMa s = .next u → (Kept k0 s → Kept k0 u) := by
  grind [execTuneSequence, darkCheck_kept, endBurst_kept, guardRetune_kept, tuneBurst_kept, txBoundary_kept, Kept]

end Sys2Proof.Machine
end

