-- ==== Sys2Proof/Laws/Exec.lean ====
section
/-! SUPPORT. What the meaning of every command keeps, one arm per command. -/

set_option Elab.async false

namespace Sys2Proof.Machine

/-- Every command keeps the queue, what manufacture has set, the direction of time, and soundness. -/
theorem exec_kept {k0 : State} (i : Instr) (s : State) (hk : Kept k0 s) : ∀ u, exec i s = .next u → Kept k0 u := by
  intro u h
  match i with
  | .identity src tag req => exact execIdentity_kept src tag req s u h hk
  | .echo src tag req => exact execEcho_kept src tag req s u h hk
  | .handleInfo src tag req => exact execHandleInfo_kept src tag req s u h hk
  | .handleList src tag req => exact execHandleList_kept src tag req s u h hk
  | .schedStatus src tag req => exact execSchedStatus_kept src tag req s u h hk
  | .funcStatus src tag req => exact execFuncStatus_kept src tag req s u h hk
  | .joinConfig src tag req => exact execJoinConfig_kept src tag req s u h hk
  | .joinStart src tag req => exact execJoinStart_kept src tag req s u h hk
  | .joinStatus src tag req => exact execJoinStatus_kept src tag req s u h hk
  | .asymSet src tag req => exact execAsymSet_kept src tag req s u h hk
  | .planeHold src tag req => exact execPlaneHold_kept src tag req s u h hk
  | .joinLeave src tag req => exact execJoinLeave_kept src tag req s u h hk
  | .ownershipStatus src tag req => exact execOwnershipStatus_kept src tag req s u h hk
  | .joinCounters src tag req => exact execJoinCounters_kept src tag req s u h hk
  | .grantView src tag req => exact execGrantView_kept src tag req s u h hk
  | .standingRead src tag req => exact execStandingRead_kept src tag req s u h hk
  | .reportConfig src tag req => exact execReportConfig_kept src tag req s u h hk
  | .grantCounters src tag req => exact execGrantCounters_kept src tag req s u h hk
  | .txStatus src tag req => exact execTxStatus_kept src tag req s u h hk
  | .txService src tag req => exact execTxService_kept src tag req s u h hk
  | .txCounters src tag req => exact execTxCounters_kept src tag req s u h hk
  | .tuneTableRead src tag req => exact execTuneTableRead_kept src tag req s u h hk
  | .txConfig src tag req => exact execTxConfig_kept src tag req s u h hk
  | .trimReset src tag req => exact execTrimReset_kept src tag req s u h hk
  | .rxLaneStatus src tag req => exact execRxLaneStatus_kept src tag req s u h hk
  | .rxCounters src tag req => exact execRxCounters_kept src tag req s u h hk
  | .rxSenderStats src tag req => exact execRxSenderStats_kept src tag req s u h hk
  | .rxMembership src tag req => exact execRxMembership_kept src tag req s u h hk
  | .rxLedgerTap src tag req => exact execRxLedgerTap_kept src tag req s u h hk
  | .rxCueCounters src tag req => exact execRxCueCounters_kept src tag req s u h hk
  | .groupCreate src tag req => exact execGroupCreate_kept src tag req s u h hk
  | .groupDestroy src tag req => exact execGroupDestroy_kept src tag req s u h hk
  | .groupStatus src tag req => exact execGroupStatus_kept src tag req s u h hk
  | .groupResize src tag req => exact execGroupResize_kept src tag req s u h hk
  | .pairCreate src tag req => exact execPairCreate_kept src tag req s u h hk
  | .pairDestroy src tag req => exact execPairDestroy_kept src tag req s u h hk
  | .protectRequest src tag req => exact execProtectRequest_kept src tag req s u h hk
  | .groupCounters src tag req => exact execGroupCounters_kept src tag req s u h hk
  | .lanePlacementRead src tag req => exact execLanePlacementRead_kept src tag req s u h hk
  | .tribGroupCreate src tag req => exact execTribGroupCreate_kept src tag req s u h hk
  | .tribCreate src tag req => exact execTribCreate_kept src tag req s u h hk
  | .tribDestroy src tag req => exact execTribDestroy_kept src tag req s u h hk
  | .wingsWrite src tag req => exact execWingsWrite_kept src tag req s u h hk
  | .pageRead src tag req => exact execPageRead_kept src tag req s u h hk
  | .wingsCopy src tag req => exact execWingsCopy_kept src tag req s u h hk
  | .pageSwap src tag req => exact execPageSwap_kept src tag req s u h hk
  | .portConfig src tag req => exact execPortConfig_kept src tag req s u h hk
  | .portStatus src tag req => exact execPortStatus_kept src tag req s u h hk
  | .portCounters src tag req => exact execPortCounters_kept src tag req s u h hk
  | .graphCreate src tag req => exact execGraphCreate_kept src tag req s u h hk
  | .nodeWrite src tag req => exact execNodeWrite_kept src tag req s u h hk
  | .rulesetCreate src tag req => exact execRulesetCreate_kept src tag req s u h hk
  | .ruleWrite src tag req => exact execRuleWrite_kept src tag req s u h hk
  | .rulesetParam src tag req => exact execRulesetParam_kept src tag req s u h hk
  | .classifyActivate src tag req => exact execClassifyActivate_kept src tag req s u h hk
  | .classifyDestroy src tag req => exact execClassifyDestroy_kept src tag req s u h hk
  | .fibInsert src tag req => exact execFibInsert_kept src tag req s u h hk
  | .fibDelete src tag req => exact execFibDelete_kept src tag req s u h hk
  | .fibRead src tag req => exact execFibRead_kept src tag req s u h hk
  | .indirectionWrite src tag req => exact execIndirectionWrite_kept src tag req s u h hk
  | .slowPathConfig src tag req => exact execSlowPathConfig_kept src tag req s u h hk
  | .classifyCounters src tag req => exact execClassifyCounters_kept src tag req s u h hk
  | .flowBindCreate src tag req => exact execFlowBindCreate_kept src tag req s u h hk
  | .flowBindDestroy src tag req => exact execFlowBindDestroy_kept src tag req s u h hk
  | .flowBindStatus src tag req => exact execFlowBindStatus_kept src tag req s u h hk
  | .voqConfig src tag req => exact execVoqConfig_kept src tag req s u h hk
  | .voqStatus src tag req => exact execVoqStatus_kept src tag req s u h hk
  | .meterCreate src tag req => exact execMeterCreate_kept src tag req s u h hk
  | .meterDestroy src tag req => exact execMeterDestroy_kept src tag req s u h hk
  | .shaperAttach src tag req => exact execShaperAttach_kept src tag req s u h hk
  | .egressConfig src tag req => exact execEgressConfig_kept src tag req s u h hk
  | .mcastCreate src tag req => exact execMcastCreate_kept src tag req s u h hk
  | .mcastPorts src tag req => exact execMcastPorts_kept src tag req s u h hk
  | .mcastDestroy src tag req => exact execMcastDestroy_kept src tag req s u h hk
  | .poolCreate src tag req => exact execPoolCreate_kept src tag req s u h hk
  | .poolDestroy src tag req => exact execPoolDestroy_kept src tag req s u h hk
  | .poolStatus src tag req => exact execPoolStatus_kept src tag req s u h hk
  | .bufAlloc src tag req => exact execBufAlloc_kept src tag req s u h hk
  | .bufFree src tag req => exact execBufFree_kept src tag req s u h hk
  | .queueCounters src tag req => exact execQueueCounters_kept src tag req s u h hk
  | .peerKeyCreate src tag req => exact execPeerKeyCreate_kept src tag req s u h hk
  | .peerKeyDestroy src tag req => exact execPeerKeyDestroy_kept src tag req s u h hk
  | .peerKeyStatus src tag req => exact execPeerKeyStatus_kept src tag req s u h hk
  | .keyRoll src tag req => exact execKeyRoll_kept src tag req s u h hk
  | .keyPolicy src tag req => exact execKeyPolicy_kept src tag req s u h hk
  | .seqStatus src tag req => exact execSeqStatus_kept src tag req s u h hk
  | .identityRead src tag req => exact execIdentityRead_kept src tag req s u h hk
  | .entropyStatus src tag req => exact execEntropyStatus_kept src tag req s u h hk
  | .gateStatus src tag req => exact execGateStatus_kept src tag req s u h hk
  | .secCounters src tag req => exact execSecCounters_kept src tag req s u h hk
  | .timeConfig src tag req => exact execTimeConfig_kept src tag req s u h hk
  | .timeStatus src tag req => exact execTimeStatus_kept src tag req s u h hk
  | .timeRead src tag req => exact execTimeRead_kept src tag req s u h hk
  | .tsPortCreate src tag req => exact execTsPortCreate_kept src tag req s u h hk
  | .tsPortDestroy src tag req => exact execTsPortDestroy_kept src tag req s u h hk
  | .ptmConfig src tag req => exact execPtmConfig_kept src tag req s u h hk
  | .ptmRead src tag req => exact execPtmRead_kept src tag req s u h hk
  | .ppsInRead src tag req => exact execPpsInRead_kept src tag req s u h hk
  | .qpCreate src tag req => exact execQpCreate_kept src tag req s u h hk
  | .qpDestroy src tag req => exact execQpDestroy_kept src tag req s u h hk
  | .qpStart src tag req => exact execQpStart_kept src tag req s u h hk
  | .qpStop src tag req => exact execQpStop_kept src tag req s u h hk
  | .qpStatus src tag req => exact execQpStatus_kept src tag req s u h hk
  | .qpSched src tag req => exact execQpSched_kept src tag req s u h hk
  | .slowpathMap src tag req => exact execSlowpathMap_kept src tag req s u h hk
  | .watchSet src tag req => exact execWatchSet_kept src tag req s u h hk
  | .qpCounters src tag req => exact execQpCounters_kept src tag req s u h hk
  | .evtConfig src tag req => exact execEvtConfig_kept src tag req s u h hk
  | .alarmRead src tag req => exact execAlarmRead_kept src tag req s u h hk
  | .alarmSummary src tag req => exact execAlarmSummary_kept src tag req s u h hk
  | .evtCounters src tag req => exact execEvtCounters_kept src tag req s u h hk
  | .blackboxRead src tag req => exact execBlackboxRead_kept src tag req s u h hk
  | .blackboxClear src tag req => exact execBlackboxClear_kept src tag req s u h hk
  | .evtTest src tag req => exact execEvtTest_kept src tag req s u h hk
  | .senseConfig src tag req => exact execSenseConfig_kept src tag req s u h hk
  | .senseLatest src tag req => exact execSenseLatest_kept src tag req s u h hk
  | .sensorCreate src tag req => exact execSensorCreate_kept src tag req s u h hk
  | .sensorDestroy src tag req => exact execSensorDestroy_kept src tag req s u h hk
  | .senseRead src tag req => exact execSenseRead_kept src tag req s u h hk
  | .coefWrite src tag req => exact execCoefWrite_kept src tag req s u h hk
  | .coefRead src tag req => exact execCoefRead_kept src tag req s u h hk
  | .coefSwap src tag req => exact execCoefSwap_kept src tag req s u h hk
  | .shStatus src tag req => exact execShStatus_kept src tag req s u h hk
  | .senseCounters src tag req => exact execSenseCounters_kept src tag req s u h hk
  | .powerState src tag req => exact execPowerState_kept src tag req s u h hk
  | .powerStatus src tag req => exact execPowerStatus_kept src tag req s u h hk
  | .padRelease src tag req => exact execPadRelease_kept src tag req s u h hk
  | .gateRequest src tag req => exact execGateRequest_kept src tag req s u h hk
  | .thermalStatus src tag req => exact execThermalStatus_kept src tag req s u h hk
  | .thermalConfig src tag req => exact execThermalConfig_kept src tag req s u h hk
  | .storeConfig src tag req => exact execStoreConfig_kept src tag req s u h hk
  | .storeStatus src tag req => exact execStoreStatus_kept src tag req s u h hk
  | .powerCounters src tag req => exact execPowerCounters_kept src tag req s u h hk
  | .reset src tag req => exact execReset_kept src tag req s u h hk
  | .fwStatus src tag req => exact execFwStatus_kept src tag req s u h hk
  | .fwWrite src tag req => exact execFwWrite_kept src tag req s u h hk
  | .fwVerify src tag req => exact execFwVerify_kept src tag req s u h hk
  | .fwVerifyDone signatureOk => exact execFwVerifyDone_kept signatureOk s u h hk
  | .fwActivate src tag req => exact execFwActivate_kept src tag req s u h hk
  | .fwCommit src tag req => exact execFwCommit_kept src tag req s u h hk
  | .arbRaise src tag req => exact execArbRaise_kept src tag req s u h hk
  | .mboxEnable func => exact execMboxEnable_kept func s u h hk
  | .mboxDisable func => exact execMboxDisable_kept func s u h hk
  | .mboxCmdPi func value => exact execMboxCmdPi_kept func value s u h hk
  | .commandTake src slot => exact execCommandTake_kept src slot s u h hk
  | .mboxRspCi func value => exact execMboxRspCi_kept func value s u h hk
  | .mboxNtfCi func value => exact execMboxNtfCi_kept func value s u h hk
  | .responseWrite src => exact execResponseWrite_kept src s u h hk
  | .notificationWrite func => exact execNotificationWrite_kept func s u h hk
  | .dmaError func pair => exact execDmaError_kept func pair s u h hk
  | .registerWrite func offset value => exact execRegisterWrite_kept func offset value s u h hk
  | .timeCapture func => exact execTimeCapture_kept func s u h hk
  | .timeTsqHiRead => exact execTimeTsqHiRead_kept s u h hk
  | .tsqOvfClear => exact execTsqOvfClear_kept s u h hk
  | .almStateRead func source => exact execAlmStateRead_kept func source s u h hk
  | .hqTxPi func pair value => exact execHqTxPi_kept func pair value s u h hk
  | .hqRxPi func pair value => exact execHqRxPi_kept func pair value s u h hk
  | .hqCqCi func pair value => exact execHqCqCi_kept func pair value s u h hk
  | .sbReq pec bytes => exact execSbReq_kept pec bytes s u h hk
  | .sbRsp => exact execSbRsp_kept s u h hk
  | .sbStatus => exact execSbStatus_kept s u h hk
  | .sbNtf => exact execSbNtf_kept s u h hk
  | .smbusAddressMatch address => exact execSmbusAddressMatch_kept address s u h hk
  | .firewallAccess secure initiator write bar addr len => exact execFirewallAccess_kept secure initiator write bar addr len s u h hk
  | .fwRuleWrite rule base limit flags => exact execFwRuleWrite_kept rule base limit flags s u h hk
  | .firewallDrain completed => exact execFirewallDrain_kept completed s u h hk
  | .gateRelease gate => exact execGateRelease_kept gate s u h hk
  | .debugAuthorisation serial signatureOk => exact execDebugAuthorisation_kept serial signatureOk s u h hk
  | .powerOnReset => exact execPowerOnReset_kept s u h hk
  | .resetN => exact execResetN_kept s u h hk
  | .warmReset => exact execWarmReset_kept s u h hk
  | .watchdogReset core => exact execWatchdogReset_kept core s u h hk
  | .brownOutReset => exact execBrownOutReset_kept s u h hk
  | .perstN high => exact execPerstN_kept high s u h hk
  | .flr func => exact execFlr_kept func s u h hk
  | .wakeN => exact execWakeN_kept s u h hk
  | .strapSample reads => exact execStrapSample_kept reads s u h hk
  | .crefLoss => exact execCrefLoss_kept s u h hk
  | .crefReturn => exact execCrefReturn_kept s u h hk
  | .ppsInEdge highNs => exact execPpsInEdge_kept highNs s u h hk
  | .ppsOutPulse => exact execPpsOutPulse_kept s u h hk
  | .ppsOutFall => exact execPpsOutFall_kept s u h hk
  | .uartCharacter samples => exact execUartCharacter_kept samples s u h hk
  | .vinGood => exact execVinGood_kept s u h hk
  | .vinFail => exact execVinFail_kept s u h hk
  | .pwrfailN => exact execPwrfailN_kept s u h hk
  | .auxLoss => exact execAuxLoss_kept s u h hk
  | .islandWait => exact execIslandWait_kept s u h hk
  | .islandWake => exact execIslandWake_kept s u h hk
  | .coreWait core => exact execCoreWait_kept core s u h hk
  | .corePowerOff => exact execCorePowerOff_kept s u h hk
  | .powerDeferred => exact execPowerDeferred_kept s u h hk
  | .powerTransitionDone => exact execPowerTransitionDone_kept s u h hk
  | .islandTimerWake => exact execIslandTimerWake_kept s u h hk
  | .imageChoice sigA sigB badA badB => exact execImageChoice_kept sigA sigB badA badB s u h hk
  | .strongroomVerify ok => exact execStrongroomVerify_kept ok s u h hk
  | .zordinRunning corrected lost bad => exact execZordinRunning_kept corrected lost bad s u h hk
  | .syncRefAbsent => exact execSyncRefAbsent_kept s u h hk
  | .hbmTraining stack trained => exact execHbmTraining_kept stack trained s u h hk
  | .syncLock => exact execSyncLock_kept s u h hk
  | .rootTransferDone => exact execRootTransferDone_kept s u h hk
  | .rootHoldover syncRef => exact execRootHoldover_kept syncRef s u h hk
  | .rootDisplace => exact execRootDisplace_kept s u h hk
  | .cueFrame slot cycle lanes => exact execCueFrame_kept slot cycle lanes s u h hk
  | .discoveryOpen msg => exact execDiscoveryOpen_kept msg s u h hk
  | .discoveryAck msg => exact execDiscoveryAck_kept msg s u h hk
  | .tnAssign msg => exact execTnAssign_kept msg s u h hk
  | .reject msg => exact execReject_kept msg s u h hk
  | .rangeWindow msg => exact execRangeWindow_kept msg s u h hk
  | .rangeResult msg => exact execRangeResult_kept msg s u h hk
  | .activate msg => exact execActivate_kept msg s u h hk
  | .fineCorrect msg => exact execFineCorrect_kept msg s u h hk
  | .deregister msg => exact execDeregister_kept msg s u h hk
  | .resizePrepare msg => exact execResizePrepare_kept msg s u h hk
  | .resizeCommit msg => exact execResizeCommit_kept msg s u h hk
  | .resizeCancel msg => exact execResizeCancel_kept msg s u h hk
  | .keySeg msg => exact execKeySeg_kept msg s u h hk
  | .offer fromTn recId => exact execOffer_kept fromTn recId s u h hk
  | .answer fromTn recId => exact execAnswer_kept fromTn recId s u h hk
  | .hubAnswer fromTn recId => exact execHubAnswer_kept fromTn recId s u h hk
  | .groupKey fromTn recId => exact execGroupKey_kept fromTn recId s u h hk
  | .keyRecordTimeout fromTn recId => exact execKeyRecordTimeout_kept fromTn recId s u h hk
  | .tCue => exact execTCue_kept s u h hk
  | .joinNoWindow => exact execJoinNoWindow_kept s u h hk
  | .discoveryTimeout => exact execDiscoveryTimeout_kept s u h hk
  | .tId => exact execTId_kept s u h hk
  | .registrationLost => exact execRegistrationLost_kept s u h hk
  | .rejectHoldoff => exact execRejectHoldoff_kept s u h hk
  | .tLeave => exact execTLeave_kept s u h hk
  | .tRwin plane => exact execTRwin_kept plane s u h hk
  | .rangingTimeout plane => exact execRangingTimeout_kept plane s u h hk
  | .tAct plane => exact execTAct_kept plane s u h hk
  | .tSkew plane => exact execTSkew_kept plane s u h hk
  | .tSusp plane => exact execTSusp_kept plane s u h hk
  | .planeActivation plane => exact execPlaneActivation_kept plane s u h hk
  | .fineCorrectApply plane => exact execFineCorrectApply_kept plane s u h hk
  | .planeHoldApply plane => exact execPlaneHoldApply_kept plane s u h hk
  | .sequenceResume slot => exact execSequenceResume_kept slot s u h hk
  | .freeze slot => exact execFreeze_kept slot s u h hk
  | .seqRecordCommit readBackOk => exact execSeqRecordCommit_kept readBackOk s u h hk
  | .keyEpochErase key => exact execKeyEpochErase_kept key s u h hk
  | .keyRollInterval key => exact execKeyRollInterval_kept key s u h hk
  | .tAns assoc => exact execTAns_kept assoc s u h hk
  | .withdrawnReoffer assoc => exact execWithdrawnReoffer_kept assoc s u h hk
  | .entropyFail => exact execEntropyFail_kept s u h hk
  | .entropyRetest passed => exact execEntropyRetest_kept passed s u h hk
  | .drbgReseed => exact execDrbgReseed_kept s u h hk
  | .selectionWindow slot plane => exact execSelectionWindow_kept slot plane s u h hk
  | .selectionClose slot plane => exact execSelectionClose_kept slot plane s u h hk
  | .launch slot plane => exact execLaunch_kept slot plane s u h hk
  | .tuneSequence x lockerMHz guardHigh powerLow holdMv holdMa => exact execTuneSequence_kept x lockerMHz guardHigh powerLow holdMv holdMa s u h hk
  | .tileLaserCut x stillHigh => exact execTileLaserCut_kept x stillHigh s u h hk
  | .recalibration sfn => exact execRecalibration_kept sfn s u h hk
  | .driftSupervision plane => exact execDriftSupervision_kept plane s u h hk
  | .trimCheckpoint => exact execTrimCheckpoint_kept s u h hk
  | .pedestalSettled x => exact execPedestalSettled_kept x s u h hk
  | .pedestalUnsettled x => exact execPedestalUnsettled_kept x s u h hk
  | .laserHeaterFault x => exact execLaserHeaterFault_kept x s u h hk
  | .demuxSettled plane => exact execDemuxSettled_kept plane s u h hk
  | .demuxUnsettled plane => exact execDemuxUnsettled_kept plane s u h hk
  | .tableLoad x checkOk => exact execTableLoad_kept x checkOk s u h hk
  | .burstReceive slot lights => exact execBurstReceive_kept slot lights s u h hk
  | .payloadDecode lane => exact execPayloadDecode_kept lane s u h hk
  | .tagCheck => exact execTagCheck_kept s u h hk
  | .ledgerLanding slot => exact execLedgerLanding_kept slot s u h hk
  | .reconcilerEntry lane => exact execReconcilerEntry_kept lane s u h hk
  | .containerEval slot => exact execContainerEval_kept slot s u h hk
  | .sdBlockClose group member => exact execSdBlockClose_kept group member s u h hk
  | .holdOffExpiry group => exact execHoldOffExpiry_kept group s u h hk
  | .wtrExpiry group => exact execWtrExpiry_kept group s u h hk
  | .afHoldExpiry group => exact execAfHoldExpiry_kept group s u h hk
  | .rateControl trib index slot lanes => exact execRateControl_kept trib index slot lanes s u h hk
  | .tPrep group => exact execTPrep_kept group s u h hk
  | .tCommit group => exact execTCommit_kept group s u h hk
  | .resizePrepared group => exact execResizePrepared_kept group s u h hk
  | .resizeSwitchover group => exact execResizeSwitchover_kept group s u h hk
  | .resizeDone group => exact execResizeDone_kept group s u h hk
  | .pageSwapped => exact execPageSwapped_kept s u h hk
  | .tTrain port => exact execTTrain_kept port s u h hk
  | .trainingComplete port => exact execTrainingComplete_kept port s u h hk
  | .linkUp port => exact execLinkUp_kept port s u h hk
  | .linkDown port => exact execLinkDown_kept port s u h hk
  | .remoteFault port rf lf => exact execRemoteFault_kept port rf lf s u h hk
  | .laneLos lane present => exact execLaneLos_kept lane present s u h hk
  | .clientFrame port data back => exact execClientFrame_kept port data back s u h hk
  | .parse pipeline => exact execParse_kept pipeline s u h hk
  | .epochDrain => exact execEpochDrain_kept s u h hk
  | .egressFrameStart port => exact execEgressFrameStart_kept port s u h hk
  | .tsqPush port => exact execTsqPush_kept port s u h hk
  | .larderRefill pool => exact execLarderRefill_kept pool s u h hk
  | .larderSpill pool => exact execLarderSpill_kept pool s u h hk
  | .larderAlloc pool owner => exact execLarderAlloc_kept pool owner s u h hk
  | .larderFree token owner => exact execLarderFree_kept token owner s u h hk
  | .larderShare token add last => exact execLarderShare_kept token add last s u h hk
  | .heldFreeResume pool => exact execHeldFreeResume_kept pool s u h hk
  | .poolStall pool => exact execPoolStall_kept pool s u h hk
  | .hbmRetired stack => exact execHbmRetired_kept stack s u h hk
  | .hbmPurgeDone stack => exact execHbmPurgeDone_kept stack s u h hk
  | .txDescriptor words frame => exact execTxDescriptor_kept words frame s u h hk
  | .cqResume pair => exact execCqResume_kept pair s u h hk
  | .slowPathDelivery descriptors => exact execSlowPathDelivery_kept descriptors s u h hk
  | .eventRaise clear held code source severity detail4 detail5 => exact execEventRaise_kept clear held code source severity detail4 detail5 s u h hk
  | .coalesceWindowClose source code detail => exact execCoalesceWindowClose_kept source code detail s u h hk
  | .evtLost func => exact execEvtLost_kept func s u h hk
  | .blackboxWrite => exact execBlackboxWrite_kept s u h hk
  | .msixHoldoffEnd func vector => exact execMsixHoldoffEnd_kept func vector s u h hk
  | .tileLinkLost tile => exact execTileLinkLost_kept tile s u h hk
  | .tileDegraded tile => exact execTileDegraded_kept tile s u h hk
  | .tileRetrain tile trained => exact execTileRetrain_kept tile trained s u h hk
  | .quarantineExpiry type index => exact execQuarantineExpiry_kept type index s u h hk
  | .servoUpdate => exact execServoUpdate_kept s u h hk
  | .ptmDialog hostEnabled => exact execPtmDialog_kept hostEnabled s u h hk
  | .ptmResponse master prop => exact execPtmResponse_kept master prop s u h hk
  | .ptmFail => exact execPtmFail_kept s u h hk
  | .senseOutput bits leads overload => exact execSenseOutput_kept bits leads overload s u h hk
  | .rcPeriodCapture elapsed => exact execRcPeriodCapture_kept elapsed s u h hk
  | .senseFallback input => exact execSenseFallback_kept input s u h hk
  | .coolantCondition die => exact execCoolantCondition_kept die s u h hk
  | .junctionHigh readings => exact execJunctionHigh_kept readings s u h hk
  | .thermalStop readings => exact execThermalStop_kept readings s u h hk
  | .chargeStart => exact execChargeStart_kept s u h hk
  | .capacitanceMeasure deltaQ => exact execCapacitanceMeasure_kept deltaQ s u h hk
  | .gaugeReanchor => exact execGaugeReanchor_kept s u h hk
  | .gaugeSkew => exact execGaugeSkew_kept s u h hk
  | .curtainStart => exact execCurtainStart_kept s u h hk
  | .curtainStop => exact execCurtainStop_kept s u h hk
  | .resetNRelease => exact execResetNRelease_kept s u h hk
  | .lossOfAux => exact execLossOfAux_kept s u h hk
  | .railUp => exact execRailUp_kept s u h hk
  | .chargeComplete => exact execChargeComplete_kept s u h hk
  | .chargeTimeout => exact execChargeTimeout_kept s u h hk
  | .powerStateTimeout => exact execPowerStateTimeout_kept s u h hk
  | .delayListDue tick => exact execDelayListDue_kept tick s u h hk
  | .uartBreakEnd => exact execUartBreakEnd_kept s u h hk
  | .tileDegradedClear tile => exact execTileDegradedClear_kept tile s u h hk
  | .junctionHighClear readings => exact execJunctionHighClear_kept readings s u h hk
  | .demuxSettledAgain plane => exact execDemuxSettledAgain_kept plane s u h hk
  | .laserHeaterFaultClear x => exact execLaserHeaterFaultClear_kept x s u h hk
  | .gaugeSkewClear => exact execGaugeSkewClear_kept s u h hk

end Sys2Proof.Machine
end

