-- ==== Sys2Proof/Tests/Terms.lean ====
section
/-! SUPPORT. Terms of the tests: small states, messages and records built by commands or by a change of one field, and how a statement
applied at one of them gives a next state. -/

namespace Sys2Proof.Tests

open Sys2Proof.Machine

set_option Elab.async false

/-! ### Terms -/

/-- The command answers a next state. -/
def Runs (i : Instr) (s : State) : Prop := ∃ t, exec i s = .next t

theorem completes_runs {g w c pre post src tag req s} (h : Completes g w c pre post) (hc : CanRun g s) (hw : w ≤ req.length)
    (hp : pre src req s) : Runs (c src tag req) s := ⟨_, h src tag req s hc hw hp⟩

theorem accepts_runs {g w c pre post src tag req s} (h : Accepts g w c pre post) (hc : CanRun g s) (hw : w ≤ req.length)
    (hp : pre src req s) : Runs (c src tag req) s := ⟨_, h src tag req s hc hw hp⟩

theorem firmware_runs {w c pre post src tag req s} (h : FirmwareCompletes w c pre post) (hw : w ≤ req.length) (hp : pre src req s) :
    Runs (c src tag req) s := ⟨_, h src tag req s hw hp⟩

theorem does_runs {i post s} (h : Does i post) : Runs i s := ⟨_, h s⟩

theorem doesWhen_runs {i pre post s} (h : DoesWhen i pre post) (hp : pre s) : Runs i s := ⟨_, h s hp⟩

/-- A timer's row runs where the timer fires, where a message that has arrived stops it, and where none runs. -/
theorem fires_runs {reach c d post t s v u} (h : FiresAt reach c d post) (h1 : d s = some t ∧ d (reach t s) = some t)
    (h2 : d v = some t ∧ d (reach t v) ≠ some t) (h3 : d u = none) : Runs c s ∧ Runs c v ∧ Runs c u :=
  ⟨⟨_, h.1 t s h1⟩, ⟨_, h.2.1 t v h2⟩, ⟨_, h.2.2 u h3⟩⟩

theorem timesOut_runs {c d post t s u} (h : TimesOut c d post) (h1 : d s = some t) (h2 : d u = none) : Runs c s ∧ Runs c u :=
  ⟨⟨_, h.1 t s h1⟩, ⟨_, h.2 u h2⟩⟩

theorem obeys_runs {modes c pre post m s} (h : Obeys modes c pre post) (hm : m.mode ∈ modes) (hp : pre m (takeMsg m s)) :
    Runs (c m) s := ⟨_, h m s hm hp⟩

theorem wrongMode_runs {modes c m s} (h : WrongMode modes c) (hm : m.mode ∉ modes) : Runs (c m) s := ⟨_, h m s hm⟩

/-- The state that a result answers, and the state after a command. -/
def stateOf (r : Result) (s : State) : State :=
  match r with
  | .next t => t
  | _ => s
def after (i : Instr) (s : State) : State := stateOf (exec i s) s

/-- A handle of generation 0. -/
def handle (type index : Nat) : Word := pack [(26, type), (0, index)]

/-- A request word from its fields, as places and values. -/
abbrev w (fields : List (Nat × Nat)) : Word := pack fields

/-- Zordin runs. -/
def up : State := { State.reset with start := { State.reset.start with running := true } }

/-- The terminal is in a state of joining, rejected for a reason. -/
def joining (ph : TermPhase) (reason : Nat) : State := { up with join := { up.join with phase := ph, rejectReason := reason } }

/-- Transmitter 0 is in a state, for a reason. -/
def sender (ph : TxPhase) (r : TxReason) : State := modTx 0 (fun t => { t with phase := ph, reason := r }) up

/-- The last slot whose sheet has arrived on plane 0 is slot 5. -/
def granted : State := modGrants 0 (fun g => { g with lastTarget := some 5 }) up

/-- A port is enabled with a type, in circuit mode or packet mode. -/
def withPort (p type : Nat) (circuit : Bool) (s : State) : State :=
  modPort p (fun x => { x with cfg := { x.cfg with ptype := type, circuit := circuit } }) s

/-- A working group of all 17 members towards terminal 29, and a protect group beside it. -/
def group1 : State := after (.groupCreate .pf0 0 [w [(0, 1023), (16, 29)], w [(0, 1), (4, 1)], 0x1FFFF, 0]) (withPort 0 1 true up)
def group2 : State := after (.groupCreate .pf0 0 [w [(0, 0), (16, 29)], w [(0, 1), (4, 2)], 0x1FFFF, 0]) group1

/-- Both groups are a pair. -/
def paired : State := after (.pairCreate .pf0 0 [handle 1 0, handle 1 1, w [(8, 100), (16, 720)]]) group2

/-- A through tributary. -/
def tributary : State := after (.tribCreate .pf0 0 [0]) up

/-- A page swap to superframe 2 is pending. -/
def swapping : State := after (.pageSwap .pf0 0 [0, 2, 0]) up

/-- A parse graph image with an empty node 0, and a rule set. -/
def graphed : State :=
  after (.rulesetCreate .pf0 0 []) (after (.nodeWrite .pf0 0 (handle 6 0 :: List.replicate 33 0)) (after (.graphCreate .pf0 0 []) up))

/-- The label 7 leads somewhere. -/
def labelled : State := after (.fibInsert .pf0 0 [7, 0x80000000, 0]) up

/-- A flow of table 30 is bound to plane 15. -/
def bound : State := after (.flowBindCreate .pf0 0 [w [(0, 30), (8, 15)], 9]) up

/-- The power is in a state, with a change of part of it. -/
def powered (st : PowerState) (f : Power → Power) : State := { up with power := f { up.power with state := st } }

/-- A Curtain of cause 1. -/
def someCurtain : Curtain := ⟨1, 0, 0, true, false, false, [], [], false, false, 0, []⟩

/-- A policer and a shaper, a multicast group, and a pool of PF0's own with tokens in its cache. -/
def metered : State := after (.meterCreate .pf0 0 [0, 1, 26000000, 10240, 10240]) up
def shaping : State := after (.meterCreate .pf0 0 [1, 0, 0, 10240, 0xFFFFFF]) up
def attached : State := after (.shaperAttach .pf0 0 [handle 4 0, w [(2, 30), (8, 7)]]) shaping
def grouped : State := after (.mcastCreate .pf0 0 (1023 :: List.replicate 8 0)) up
def pooled : State :=
  let s := after (.poolCreate .pf0 0 [w [(0, 3), (4, 6)], 64]) up
  stateOf (execLarderRefill 5 s) s
def holding : State := after (.bufAlloc .pf0 0 [handle 0x0C 5]) pooled

/-- The terminal is number 3 and holds a hub key. -/
def keyed : State := installEpoch hubKey keyEpochReset { up with join := { up.join with tn := some 3 }, sec := { up.sec with entropy := .running } }

/-- The chain runs, and every filter of its inactive bank passes a constant as it is. -/
def unityCoef (n : Nat) : Nat := if n < 16 then 16384 else 21845
def unityBank : Tab (Option Nat) := (List.range 3088).map (fun n => (n, some (unityCoef n)))
def unityWith (bank : Tab (Option Nat)) : State :=
  modIsland (fun x => { x with inForce := { x.inForce with counts := [1] }, low := false })
    (modChain (fun c => { c with active := false, swap := none, bankB := bank })
      (powered .run id))
def unity : State := unityWith unityBank

theorem range_get (f : Nat → Option Nat) : ∀ (m k n : Nat), k ≤ n → n < k + m →
    tabGet none ((List.range' k m).map (fun i => (i, f i))) n = f n := by
  intro m
  induction m with
  | zero => intro k n h1 h2; omega
  | succ m ih =>
    intro k n h1 h2
    rw [List.range'_succ, List.map_cons, tabGet]
    by_cases h : k = n
    · simp [h]
    · rw [if_neg h]; exact ih (k + 1) n (by omega) (by omega)

theorem unityWith_bank (b : Tab (Option Nat)) : (unityWith b).island.chain.bankB = b := rfl

theorem unity_coefAt (n : Nat) (h : n < 3088) : coefAt true n unity.island.chain = unityCoef n := by
  have e : tabGet none unity.island.chain.bankB n = some (unityCoef n) := by
    rw [unity, unityWith_bank, unityBank, List.range_eq_range']
    exact range_get (fun n => some (unityCoef n)) 3088 0 n (by omega) (by omega)
  unfold coefAt coefCode
  rw [if_pos rfl, e]
  unfold unityCoef
  split <;> rfl

theorem unity_sum (at_ n : Nat) (v : Nat) (hn : at_ + n ≤ 3088) (hv : ∀ i, i < n → unityCoef (at_ + i) = v) :
    coefSum true at_ n unity.island.chain = n * v := by
  induction n with
  | zero => simp [coefSum]
  | succ n ih =>
    have := ih (by omega) (fun i hi => hv i (by omega))
    unfold coefSum at *
    rw [List.range_succ, List.foldl_append, this]
    simp only [List.foldl_cons, List.foldl_nil]
    rw [unity_coefAt _ (by omega), hv n (by omega)]
    push_cast; ring

theorem unity_sums : sumsOk (!unity.island.chain.active) unity.island.chain = true := by
  have h0 : (!unity.island.chain.active) = true := by decide +kernel
  rw [h0]
  unfold sumsOk
  rw [unity_sum 0 16 16384 (by omega) (fun i hi => by unfold unityCoef; rw [if_pos (by omega)]), Bool.and_eq_true, List.all_eq_true]
  refine ⟨by decide, fun f hf => ?_⟩
  have := List.mem_range.mp hf
  rw [unity_sum _ 24 21845 (by omega) (fun i hi => by unfold unityCoef; rw [if_neg (by omega)])]
  decide
theorem unity_noSwap : unity.island.chain.swap = none := by decide +kernel
theorem unity_on : chainOn unity = true := by decide +kernel

/-- A timestamping port. -/
def stamping : State := after (.tsPortCreate .pf0 0 [255, 0, 0]) (withPort 255 1 false up)

/-- The rings of both functions are on. -/
def ringing : State := after (.mboxEnable 1) (after (.mboxEnable 0) up)

/-- A queue pair of PF1 for received frames only, stopped and running. -/
def paired1 : State := after (.qpCreate .pf0 0 [w [(0, 1), (12, 15), (16, 15), (20, 14)], 0, 0, 0, 0, 0, 0, 0]) ringing
def running1 : State := after (.qpStart .pf1 0 [handle 5 0]) paired1

/-- A sensor channel of input 15. -/
def sensing : State := after (.sensorCreate .sideband 0 [w [(0, 15), (8, 1), (16, 255)], 0, 0, 0]) up

/-- Slots in the command ring of PF0: one with opcode 0x0101 and tag 31, and one with an opcode that no chapter defines. -/
def slotOf (opcode tag : Nat) : List Word := [w [(0, opcode), (16, tag), (31, 1)]]
def commanded : State := after (.mboxCmdPi 0 32) ringing

/-- Tag 31 of PF0 is outstanding. -/
def outstanding : State := modFunc 0 (fun b => { b with outstanding := [⟨31, 0x0101⟩] }) commanded

/-- A request of the sideband waits, and its tag is outstanding or not. -/
def sideways (opcode : Nat) (os : List Outstanding) : State :=
  modSb (fun b => { b with requests := [[w [(0, opcode), (16, 31)]]], outstanding := os }) up

/-- The response ring of PF0 is full: 64 entries that the host has not consumed. -/
def fullRing : State := modFunc 0 (fun b => { b with rspPi := 64 }) ringing

/-- Index 3 of the parse graphs has generation 1,023. -/
def lastGraph : State :=
  setChan 6 3 { chanSlotReset with live := true, gen := 1023 }
    (openChan .parseGraph 2 (openChan .parseGraph 1 (openChan .parseGraph 0 up)))

/-- The state is sound. -/
theorem reset_sound : Sound State.reset := by
  unfold Sound soundMem soundJoin soundZordin soundChans
  decide +kernel

/-- A stage message of hub A on plane 0 of a mode, its body of `len` bytes from fields as bit offset, width and value. -/
def message (mode len : Nat) (fs : List (Nat × Nat × Nat)) : StageMsg :=
  let n := (fs.map (fun f => f.2.2 * 2 ^ (8 * len - f.1 - f.2.1))).sum
  { hub := .a, plane := 0, sfn := 0, mode := mode, type := 0, msgId := 0,
    body := (List.range len).map (fun i => BitVec.ofNat 8 (n / 256 ^ (len - 1 - i))) }

/-- A terminal of serial number 5 and an empty certificate, in a state of joining, whose plane 0 hub A owns, with a settled demultiplexer
and a ready transmitter; and a change of plane 0. -/
def owned (ph : TermPhase) (f : PlaneMachine → PlaneMachine) : State :=
  modPlane 0 (fun x => f { x with own := .ownedA })
    { sender .ready .none with
      serial := 5, certLen := 0
      join := { up.join with phase := ph, discovery := some (.a, 0, 0) }
      power := { up.power with demux := up.power.demux.set 0 ⟨true, true⟩ } }

/-- A function's response or notice that waits. -/
def waiting (f : FuncBox → FuncBox) : State := modFunc 0 f ringing
def oneEvent : EventRecord :=
  { summary := false, clear := false, sev := 1, source := 0, count := 0, code := 0x0101, first := 0, last := 0, detail4 := 0, detail5 := 0, seq := 0, boot := 0 }

/-- The same with plane 0 a plane of the terminal. -/
def planesOwned (f : PlaneMachine → PlaneMachine) : State :=
  let s := owned .registered f
  { s with join := { s.join with planeMask := 1 } }

/-- A timer of the terminal runs; and the same with a DEREGISTER, or a REJECT, that has arrived and not been handled. -/
def timed (f : Join → Join) : State := { up with join := f up.join }
def leavingSoon (s : State) : State :=
  { s with join := { s.join with phase := .assigned, tn := some 3 }, cue := { s.cue with inbox := [{ message 1 24 [] with type := 0x0288 }] } }
def rejectedSoon (s : State) : State :=
  { s with cue := { s.cue with inbox := [{ message 3 24 [(0, 128, 5), (128, 8, 4)] with type := 0x0283 }] } }

/-- A burst that a transmitter plans. -/
def aBurst : Burst := ⟨0, false, 0, 0, 2, false, 0, 0, 0, 0, .idle⟩

/-- The rails are up; and the root in a state on a lane of hub B, while lane 0 of hub A is qualified. -/
def railed : State := { up with start := { up.start with railsUp := true } }
def rooted (ph : RootPhase) (h : Hub) : State :=
  modRoot (fun r => { r with phase := ph, lane := some (h, 0) }) (modLane .a 0 (fun l => { l with qualified := true }) railed)

/-- The drift of plane 0 has one reading. -/
def drifting : State := { up with tx := { up.tx with arrivals := [(63, ⟨some 0, 400, 1⟩)] } }

/-- A burst was accepted on lane 2 in slot 0. -/
def received : State := { up with rx := { up.rx with slot := some 0, landed := some 0, records := [(2, { rxRecordReset with verdict := 5 })] } }

/-- The working group of a pair in a state of its selector, its timer ends at cycle 9. -/
def selecting (ph : SelPhase) : State := setPair 0 (some { pairReset with protect := 1, phase := ph, timer := some 9 }) group2

/-- A resize of the working group is in a state. -/
def resizing (ph : ResizePhase) (remove : Bool) : State :=
  modGroup 0 (fun g => { g with resize := { g.resize with phase := ph, remove := remove, member := 16, commitSfn := some 0, farG := 17, tPrep := some 9, tCommit := some 9 } })
    { group1 with clock := { group1.clock with slot := 1 } }

/-- The message that names it, with superframe 5. -/
def resizeMessage (remove : Nat) : StageMsg := message 1 16 [(0, 10, 1023), (16, 1, remove), (24, 5, 16), (32, 48, 5)]

theorem some_get {α : Type} {o : Option α} (h : o.isSome = true) : o = some (o.get h) := (Option.some_get h).symm

theorem place_eq {α β : Type} {p : Option α × β} (h : p.1.isSome = true) : p = (some (p.1.get h), p.2) := by
  rw [Option.some_get h]

/-- A port in packet mode is in a state. -/
def porting (ph : PortPhase) (f : Port → Port) : State := modPort 255 (fun x => f { x with phase := ph }) (withPort 255 1 false up)

/-- The shortest frame with a good FCS, and a frame of that content at egress. -/
def frame64 : List Byte := List.replicate 60 0 ++ [0x08, 0x89, 0x12, 0x04]
def outFrame : EgressFrame := ⟨frame64, [], 0, false, false, 0, 0⟩

/-- A cache of a pool holds some tokens. -/
def cached (n : Nat) : State := modPool 0 (fun p => { p with cache := List.replicate n 1 }) up

/-- Stack 3 has been retired. -/
def retired : State := { up with start := { up.start with hbm := up.start.hbm.modify 3 (fun h => { h with retired := true }) } }

/-- A queue pair of PF0 with a transmit ring of 64 entries, running, and with one descriptor posted. -/
def sending : State := after (.qpStart .pf0 0 [handle 5 0]) (after (.qpCreate .pf0 0 [w [(8, 6), (16, 6), (20, 11)], 0, 0, 0, 0, 0, 0, 0]) ringing)
def posting : State := modPair 0 (fun q => { q with txPi := 1 }) sending

/-- A slow-path frame waits; its reason leads to a queue pair or to none. -/
def slowly (h : Word) : State :=
  { running1 with
    ports := { running1.ports with slowQueue := [⟨7, false, 0, 0, 0, none, none, none, frame64, []⟩] }
    hq := { running1.hq with map := [(7, h)] } }

/-- A change of the events' state, of the alarm timers of vector 0, of tile 7, and of time. -/
def eventful (f : Events → Events) : State := { up with ev := f up.ev }
def vectored (waiting : Bool) : State :=
  modFunc 0 (fun b => { b with msix := tabSet vectorReset b.msix 256 { vectorReset with holdEnd := some 9, waiting := waiting } }) up
def tiled (ph : TilePhase) (n : Nat) : State := modTile 7 (fun x => { x with phase := ph, attempts := n }) up
def clocked (f : Time → Time) : State := modTime f up
def withCref (s : State) : State := { s with pins := { s.pins with cref := true } }

/-- A key record of a kind from terminal 29: for this terminal, number 3, or for another one; it waits to be handled; and an association
with terminal 29. -/
def aRecord (kind addressee : Nat) : KeyRecord := ⟨kind, 29, 5, [3, 255, 0, 0, 0, 0, 0, 0, 0, BitVec.ofNat 8 addressee]⟩
def recorded (q : KeyRecord) (s : State) : State :=
  { s with sec := { s.sec with complete := [q], entropy := .running } }
def associated (f : Association → Association) (s : State) : State :=
  setAssoc 28 (f { associationReset with peer := 29 }) (setChan 9 28 { chanSlotReset with live := true } s)

/-- A key holds epochs; the sequence, the entropy source and the firewall are in a state. -/
def epoched (k : Nat) (es : List KeyEpoch) (s : State) : State := modKey k (fun _ => ⟨es, some 0⟩) s
def anEpoch (n act : Nat) : KeyEpoch := ⟨n, act, 0, 0, 0⟩
def sequenced (f : Sequence → Sequence) : State := modSeq f up
def secured (f : Security → Security) : State := { up with sec := f up.sec }

/-- A key segment of a kind and one byte, for any addressee. -/
def segment (mode kind : Nat) : StageMsg :=
  if mode = 3 then message 3 29 [(0, 128, 5), (128, 16, kind), (128 + 52, 4, 1), (128 + 56, 12, 1)]
  else message 1 13 [(0, 16, kind), (52, 4, 1), (56, 12, 1)]

/-- The island, its chain and its console in a state. -/
def islanded (f : Island → Island) : State := modIsland f up

/-- A transition to a target, with gates that wait; the store in a state; supplies that are good. -/
def moving (target : Nat) (gates : List Nat) : State :=
  { powered .run (fun p => { p with transition := some ⟨target, 0, gates, false⟩ }) with
    zordin := { up.zordin with sched := { up.zordin.sched with cores := up.zordin.sched.cores.map (fun c => { c with waiting := true }) } } }
def stored (f : Store → Store) : State := powered .run (fun p => { p with vin := true, store := f p.store })
def readings (t : Int) : List Int := 0 :: t :: List.replicate 58 0

/-- Start-up in a state; the strap reads of nine sets, each of three reads, that agree or not. -/
def started (f : Startup → Startup) : State := { up with start := f up.start }
def strapsAgree : List (Nat × Bool) := [(63, false), (62, false), (63, false), (63, true), (63, true), (63, true)]
def strapsDiffer : List (Nat × Bool) := (List.replicate 9 [(63, false), (62, false), (63, false)]).flatten

/-- FW_VERIFY runs on image B, which holds the bytes of an image or none. -/
def verifying (bytes : Memory) : State := started (fun u => { u with verifying := true, image := some 0, imgB := ⟨bytes, false⟩ })

/-- A completion that waits for room in its ring. -/
def aCompletion : Completion := ⟨0, 0, 0, 0, 0, 0, 0⟩


/-- A record of terminal 29 whose first segment is missing. -/
def aPartial : PartialRecord := ⟨0x0A01, 29, 5, 2, [], 9⟩

end Sys2Proof.Tests
end

