-- ==== Sys2Proof/WellFormed.lean ====
section
/-! DEFINITION. Which commands are well formed: every operand that counts or names something lies in the range that the spec gives it. A
command that is not well formed cannot arrive. -/

namespace Sys2Proof

/-- Tag and request words fit the command header (R425). -/
def requestFits (tag : Nat) (req : List Word) : Bool := tag < 32 && req.length ≤ 127

/-- A stage message: its plane, and fields that fit (R94). -/
def messageOk (m : StageMsg) : Bool := m.plane < 16 && m.mode < 4 && m.type < 65536 && m.msgId < 65536

/-- The originator and the identity of a key record fit (R370). -/
def recordFits (fromTn recId : Nat) : Bool := fromTn < 32 && recId < 65536

/-- A command is well formed. -/
def Instr.wf : Instr → Bool
  | .identity _ tag req => requestFits tag req
  | .echo _ tag req => requestFits tag req
  | .handleInfo _ tag req => requestFits tag req
  | .handleList _ tag req => requestFits tag req
  | .schedStatus _ tag req => requestFits tag req
  | .funcStatus _ tag req => requestFits tag req
  | .joinConfig _ tag req => requestFits tag req
  | .joinStart _ tag req => requestFits tag req
  | .joinStatus _ tag req => requestFits tag req
  | .asymSet _ tag req => requestFits tag req
  | .planeHold _ tag req => requestFits tag req
  | .joinLeave _ tag req => requestFits tag req
  | .ownershipStatus _ tag req => requestFits tag req
  | .joinCounters _ tag req => requestFits tag req
  | .grantView _ tag req => requestFits tag req
  | .standingRead _ tag req => requestFits tag req
  | .reportConfig _ tag req => requestFits tag req
  | .grantCounters _ tag req => requestFits tag req
  | .txStatus _ tag req => requestFits tag req
  | .txService _ tag req => requestFits tag req
  | .txCounters _ tag req => requestFits tag req
  | .tuneTableRead _ tag req => requestFits tag req
  | .txConfig _ tag req => requestFits tag req
  | .trimReset _ tag req => requestFits tag req
  | .rxLaneStatus _ tag req => requestFits tag req
  | .rxCounters _ tag req => requestFits tag req
  | .rxSenderStats _ tag req => requestFits tag req
  | .rxMembership _ tag req => requestFits tag req
  | .rxLedgerTap _ tag req => requestFits tag req
  | .rxCueCounters _ tag req => requestFits tag req
  | .groupCreate _ tag req => requestFits tag req
  | .groupDestroy _ tag req => requestFits tag req
  | .groupStatus _ tag req => requestFits tag req
  | .groupResize _ tag req => requestFits tag req
  | .pairCreate _ tag req => requestFits tag req
  | .pairDestroy _ tag req => requestFits tag req
  | .protectRequest _ tag req => requestFits tag req
  | .groupCounters _ tag req => requestFits tag req
  | .lanePlacementRead _ tag req => requestFits tag req
  | .tribGroupCreate _ tag req => requestFits tag req
  | .tribCreate _ tag req => requestFits tag req
  | .tribDestroy _ tag req => requestFits tag req
  | .wingsWrite _ tag req => requestFits tag req
  | .pageRead _ tag req => requestFits tag req
  | .wingsCopy _ tag req => requestFits tag req
  | .pageSwap _ tag req => requestFits tag req
  | .portConfig _ tag req => requestFits tag req
  | .portStatus _ tag req => requestFits tag req
  | .portCounters _ tag req => requestFits tag req
  | .graphCreate _ tag req => requestFits tag req
  | .nodeWrite _ tag req => requestFits tag req
  | .rulesetCreate _ tag req => requestFits tag req
  | .ruleWrite _ tag req => requestFits tag req
  | .rulesetParam _ tag req => requestFits tag req
  | .classifyActivate _ tag req => requestFits tag req
  | .classifyDestroy _ tag req => requestFits tag req
  | .fibInsert _ tag req => requestFits tag req
  | .fibDelete _ tag req => requestFits tag req
  | .fibRead _ tag req => requestFits tag req
  | .indirectionWrite _ tag req => requestFits tag req
  | .slowPathConfig _ tag req => requestFits tag req
  | .classifyCounters _ tag req => requestFits tag req
  | .flowBindCreate _ tag req => requestFits tag req
  | .flowBindDestroy _ tag req => requestFits tag req
  | .flowBindStatus _ tag req => requestFits tag req
  | .voqConfig _ tag req => requestFits tag req
  | .voqStatus _ tag req => requestFits tag req
  | .meterCreate _ tag req => requestFits tag req
  | .meterDestroy _ tag req => requestFits tag req
  | .shaperAttach _ tag req => requestFits tag req
  | .egressConfig _ tag req => requestFits tag req
  | .mcastCreate _ tag req => requestFits tag req
  | .mcastPorts _ tag req => requestFits tag req
  | .mcastDestroy _ tag req => requestFits tag req
  | .poolCreate _ tag req => requestFits tag req
  | .poolDestroy _ tag req => requestFits tag req
  | .poolStatus _ tag req => requestFits tag req
  | .bufAlloc _ tag req => requestFits tag req
  | .bufFree _ tag req => requestFits tag req
  | .queueCounters _ tag req => requestFits tag req
  | .peerKeyCreate _ tag req => requestFits tag req
  | .peerKeyDestroy _ tag req => requestFits tag req
  | .peerKeyStatus _ tag req => requestFits tag req
  | .keyRoll _ tag req => requestFits tag req
  | .keyPolicy _ tag req => requestFits tag req
  | .seqStatus _ tag req => requestFits tag req
  | .identityRead _ tag req => requestFits tag req
  | .entropyStatus _ tag req => requestFits tag req
  | .gateStatus _ tag req => requestFits tag req
  | .secCounters _ tag req => requestFits tag req
  | .timeConfig _ tag req => requestFits tag req
  | .timeStatus _ tag req => requestFits tag req
  | .timeRead _ tag req => requestFits tag req
  | .tsPortCreate _ tag req => requestFits tag req
  | .tsPortDestroy _ tag req => requestFits tag req
  | .ptmConfig _ tag req => requestFits tag req
  | .ptmRead _ tag req => requestFits tag req
  | .ppsInRead _ tag req => requestFits tag req
  | .qpCreate _ tag req => requestFits tag req
  | .qpDestroy _ tag req => requestFits tag req
  | .qpStart _ tag req => requestFits tag req
  | .qpStop _ tag req => requestFits tag req
  | .qpStatus _ tag req => requestFits tag req
  | .qpSched _ tag req => requestFits tag req
  | .slowpathMap _ tag req => requestFits tag req
  | .watchSet _ tag req => requestFits tag req
  | .qpCounters _ tag req => requestFits tag req
  | .evtConfig _ tag req => requestFits tag req
  | .alarmRead _ tag req => requestFits tag req
  | .alarmSummary _ tag req => requestFits tag req
  | .evtCounters _ tag req => requestFits tag req
  | .blackboxRead _ tag req => requestFits tag req
  | .blackboxClear _ tag req => requestFits tag req
  | .evtTest _ tag req => requestFits tag req
  | .senseConfig _ tag req => requestFits tag req
  | .senseLatest _ tag req => requestFits tag req
  | .sensorCreate _ tag req => requestFits tag req
  | .sensorDestroy _ tag req => requestFits tag req
  | .senseRead _ tag req => requestFits tag req
  | .coefWrite _ tag req => requestFits tag req
  | .coefRead _ tag req => requestFits tag req
  | .coefSwap _ tag req => requestFits tag req
  | .shStatus _ tag req => requestFits tag req
  | .senseCounters _ tag req => requestFits tag req
  | .powerState _ tag req => requestFits tag req
  | .powerStatus _ tag req => requestFits tag req
  | .padRelease _ tag req => requestFits tag req
  | .gateRequest _ tag req => requestFits tag req
  | .thermalStatus _ tag req => requestFits tag req
  | .thermalConfig _ tag req => requestFits tag req
  | .storeConfig _ tag req => requestFits tag req
  | .storeStatus _ tag req => requestFits tag req
  | .powerCounters _ tag req => requestFits tag req
  | .reset _ tag req => requestFits tag req
  | .fwStatus _ tag req => requestFits tag req
  | .fwWrite _ tag req => requestFits tag req
  | .fwVerify _ tag req => requestFits tag req
  | .fwVerifyDone _ => true
  | .fwActivate _ tag req => requestFits tag req
  | .fwCommit _ tag req => requestFits tag req
  | .arbRaise _ tag req => requestFits tag req
  | .mboxEnable func => func < 2
  | .mboxDisable func => func < 2
  | .mboxCmdPi func _ => func < 2
  | .commandTake _ slot => slot.length ≤ 128
  | .mboxRspCi func _ => func < 2
  | .mboxNtfCi func _ => func < 2
  | .responseWrite _ => true
  | .notificationWrite func => func < 2
  | .dmaError func pair => func < 2 && pair.all (· < 256)
  | .registerWrite func offset _ => func < 2 && offset < 2 ^ 24
  | .timeCapture func => func < 2
  | .timeTsqHiRead => true
  | .tsqOvfClear => true
  | .almStateRead func source => func < 2 && source < 2048
  | .hqTxPi func pair _ => func < 2 && pair < 256
  | .hqRxPi func pair _ => func < 2 && pair < 256
  | .hqCqCi func pair _ => func < 2 && pair < 256
  | .sbReq _ bytes => bytes.length ≤ 255
  | .sbRsp => true
  | .sbStatus => true
  | .sbNtf => true
  | .smbusAddressMatch address => address < 128
  | .firewallAccess _ initiator _ _ addr _ => initiator < 4 && addr < 2 ^ 64
  | .fwRuleWrite rule _ _ _ => rule < 64
  | .firewallDrain _ => true
  | .gateRelease gate => gate < 73
  | .debugAuthorisation serial _ => serial < 2 ^ 128
  | .powerOnReset => true
  | .resetN => true
  | .warmReset => true
  | .watchdogReset core => core < 4
  | .brownOutReset => true
  | .perstN _ => true
  | .flr func => func < 2
  | .wakeN => true
  | .strapSample reads => reads.all (fun r => r.1 < 64)
  | .crefLoss => true
  | .crefReturn => true
  | .ppsInEdge _ => true
  | .ppsOutPulse => true
  | .ppsOutFall => true
  | .uartCharacter _ => true
  | .vinGood => true
  | .vinFail => true
  | .pwrfailN => true
  | .auxLoss => true
  | .islandWait => true
  | .islandWake => true
  | .coreWait core => core < 4
  | .corePowerOff => true
  | .powerDeferred => true
  | .powerTransitionDone => true
  | .islandTimerWake => true
  | .imageChoice _ _ _ _ => true
  | .strongroomVerify _ => true
  | .zordinRunning _ _ _ => true
  | .syncRefAbsent => true
  | .hbmTraining stack _ => stack < 4
  | .syncLock => true
  | .rootTransferDone => true
  | .rootHoldover _ => true
  | .rootDisplace => true
  | .cueFrame _ cycle lanes => cycle < 1792 && lanes.all (fun c => c.plane < 16)
  | .discoveryOpen msg => messageOk msg
  | .discoveryAck msg => messageOk msg
  | .tnAssign msg => messageOk msg
  | .reject msg => messageOk msg
  | .rangeWindow msg => messageOk msg
  | .rangeResult msg => messageOk msg
  | .activate msg => messageOk msg
  | .fineCorrect msg => messageOk msg
  | .deregister msg => messageOk msg
  | .resizePrepare msg => messageOk msg
  | .resizeCommit msg => messageOk msg
  | .resizeCancel msg => messageOk msg
  | .keySeg msg => messageOk msg
  | .offer fromTn recId => recordFits fromTn recId
  | .answer fromTn recId => recordFits fromTn recId
  | .hubAnswer fromTn recId => recordFits fromTn recId
  | .groupKey fromTn recId => recordFits fromTn recId
  | .keyRecordTimeout fromTn recId => recordFits fromTn recId
  | .tCue => true
  | .joinNoWindow => true
  | .discoveryTimeout => true
  | .tId => true
  | .registrationLost => true
  | .rejectHoldoff => true
  | .tLeave => true
  | .tRwin plane => plane < 16
  | .rangingTimeout plane => plane < 16
  | .tAct plane => plane < 16
  | .tSkew plane => plane < 16
  | .tSusp plane => plane < 16
  | .planeActivation plane => plane < 16
  | .fineCorrectApply plane => plane < 16
  | .planeHoldApply plane => plane < 16
  | .sequenceResume _ => true
  | .freeze _ => true
  | .seqRecordCommit _ => true
  | .keyEpochErase key => key < 1088
  | .keyRollInterval key => key < 1088
  | .tAns assoc => assoc < 65
  | .withdrawnReoffer assoc => assoc < 65
  | .entropyFail => true
  | .entropyRetest _ => true
  | .drbgReseed => true
  | .selectionWindow _ plane => plane < 16
  | .selectionClose _ plane => plane < 16
  | .launch _ plane => plane < 16
  | .tuneSequence x _ _ _ _ _ => x < 512
  | .tileLaserCut x _ => x < 512
  | .recalibration _ => true
  | .driftSupervision plane => plane < 16
  | .trimCheckpoint => true
  | .pedestalSettled x => x < 512
  | .pedestalUnsettled x => x < 512
  | .laserHeaterFault x => x < 512
  | .demuxSettled plane => plane < 16
  | .demuxUnsettled plane => plane < 16
  | .tableLoad x _ => x < 512
  | .burstReceive _ lights => lights.all (fun b => b.lane < 1024 && 2 ≤ b.lane % 64)
  | .payloadDecode lane => lane < 1024 && 2 ≤ lane % 64
  | .tagCheck => true
  | .ledgerLanding _ => true
  | .reconcilerEntry lane => lane < 1024
  | .containerEval _ => true
  | .sdBlockClose group member => group < 256 && member < 17
  | .holdOffExpiry group => group < 256
  | .wtrExpiry group => group < 256
  | .afHoldExpiry group => group < 256
  | .rateControl trib index _ lanes => index < (if trib then 2048 else 256) && lanes.length ≤ 8
  | .tPrep group => group < 256
  | .tCommit group => group < 256
  | .resizePrepared group => group < 256
  | .resizeSwitchover group => group < 256
  | .resizeDone group => group < 256
  | .pageSwapped => true
  | .tTrain port => port < 256
  | .trainingComplete port => port < 256
  | .linkUp port => port < 256
  | .linkDown port => port < 256
  | .remoteFault port _ _ => port < 256
  | .laneLos lane _ => lane < 256
  | .clientFrame port data _ => port < 256 && data.length ≤ 16384
  | .parse pipeline => pipeline < 16
  | .epochDrain => true
  | .egressFrameStart port => port < 256
  | .tsqPush port => port < 256
  | .larderRefill pool => pool < 16
  | .larderSpill pool => pool < 16
  | .larderAlloc pool owner => pool < 16 && owner < 1024
  | .larderFree token owner => token < 2 ^ 32 && owner < 1024
  | .larderShare token add last => token < 2 ^ 32 && add < 256 && last < 1024
  | .heldFreeResume pool => pool < 16
  | .poolStall pool => pool < 16
  | .hbmRetired stack => stack < 4
  | .hbmPurgeDone stack => stack < 4
  | .txDescriptor _ _ => true
  | .cqResume pair => pair < 256
  | .slowPathDelivery _ => true
  | .eventRaise _ _ code source _ _ _ => code < 65536 && source < 2048
  | .coalesceWindowClose source code _ => source < 2048 && code < 65536
  | .evtLost func => func < 2
  | .blackboxWrite => true
  | .msixHoldoffEnd func vector => func < 2 && vector < 258
  | .tileLinkLost tile => tile < 8
  | .tileDegraded tile => tile < 8
  | .tileRetrain tile _ => tile < 8
  | .quarantineExpiry type index => type < 64 && index < 65536
  | .servoUpdate => true
  | .ptmDialog _ => true
  | .ptmResponse _ _ => true
  | .ptmFail => true
  | .senseOutput _ _ _ => true
  | .rcPeriodCapture _ => true
  | .senseFallback input => 2 ≤ input && input ≤ 6
  | .coolantCondition _ => true
  | .junctionHigh readings => readings.length == 60
  | .thermalStop readings => readings.length == 60
  | .chargeStart => true
  | .capacitanceMeasure _ => true
  | .gaugeReanchor => true
  | .gaugeSkew => true
  | .curtainStart => true
  | .curtainStop => true
  | .resetNRelease => true
  | .lossOfAux => true
  | .railUp => true
  | .chargeComplete => true
  | .chargeTimeout => true
  | .powerStateTimeout => true
  | .delayListDue _ => true
  | .uartBreakEnd => true
  | .tileDegradedClear tile => tile < 8
  | .junctionHighClear readings => readings.length == 60
  | .demuxSettledAgain plane => plane < 16
  | .laserHeaterFaultClear x => x < 512
  | .gaugeSkewClear => true

end Sys2Proof
end

