-- ==== Sys2Proof/Tests/Slice0.lean ====
section
/-! SUPPORT. Tests: ill-formed commands are refused and boundary values pass, and one step or one field at a time against the worked
examples of the spec. -/

namespace Sys2Proof.Tests

open Sys2Proof.Machine

set_option Elab.async false

/-! ### Well-formedness -/

/-- A tag, a request, and what follows a function, a pair or a register number (R425, R430). -/
theorem test_wf_requests :
    Instr.wf (.echo .pf0 31 (List.replicate 127 0)) = true ∧ Instr.wf (.echo .pf0 32 []) = false ∧
    Instr.wf (.echo .pf0 0 (List.replicate 128 0)) = false ∧ Instr.wf (.commandTake .pf0 (List.replicate 128 0)) = true ∧
    Instr.wf (.commandTake .pf0 (List.replicate 129 0)) = false ∧ Instr.wf (.sbReq none (List.replicate 256 0)) = false := by
  decide +kernel

theorem test_wf_functions :
    Instr.wf (.mboxEnable 1) = true ∧ Instr.wf (.mboxEnable 2) = false ∧ Instr.wf (.dmaError 1 (some 255)) = true ∧
    Instr.wf (.dmaError 2 none) = false ∧ Instr.wf (.dmaError 0 (some 256)) = false ∧ Instr.wf (.registerWrite 0 0x1000000 0) = false ∧
    Instr.wf (.registerWrite 2 0 0) = false ∧ Instr.wf (.almStateRead 0 2048) = false ∧ Instr.wf (.hqTxPi 0 256 0) = false ∧
    Instr.wf (.msixHoldoffEnd 1 257) = true ∧ Instr.wf (.msixHoldoffEnd 1 258) = false := by decide

/-- A stage message and a key record whose fields do not fit (R94, R370). -/
theorem test_wf_messages :
    Instr.wf (.activate (message 3 0 [])) = true ∧ Instr.wf (.activate (message 4 0 [])) = false ∧
    Instr.wf (.activate { message 0 0 [] with plane := 16 }) = false ∧ Instr.wf (.activate { message 0 0 [] with type := 65536 }) = false ∧
    Instr.wf (.activate { message 0 0 [] with msgId := 65536 }) = false := by decide

theorem test_wf_records :
    Instr.wf (.offer 31 65535) = true ∧ Instr.wf (.offer 32 0) = false ∧ Instr.wf (.answer 0 65536) = false ∧
    Instr.wf (.hubAnswer 32 0) = false ∧ Instr.wf (.groupKey 0 65536) = false ∧ Instr.wf (.keyRecordTimeout 32 0) = false ∧
    Instr.wf (.keyRecordTimeout 0 65536) = false ∧ Instr.wf (.keyEpochErase 1087) = true ∧ Instr.wf (.keyEpochErase 1088) = false ∧
    Instr.wf (.tAns 64) = true ∧ Instr.wf (.tAns 65) = false := by decide

/-- The firewall, the gates, the straps and the sensors (R51, R383, R505, R518, R522). -/
theorem test_wf_module :
    Instr.wf (.firewallAccess false 4 false false 0 4) = false ∧ Instr.wf (.firewallAccess false 3 false false (2 ^ 64) 4) = false ∧
    Instr.wf (.fwRuleWrite 64 0 0 0) = false ∧ Instr.wf (.gateRelease 72) = true ∧ Instr.wf (.gateRelease 73) = false ∧
    Instr.wf (.debugAuthorisation (2 ^ 128) true) = false ∧ Instr.wf (.coreWait 4) = false ∧ Instr.wf (.strapSample [(64, false)]) = false ∧
    Instr.wf (.hbmTraining 4 true) = false ∧ Instr.wf (.tileLinkLost 8) = false ∧ Instr.wf (.senseFallback 1) = false ∧
    Instr.wf (.senseFallback 7) = false ∧ Instr.wf (.junctionHigh []) = false ∧ Instr.wf (.junctionHigh (readings 0)) = true := by decide

/-- Planes, transmitters, lanes, groups and ports (R21, R27, R196, R227, R283). -/
theorem test_wf_stage :
    Instr.wf (.tRwin 15) = true ∧ Instr.wf (.tRwin 16) = false ∧ Instr.wf (.pedestalSettled 511) = true ∧ Instr.wf (.pedestalSettled 512) = false ∧
    Instr.wf (.reconcilerEntry 65) = true ∧ Instr.wf (.reconcilerEntry 1024) = false ∧ Instr.wf (.payloadDecode 66) = true ∧
    Instr.wf (.payloadDecode 65) = false ∧ Instr.wf (.cueFrame 0 1791 []) = true ∧ Instr.wf (.cueFrame 0 1792 []) = false ∧
    Instr.wf (.sdBlockClose 255 17) = false ∧ Instr.wf (.wtrExpiry 256) = false ∧ Instr.wf (.rateControl true 2047 0 []) = true ∧
    Instr.wf (.rateControl false 256 0 []) = false ∧
    Instr.wf (.linkUp 256) = false ∧ Instr.wf (.clientFrame 0 (List.replicate 16385 0) 0) = false ∧ Instr.wf (.parse 16) = false := by
  decide +kernel

theorem test_wf_stores :
    Instr.wf (.larderRefill 16) = false ∧ Instr.wf (.larderAlloc 0 1024) = false ∧ Instr.wf (.larderFree (2 ^ 32) 0) = false ∧
    Instr.wf (.larderShare 0 256 0) = false ∧ Instr.wf (.larderShare 0 255 1023) = true ∧ Instr.wf (.eventRaise true false 65536 0 .minor 0 0) = false ∧
    Instr.wf (.eventRaise true false 0 2048 .minor 0 0) = false ∧ Instr.wf (.coalesceWindowClose 0 65536 0) = false ∧
    Instr.wf (.quarantineExpiry 64 0) = false ∧ Instr.wf (.quarantineExpiry 0 65536) = false := by decide

/-! ### The block -/

/-- The command in front leaves the queue; with an empty queue one core cycle passes (assumption 1). -/
theorem test_step_takes_the_front : ∃ t, step { up with pending := [.coreWait 3, .perstN true] } = .next t ∧ t.pending = [.perstN true] :=
  ⟨_, rfl, by decide +kernel⟩

theorem test_empty_queue_passes_a_cycle : ∃ t, step up = .next t ∧ t.clock.now = up.clock.now + 1 ∧ t.pending = [] :=
  ⟨_, rfl, by decide +kernel⟩

/-! ### Worked examples of the spec -/

/-- The check value of R577: the nine characters 1 to 9. -/
theorem test_crc32 : crc32 [0x31, 0x32, 0x33, 0x34, 0x35, 0x36, 0x37, 0x38, 0x39] = 0xCBF4_3926#32 := by decide +kernel

/-- The check value of the CRC-8 of SMBus, over the same nine characters. -/
theorem test_pec : pecOf [0x31, 0x32, 0x33, 0x34, 0x35, 0x36, 0x37, 0x38, 0x39] = 0xF4#8 := by decide +kernel

/-- The worked example after R77: the scrambler's seed in slot 77 of superframe 0x123456 on wavelength 17. -/
theorem test_seed : burstSeed 0x123456 77 17 = 0x22B4_D465 := by decide

/-- The header code has degree 48 (R69), and corrects a header bit, here the last of its fields. -/
theorem test_header_code :
    headerGenerator / 2 ^ 48 = 1 ∧ headerDecode (headerEncode (2 ^ 271 + 5) ^^^ 2 ^ 48) = some ⟨2 ^ 271 + 5, 1, false⟩ := by decide +kernel

/-- The hash of the GCM specification's test case 2 (R353 names GCM). -/
theorem test_ghash : ghash 0x66e94bd4ef8a2c3b884cfa59ca342b2e [0x0388dace60b6a392f328c2b971b2fe78, 128] = 0xf38cbb1ad69223dcc3457ae5b6b0f885 := by
  decide +kernel

/-- The worked example of spec/13_line_security.md: the IV of TN3's burst to TN8 by transmitter 273, and its first counter. -/
theorem test_iv :
    burstIv 3 273 (keyHolder false 8) 0x0000_0002_A80E_2A05 = 0x0711_0008_0000_0002_A80E_2A05 ∧
    counterBlock (gcmJ0 (burstIv 3 273 (keyHolder false 8) 0x0000_0002_A80E_2A05)) 1 % 2 ^ 32 = 2 := by decide +kernel

/-- The worked example of spec/08_broadcast_receive.md: verdict KEEP, a PACKET burst of TN3 by transmitter 274, 3 symbols corrected, -7
units and +5 sixteenths. -/
theorem test_ledger_entry :
    entryBits { rxRecordReset with verdict := 5, decoded := true, type := 1, tn := 3, x := 274, rsCorr := 3, wlErr := -7, arrival := 5 } =
      0x511A_2400_30FF_900A#64 := by decide

/-- The worked example of spec/09_express_circuits.md: the overhead's first 48 bits in slot (31,252, 5). -/
theorem test_overhead :
    writeOverhead ⟨5, 435209, 9, false, false, false, 0, false, 0, true⟩ / 2 ^ 16 = 0x056A_4094_8000 ∧
    readOverhead (writeOverhead ⟨5, 435209, 9, false, false, false, 0, false, 0, true⟩) = ⟨5, 435209, 9, false, false, false, 0, false, 0, true⟩ := by
  decide +kernel

/-- The worked example of spec/06_cue_sheets_and_grants.md: the record of member 4, and the entry that restates it. -/
theorem test_sheet_record :
    recordSheet 31248 0 (0x4015_4B8E_20A8_8000_7A14_7A18 * 2 ^ 32) = ⟨2, 23, 3, 17, false, 42, 4, 0, 0, 31252, 31256, 0, false⟩ ∧
    sheetRecord 0x15 ⟨2, 23, 3, 17, false, 42, 4, 0, 0, 31252, 31256, 0, false⟩ = 0x4015_4B8E_20A8_8000 := by decide

theorem test_grant_entry :
    rawEntry 0x51C4_1510 = ⟨2, true, 3, 17, false, 42, 4, 1, 0⟩ ∧ entryOk (rawEntry 0x51C4_1510) = true ∧
    entryWord (rawEntry 0x51C4_1510) = 0x51C4_1510#32 := by decide

/-- The example after R160: 3,000,000 bytes are E = 11 and 1,465. -/
theorem test_occupancy : encodeBytes 3000000 = 0x5DB9 := by decide

/-- The worked example after R18: the source of plane P9's ranging. -/
theorem test_source : srcPlane 9 3 = 1611 := by decide

/-- The worked example of spec/10_tributary_interchange.md: the egress entries of parts 0 and 1. -/
theorem test_interchange_entry :
    entryValid 0xA00A_9B00_C4D0_0000#64 = true ∧ entryCirc 0xA00A_9B00_C4D0_0000#64 = 5 ∧ entrySrc 0xA00A_9B00_C4D0_0000#64 = (310, 0, 3) ∧
    entryDst 0xA00A_9B00_C4D0_0000#64 = (77, 0, 0) ∧ entrySrc 0xA00A_9B01_04D0_0800#64 = (310, 0, 4) ∧
    entryDst 0xA00A_9B01_04D0_0800#64 = (77, 0, 1) := by decide

/-- The worked example of spec/15_zordin_interface.md: JOIN_START with tag 5 is accepted, and the response slot holds 0x8005_0001,
little-endian. -/
theorem test_join_start_response :
    (after (.joinStart .pf0 5 []) ringing).hostMem = [(0, 1), (2, 5), (3, 0x80)] := by decide +kernel

/-- The same example: a handle of an earlier generation gives 0x8087_0005. -/
theorem test_stale_response :
    (after (.groupStatus .pf0 7 [0x0402_002A, 0]) (setChan 1 42 { chanSlotReset with live := true, gen := 3 } ringing)).hostMem =
      [(0, 5), (2, 0x87), (3, 0x80)] ∧
    liveHandle 1 42 (setChan 1 42 { chanSlotReset with live := true, gen := 3 } ringing) = 0x0403_002A := by decide +kernel

/-- JOIN_START's header, 0x0005_0202, is outstanding once it is taken. -/
theorem test_command_header : (after (.commandTake .pf0 [0x0005_0202]) commanded).zordin.pf0.outstanding = [⟨5, 0x0202⟩] := by decide +kernel

/-- The worked example after R329: three classes, three bursts. -/
def fillState : State :=
  let q := fun (n len : Nat) => List.replicate n (⟨List.replicate len 0, 0, [], none, none⟩ : QFrame)
  { up with queues := { up.queues with
    voqCfg := [(8 * 8, ⟨1000, 4096, 2048⟩), (8 * 8 + 2, ⟨3000, 4096, 2048⟩), (8 * 8 + 5, ⟨6000, 4096, 2048⟩)]
    planeQueues := [(queueKey 8 0 0 5, q 2 1500), (queueKey 8 0 2 5, q 5 1000), (queueKey 8 0 5 5, q 4 2000)] } }
def fillOf (s : State) : FillRun := runFill ⟨8, 0, 5, false, 8, 0, List.replicate 8 0, false⟩ 0 0 s
def filled (r : FillRun) : List (Nat × Nat) × Nat × Drr := (r.units.map (fun u => (u.cls, u.frameLen)), r.fill, drrOf 8 0 5 r.m)

theorem test_fill_first :
    filled (fillOf fillState) =
      ([(2, 1000), (2, 1000), (2, 1000), (5, 2000), (2, 1000)], 6040, ⟨5, false, [2000, 0, 2000, 0, 0, 4000, 0, 0]⟩) := by decide +kernel

theorem test_fill_second :
    filled (fillOf (fillOf fillState).m) = ([(5, 2000), (5, 2000), (0, 1500)], 5524, ⟨0, false, [1500, 0, 5000, 0, 0, 6000, 0, 0]⟩) := by
  decide +kernel

/-- The worked example of spec/18_stagehand_sensing.md: a capture of 125.000 ms moves P from 125 µs to 124.6337890625 µs. -/
theorem test_rc_period : (after (.rcPeriodCapture 125000000) up).island.chain.period * 10 ^ 7 = 1246337890625 * 2 ^ 32 := by decide +kernel

/-- The worked example of spec/19_power_heat_curtain.md: E_v of 9.100 V and E_full of a 47 mF store, 42.54 mJ and 1,480.5 mJ. -/
theorem test_energy : energyOf 47000000 9100000 9000000 = 42535000 ∧ energyOf 47000000 12000000 9000000 = 1480500000 := by decide

end Sys2Proof.Tests
end

