-- ==== Sys2Proof/Tests/WitnessCommands.lean ====
section
/-! SUPPORT. Witnesses: the commands of the mailbox. For every clause that has conditions, a state and
operands that meet all of them together; each theorem applies a statement there, so its proof is the check that they hold. -/

namespace Sys2Proof.Tests

open Sys2Proof.Machine

set_option Elab.async false

theorem witness_GeneralCommandsComplete (h : Obligations.GeneralCommandsComplete) :
    Runs (.identity .pf0 0 []) State.reset ∧ Runs (.echo .pf1 31 [7]) State.reset ∧
    Runs (.handleInfo .pf0 0 [w [(0, 0x0C), (16, 15)]]) up ∧ Runs (.handleList .pf0 0 [w [(0, 3)], w [(0, 4095), (16, 64)]]) up ∧
    Runs (.schedStatus .sideband 0 [0]) up ∧ Runs (.funcStatus .pf0 0 [w [(0, 1), (8, 1)]]) up ∧ Runs (.funcStatus .pf1 0 [2]) up := by
  obtain ⟨h1, h2, h3, h4, h5, h6, h7⟩ := h
  refine ⟨completes_runs h1 ?_ ?_ ?_, completes_runs h2 ?_ ?_ ?_, completes_runs h3 ?_ ?_ ?_, completes_runs h4 ?_ ?_ ?_,
    completes_runs h5 ?_ ?_ ?_, completes_runs h6 ?_ ?_ ?_, completes_runs h7 ?_ ?_ ?_⟩ <;>
    (try unfold CanRun) <;> (try unfold anyone) <;> (try unfold clearByPf0) <;> decide +kernel

theorem witness_JoinCommandsComplete (h : Obligations.JoinCommandsComplete) :
    Runs (.joinConfig .pf0 0 [5, 1]) up ∧ Runs (.joinStart .pf0 0 []) up ∧ Runs (.joinStart .pf0 1 []) (joining .rejected 4) ∧
    Runs (.joinStatus .pf1 0 []) up ∧ Runs (.asymSet .pf0 0 [15, 0xFFFFFFFF]) up ∧
    Runs (.planeHold .pf0 0 [w [(0, 0x8000), (16, 1)]]) up ∧ Runs (.joinLeave .pf0 0 []) (joining .registered 0) ∧
    Runs (.ownershipStatus .sideband 0 []) up ∧ Runs (.joinCounters .pf1 0 [15]) up ∧
    Runs (.joinCounters .pf0 0 [w [(0, 16), (8, 1)]]) up := by
  obtain ⟨h1, h2, h3, h4, h5, h6, h7, h8, h9, h10⟩ := h
  refine ⟨completes_runs h1 ?_ ?_ ?_, accepts_runs h2 ?_ ?_ ?_, accepts_runs h3 ?_ ?_ ?_, completes_runs h4 ?_ ?_ ?_,
    completes_runs h5 ?_ ?_ ?_, completes_runs h6 ?_ ?_ ?_, accepts_runs h7 ?_ ?_ ?_, completes_runs h8 ?_ ?_ ?_,
    completes_runs h9 ?_ ?_ ?_, completes_runs h10 ?_ ?_ ?_⟩ <;>
    (try unfold CanRun) <;> (try unfold anyone) <;> (try unfold clearByPf0) <;> decide +kernel

theorem witness_GrantCommandsComplete (h : Obligations.GrantCommandsComplete) :
    Runs (.grantView .pf0 0 [0, 0, w [(16, 5)]]) granted ∧ Runs (.standingRead .pf0 0 [w [(8, 255), (16, 16)]]) up ∧
    Runs (.reportConfig .pf0 0 [128]) up ∧ Runs (.grantCounters .pf1 0 [15]) up := by
  obtain ⟨h1, h2, h3, h4⟩ := h
  refine ⟨completes_runs h1 ?_ ?_ ⟨by decide +kernel, 5, by decide +kernel, by decide +kernel⟩, completes_runs h2 ?_ ?_ ?_,
    completes_runs h3 ?_ ?_ ?_, completes_runs h4 ?_ ?_ ?_⟩ <;>
    (try unfold CanRun) <;> (try unfold clearByPf0) <;> decide +kernel

theorem witness_TransmitCommandsComplete (h : Obligations.TransmitCommandsComplete) :
    Runs (.txStatus .pf0 0 [w [(0, 448), (16, 64)]]) up ∧ Runs (.txService .pf0 0 [0]) (sender .out .drift) ∧
    Runs (.txService .pf0 0 [w [(16, 1)]]) (sender .failed .retune) ∧ Runs (.txService .pf0 0 [0]) (sender .out .host) ∧
    Runs (.txCounters .pf1 0 [511]) up ∧ Runs (.tuneTableRead .pf0 0 [w [(16, 57), (24, 8)]]) (sender .warming .none) ∧
    Runs (.txConfig .pf0 0 [w [(8, 1)]]) up ∧ Runs (.trimReset .pf0 0 [511]) up := by
  obtain ⟨h1, h2, h3, h4, h5, h6, h7, h8⟩ := h
  refine ⟨completes_runs h1 ?_ ?_ ?_, completes_runs h2 ?_ ?_ ?_, completes_runs h3 ?_ ?_ ?_, completes_runs h4 ?_ ?_ ?_,
    completes_runs h5 ?_ ?_ ?_, completes_runs h6 ?_ ?_ ?_, completes_runs h7 ?_ ?_ ?_, completes_runs h8 ?_ ?_ ?_⟩ <;>
    (try unfold CanRun) <;> (try unfold clearByPf0) <;> decide +kernel

theorem witness_ReceiveCommandsComplete (h : Obligations.ReceiveCommandsComplete) :
    Runs (.rxLaneStatus .pf0 0 [w [(0, 960), (16, 64)]]) up ∧ Runs (.rxCounters .pf0 0 [w [(0, 1023), (16, 1)]]) up ∧
    Runs (.rxSenderStats .pf1 0 [w [(0, 15), (8, 29)]]) up ∧ Runs (.rxMembership .pf0 0 [w [(0, 1023), (16, 1)]]) up ∧
    Runs (.rxMembership .sideband 0 [w [(16, 2)]]) up ∧ Runs (.rxLedgerTap .pf0 0 [w [(0, 1008), (16, 16)], 256, 0]) up ∧
    Runs (.rxCueCounters .pf1 0 [w [(0, 15), (8, 1)]]) up := by
  obtain ⟨h1, h2, h3, h4, h5, h6, h7⟩ := h
  refine ⟨completes_runs h1 ?_ ?_ ?_, completes_runs h2 ?_ ?_ ?_, completes_runs h3 ?_ ?_ ?_, completes_runs h4 ?_ ?_ ?_,
    completes_runs h5 ?_ ?_ ?_, accepts_runs h6 ?_ ?_ ?_, completes_runs h7 ?_ ?_ ?_⟩ <;>
    (try unfold CanRun) <;> (try unfold clearByPf0) <;> decide +kernel

theorem witness_ExpressCommandsComplete (h : Obligations.ExpressCommandsComplete) :
    Runs (.groupCreate .pf0 0 [w [(0, 1023), (16, 29)], w [(0, 1), (4, 2)], 7, 0]) (withPort 0 1 true up) ∧
    Runs (.groupDestroy .pf0 0 [handle 1 0]) group1 ∧ Runs (.groupStatus .pf0 0 [handle 1 0, 1]) group1 ∧
    Runs (.groupResize .pf0 0 [handle 1 0, w [(0, 1), (4, 16)]]) group1 ∧
    Runs (.pairCreate .pf0 0 [handle 1 0, handle 1 1, w [(8, 100), (16, 720)]]) group2 ∧ Runs (.pairDestroy .pf0 0 [handle 1 0]) paired ∧
    Runs (.protectRequest .pf0 0 [handle 1 0, 4]) paired ∧ Runs (.protectRequest .pf1 0 [handle 1 0, 7]) paired ∧
    Runs (.groupCounters .pf0 0 [handle 1 0, 1]) group1 ∧ Runs (.lanePlacementRead .pf1 0 []) up := by
  obtain ⟨h1, h2, h3, h4, h5, h6, h7, h8, h9, h10⟩ := h
  refine ⟨completes_runs h1 ?_ ?_ ?_, completes_runs h2 ?_ ?_ ?_, completes_runs h3 ?_ ?_ ?_, accepts_runs h4 ?_ ?_ ?_,
    completes_runs h5 ?_ ?_ ?_, completes_runs h6 ?_ ?_ ?_, completes_runs h7 ?_ ?_ ?_, completes_runs h8 ?_ ?_ ?_,
    completes_runs h9 ?_ ?_ ?_, completes_runs h10 ?_ ?_ ?_⟩ <;>
    (try unfold CanRun) <;> (try unfold anyone) <;> (try unfold clearByPf0) <;> (try unfold valid0) <;> (try unfold hasIndex) <;> decide +kernel

theorem witness_TributaryCommandsComplete (h : Obligations.TributaryCommandsComplete) :
    Runs (.tribGroupCreate .pf0 0 [w [(0, 1023), (16, 29), (24, 1)], 0x1E000, 0]) up ∧
    Runs (.tribCreate .pf0 0 [w [(8, 1), (16, 255)]]) (withPort 255 6 true up) ∧ Runs (.tribDestroy .pf0 0 [handle 2 0]) tributary ∧
    Runs (.wingsWrite .pf0 0 [4095, 0, 0x80000000]) tributary ∧ Runs (.pageRead .pf1 0 [w [(0, 4080), (16, 16), (24, 1)]]) up ∧
    Runs (.wingsCopy .pf0 0 []) up ∧ Runs (.pageSwap .pf0 0 [0, 1, 0]) up ∧ Runs (.pageSwap .pf0 0 [1, 0, 0]) swapping := by
  obtain ⟨h1, h2, h3, h4, h5, h6, h7, h8⟩ := h
  refine ⟨completes_runs h1 ?_ ?_ ?_, completes_runs h2 ?_ ?_ ?_, completes_runs h3 ?_ ?_ ?_, completes_runs h4 ?_ ?_ ?_,
    completes_runs h5 ?_ ?_ ?_, completes_runs h6 ?_ ?_ ?_, completes_runs h7 ?_ ?_ ?_,
    completes_runs h8 ?_ ?_ ⟨by decide +kernel, by decide +kernel, 2, by decide +kernel, by decide +kernel⟩⟩ <;>
    (try unfold CanRun) <;> (try unfold valid0) <;> (try unfold hasIndex) <;> decide +kernel

theorem witness_PortCommandsComplete (h : Obligations.PortCommandsComplete) :
    Runs (.portConfig .pf0 0 [w [(0, 255), (8, 1)], w [(16, 1518)]]) up ∧ Runs (.portConfig .pf0 0 [0, 0]) (withPort 0 1 false up) ∧
    Runs (.portConfig .pf0 0 [w [(8, 1), (11, 1)], w [(16, 10240)]]) (withPort 0 1 true up) ∧
    Runs (.portStatus .pf1 0 [255]) (withPort 255 1 true up) ∧
    Runs (.portCounters .pf0 0 [w [(0, 255), (16, 1)]]) (withPort 255 1 true up) ∧ Runs (.graphCreate .pf0 0 []) up ∧
    Runs (.nodeWrite .pf0 0 (handle 6 0 :: 255 :: List.replicate 32 0)) graphed ∧ Runs (.rulesetCreate .pf0 0 []) up ∧
    Runs (.ruleWrite .pf0 0 (handle 7 0 :: 4095 :: List.replicate 40 0)) graphed ∧
    Runs (.rulesetParam .pf0 0 (handle 7 0 :: w [(0, 2), (8, 7)] :: List.replicate 18 0)) graphed ∧
    Runs (.classifyDestroy .pf0 0 [handle 6 0]) graphed ∧ Runs (.classifyDestroy .pf0 0 [handle 7 0]) graphed := by
  obtain ⟨h1, h2, h3, h4, h5, h6, h7, h8, h9, h10, h11, h12⟩ := h
  refine ⟨completes_runs h1 ?_ ?_ ?_, completes_runs h2 ?_ ?_ ?_, completes_runs h3 ?_ ?_ ?_, completes_runs h4 ?_ ?_ ?_,
    completes_runs h5 ?_ ?_ ?_, completes_runs h6 ?_ ?_ ?_, completes_runs h7 ?_ ?_ ?_, completes_runs h8 ?_ ?_ ?_,
    completes_runs h9 ?_ ?_ ?_,
    completes_runs h10 ?_ ?_ ⟨by decide, by unfold valid0; decide +kernel, by decide, by decide, by decide +kernel, fun h => absurd h (by decide)⟩,
    completes_runs h11 ?_ ?_ ?_, completes_runs h12 ?_ ?_ ?_⟩ <;>
    (try unfold CanRun) <;> (try unfold clearByPf0) <;> (try unfold valid0) <;> (try unfold hasIndex) <;> decide +kernel

theorem witness_ClassifierCommandsComplete (h : Obligations.ClassifierCommandsComplete) :
    Runs (.classifyActivate .pf0 0 [handle 6 0, handle 7 0]) graphed ∧ Runs (.fibInsert .pf0 0 [7, 0x80000000, 29]) labelled ∧
    Runs (.fibInsert .pf0 0 [0xFFFFFFFF, 0x0FFEFFFF, 29]) up ∧ Runs (.fibDelete .pf0 0 [7, 0x80000000]) labelled ∧
    Runs (.fibRead .pf1 0 [7, 0x80000000]) labelled ∧ Runs (.indirectionWrite .pf0 0 (w [(0, 30), (8, 255), (16, 1)] :: [5])) up ∧
    Runs (.slowPathConfig .pf0 0 [1000, 16777216]) up ∧ Runs (.classifyCounters .pf1 0 [0]) up ∧
    Runs (.flowBindCreate .pf0 0 [w [(0, 30), (8, 15)], 9]) up ∧ Runs (.flowBindDestroy .pf0 0 [handle 3 0]) bound ∧
    Runs (.flowBindStatus .pf0 0 [handle 3 0, 1]) bound := by
  obtain ⟨h1, h2, h3, h4, h5, h6, h7, h8, h9, h10, h11⟩ := h
  refine ⟨
    ⟨_, h1 _ _ _ _ (some 0) (some 0) (by unfold CanRun; decide +kernel) (by decide) rfl (by decide +kernel) (by decide +kernel) (by decide +kernel) (by decide +kernel)⟩,
    ⟨_, h2 _ _ _ _ (mplsKey 7) false 0 (by unfold CanRun; decide +kernel) (by decide) rfl (by decide +kernel) (by decide +kernel) (by decide +kernel)⟩,
    ⟨_, h3 _ _ _ _ _ false (by unfold CanRun; decide +kernel) (by decide) rfl (by rfl) (by decide +kernel) (by decide +kernel) (by decide +kernel) (by decide +kernel)⟩,
    ⟨_, h4 _ _ _ _ (mplsKey 7) (by unfold CanRun; decide +kernel) (by decide) rfl (by decide +kernel)⟩, completes_runs h5 ?_ ?_ ?_,
    completes_runs h6 ?_ ?_ ?_, completes_runs h7 ?_ ?_ ?_, completes_runs h8 ?_ ?_ ?_, completes_runs h9 ?_ ?_ ?_,
    completes_runs h10 ?_ ?_ ?_, completes_runs h11 ?_ ?_ ?_⟩ <;>
    (try unfold CanRun) <;> (try unfold anyone) <;> (try unfold clearByPf0) <;> (try unfold valid0) <;> (try unfold hasIndex) <;> decide +kernel

theorem witness_QueueCommandsComplete (h : Obligations.QueueCommandsComplete) :
    Runs (.voqConfig .pf0 0 [w [(0, 30), (8, 7), (16, 64)], w [(0, 2048), (16, 2048)]]) up ∧
    Runs (.voqStatus .pf1 0 [w [(0, 30), (8, 7)]]) up ∧ Runs (.meterCreate .pf0 0 [w [(2, 573)], 26000000, 26000000, 10240, 10240]) up ∧
    Runs (.meterDestroy .pf0 0 [handle 4 0]) metered ∧ Runs (.shaperAttach .pf0 0 [handle 4 0, w [(2, 30), (8, 7)]]) shaping ∧
    Runs (.shaperAttach .pf0 0 [handle 4 0, w [(0, 1), (2, 30), (8, 7)]]) attached ∧
    Runs (.egressConfig .pf1 0 [w [(0, 7), (8, 1)], 0, 0]) up ∧ Runs (.egressConfig .pf0 0 [7, 0, 0]) up ∧
    Runs (.mcastCreate .pf0 0 (1023 :: List.replicate 8 0)) up ∧
    Runs (.mcastPorts .pf0 0 (handle 0x0B 0 :: List.replicate 8 5)) grouped ∧ Runs (.mcastDestroy .pf0 0 [handle 0x0B 0]) grouped ∧
    Runs (.queueCounters .pf1 0 [w [(2, 30), (8, 7)], 0]) up ∧ Runs (.queueCounters .pf0 0 [w [(0, 1), (16, 1)], handle 4 0]) metered ∧
    Runs (.queueCounters .pf0 0 [2, handle 0x0C 4]) up ∧ Runs (.queueCounters .pf0 0 [w [(0, 3), (8, 7), (16, 1)], 0]) up := by
  obtain ⟨h1, h2, h3, h4, h5, h6, h7, h8, h9, h10, h11, h12, h13, h14, h15⟩ := h
  refine ⟨completes_runs h1 ?_ ?_ ?_, completes_runs h2 ?_ ?_ ?_, completes_runs h3 ?_ ?_ ?_, completes_runs h4 ?_ ?_ ?_,
    completes_runs h5 ?_ ?_ ?_, completes_runs h6 ?_ ?_ ?_, completes_runs h7 ?_ ?_ ?_, completes_runs h8 ?_ ?_ ?_,
    completes_runs h9 ?_ ?_ ?_, completes_runs h10 ?_ ?_ ?_, completes_runs h11 ?_ ?_ ?_, completes_runs h12 ?_ ?_ ?_,
    completes_runs h13 ?_ ?_ ?_, completes_runs h14 ?_ ?_ ?_, completes_runs h15 ?_ ?_ ?_⟩ <;>
    (try unfold CanRun) <;> (try unfold clearByPf0) <;> (try unfold valid0) <;> (try unfold hasIndex) <;> decide +kernel

theorem witness_LarderCommandsComplete (h : Obligations.LarderCommandsComplete) :
    Runs (.poolCreate .pf0 0 [w [(0, 3), (4, 6)], 32768]) up ∧ Runs (.poolDestroy .pf0 0 [handle 0x0C 5]) pooled ∧
    Runs (.poolStatus .pf1 0 [handle 0x0C 0]) up ∧ Runs (.bufAlloc .pf0 0 [handle 0x0C 5]) pooled ∧
    Runs (.bufFree .pf0 0 [handle 0x0C 5, 0x50000001]) holding := by
  obtain ⟨h1, h2, h3, h4, h5⟩ := h
  refine ⟨completes_runs h1 ?_ ?_ ?_, completes_runs h2 ?_ ?_ ?_, completes_runs h3 ?_ ?_ ?_,
    completes_runs h4 ?_ ?_ ⟨by decide +kernel, by unfold valid0; decide +kernel, by decide +kernel, _, rfl⟩, completes_runs h5 ?_ ?_ ?_⟩ <;>
    (try unfold CanRun) <;> (try unfold valid0) <;> (try unfold hasIndex) <;> decide +kernel

theorem witness_SecurityCommandsComplete (h : Obligations.SecurityCommandsComplete) :
    Runs (.peerKeyCreate .pf0 0 [29]) keyed ∧ Runs (.peerKeyDestroy .pf0 0 [handle 9 0]) (openChan .peerKey 0 up) ∧
    Runs (.peerKeyStatus .pf1 0 [0]) up ∧ Runs (.keyRoll .pf0 0 [0]) keyed ∧ Runs (.keyPolicy .pf0 0 [w [(0, 40), (8, 34)]]) up ∧
    Runs (.seqStatus .pf1 0 []) up ∧ Runs (.identityRead .pf1 0 [0xFFFF]) up ∧ Runs (.entropyStatus .sideband 0 []) up ∧
    Runs (.gateStatus .pf1 0 [7]) up ∧ Runs (.secCounters .pf0 0 [1]) up := by
  obtain ⟨h1, h2, h3, h4, h5, h6, h7, h8, h9, h10⟩ := h
  refine ⟨accepts_runs h1 ?_ ?_ ?_, completes_runs h2 ?_ ?_ ?_, ⟨_, h3 _ _ _ _ 64 (by unfold CanRun; decide +kernel) (by decide) rfl⟩,
    ⟨_, h4 _ _ _ _ 64 (by unfold CanRun; decide +kernel) (by decide) rfl rfl (by decide +kernel) (by decide +kernel) (by decide +kernel)⟩,
    completes_runs h5 ?_ ?_ ?_, completes_runs h6 ?_ ?_ ?_, completes_runs h7 ?_ ?_ ?_, completes_runs h8 ?_ ?_ ?_,
    completes_runs h9 ?_ ?_ ?_, completes_runs h10 ?_ ?_ ?_⟩ <;>
    (try unfold CanRun) <;> (try unfold anyone) <;> (try unfold clearByPf0) <;> (try unfold valid0) <;> (try unfold hasIndex) <;> decide +kernel

theorem witness_TimeCommandsComplete (h : Obligations.TimeCommandsComplete) :
    Runs (.timeConfig .pf0 0 [w [(8, 7), (12, 15)], 10000, w [(1, 500000)], 0]) up ∧ Runs (.timeStatus .pf1 0 [0]) up ∧
    Runs (.timeRead .pf1 0 []) up ∧ Runs (.tsPortCreate .pf0 0 [255, 0, 0xFFFFFFFF]) (withPort 255 1 false up) ∧
    Runs (.tsPortDestroy .pf0 0 [handle 0x0A 0]) stamping ∧ Runs (.ptmConfig .pf0 0 [w [(0, 1), (16, 1000)]]) up ∧
    Runs (.ptmRead .pf1 0 []) (modTime (fun t => { t with ptm := { t.ptm with valid := true } }) up) ∧
    Runs (.ppsInRead .pf1 0 []) (modTime (fun t => { t with ppsEdge := some 0 }) up) := by
  obtain ⟨h1, h2, h3, h4, h5, h6, h7, h8⟩ := h
  refine ⟨completes_runs h1 ?_ ?_ ?_, completes_runs h2 ?_ ?_ ?_, completes_runs h3 ?_ ?_ ?_, completes_runs h4 ?_ ?_ ?_,
    completes_runs h5 ?_ ?_ ?_, completes_runs h6 ?_ ?_ ?_, completes_runs h7 ?_ ?_ ?_, completes_runs h8 ?_ ?_ ?_⟩ <;>
    (try unfold CanRun) <;> (try unfold anyone) <;> (try unfold clearByPf0) <;> (try unfold valid0) <;> (try unfold hasIndex) <;> decide +kernel

theorem witness_HostQueueCommandsComplete (h : Obligations.HostQueueCommandsComplete) :
    Runs (.qpCreate .pf0 0 [w [(0, 1), (12, 15), (16, 15), (20, 14)], w [(0, 16), (8, 64)], 0, 0, 0, 0, 0, 0]) up ∧
    Runs (.qpDestroy .pf0 0 [handle 5 0]) paired1 ∧ Runs (.qpStart .pf1 0 [handle 5 0]) paired1 ∧
    Runs (.qpStop .pf1 0 [handle 5 0]) running1 ∧
    Runs (.qpStop .pf1 0 [handle 5 0]) (modPair 0 (fun q => { q with held := [aCompletion] }) running1) ∧
    Runs (.qpStatus .sideband 0 [handle 5 0]) running1 ∧ Runs (.qpSched .pf0 0 [handle 5 0, w [(0, 16), (8, 64)]]) paired1 ∧
    Runs (.slowpathMap .pf0 0 [7, handle 5 0]) paired1 ∧ Runs (.watchSet .pf0 0 (15 :: List.replicate 16 (handle 5 0))) paired1 ∧
    Runs (.qpCounters .pf1 0 [0, 0]) up ∧ Runs (.qpCounters .pf0 0 [handle 5 0, 1]) paired1 := by
  obtain ⟨h1, h2, h3, h4, h5, h6, h7, h8, h9, h10, h11⟩ := h
  refine ⟨completes_runs h1 ?_ ?_ ?_, completes_runs h2 ?_ ?_ ?_, completes_runs h3 ?_ ?_ ?_, completes_runs h4 ?_ ?_ ?_,
    ⟨_, h5 _ _ _ _ (by unfold CanRun; decide +kernel) (by decide) (by unfold ownPair; decide +kernel) (by unfold valid0; decide +kernel) (by decide +kernel) (by decide +kernel)⟩,
    completes_runs h6 ?_ ?_ ?_, completes_runs h7 ?_ ?_ ?_, completes_runs h8 ?_ ?_ ?_, completes_runs h9 ?_ ?_ ?_,
    completes_runs h10 ?_ ?_ ?_, completes_runs h11 ?_ ?_ ?_⟩ <;>
    (try unfold CanRun) <;> (try unfold clearByPf0) <;> (try unfold ownPair) <;> (try unfold valid0) <;> (try unfold hasIndex) <;> decide +kernel

theorem witness_EventCommandsComplete (h : Obligations.EventCommandsComplete) :
    Runs (.evtConfig .pf1 0 [7, 1023, 1000000, 0, 0, 0]) up ∧ Runs (.evtConfig .sideband 0 [1, 0, 0, 0, 0, 0]) up ∧
    Runs (.alarmRead .pf1 0 [w [(0, 2017), (16, 31)]]) up ∧ Runs (.alarmSummary .pf1 0 []) up ∧
    Runs (.evtCounters .pf0 0 [w [(0, 3), (8, 1)]]) up ∧ Runs (.evtCounters .pf1 0 [2]) up ∧
    Runs (.blackboxRead .pf1 0 [w [(0, 255), (8, 8)]]) up ∧ Runs (.blackboxClear .pf0 0 []) up ∧ Runs (.evtTest .pf0 0 [4, 9]) up := by
  obtain ⟨h1, h2, h3, h4, h5, h6, h7, h8, h9⟩ := h
  refine ⟨completes_runs h1 ?_ ?_ ?_, completes_runs h2 ?_ ?_ ?_, completes_runs h3 ?_ ?_ ?_, completes_runs h4 ?_ ?_ ?_,
    completes_runs h5 ?_ ?_ ?_, completes_runs h6 ?_ ?_ ?_, completes_runs h7 ?_ ?_ ?_, completes_runs h8 ?_ ?_ ?_,
    completes_runs h9 ?_ ?_ ?_⟩ <;>
    (try unfold CanRun) <;> (try unfold anyone) <;> (try unfold clearByPf0) <;> decide +kernel

theorem witness_SensingCommandsComplete (h : Obligations.SensingCommandsComplete) :
    Runs (.senseConfig .sideband 0 [0x01010101, 0x0101, 0, 0, 0, 0, 0, 0, 1]) State.reset ∧ Runs (.senseLatest .pf1 0 []) State.reset ∧
    Runs (.sensorCreate .sideband 0 [w [(0, 15), (9, 1), (10, 1), (16, 255)], 5, 5, 0]) State.reset ∧
    Runs (.sensorDestroy .pf0 0 [handle 8 0]) sensing ∧ Runs (.senseRead .pf0 0 [handle 8 0, 16]) sensing ∧
    Runs (.coefWrite .pf0 0 (w [(0, 1), (8, 120), (16, 2952)] :: List.replicate 120 0)) State.reset ∧
    Runs (.coefRead .pf1 0 [w [(8, 16)]]) State.reset ∧ Runs (.coefSwap .sideband 0 []) unity ∧ Runs (.shStatus .pf1 0 [0]) State.reset ∧
    Runs (.senseCounters .pf0 0 [w [(0, 15), (8, 1)]]) State.reset := by
  obtain ⟨h1, h2, h3, h4, h5, h6, h7, h8, h9, h10⟩ := h
  refine ⟨completes_runs h1 ?_ ?_ ?_, completes_runs h2 ?_ ?_ ?_, completes_runs h3 ?_ ?_ ?_, completes_runs h4 ?_ ?_ ?_,
    completes_runs h5 ?_ ?_ ?_, completes_runs h6 ?_ ?_ ?_, completes_runs h7 ?_ ?_ ?_,
    ⟨_, h8 _ _ _ _ (by unfold CanRun; decide +kernel) (by decide) unity_noSwap unity_sums unity_on⟩, completes_runs h9 ?_ ?_ ?_,
    completes_runs h10 ?_ ?_ ?_⟩ <;>
    (try unfold CanRun) <;> (try unfold anyone) <;> (try unfold valid0) <;> (try unfold hasIndex) <;> decide +kernel

theorem witness_PowerCommandsComplete (h : Obligations.PowerCommandsComplete) :
    Runs (.powerState .sideband 0 [w [(0, 3), (4, 2)], 0]) (powered .run id) ∧ Runs (.powerStatus .pf1 0 []) State.reset ∧
    Runs (.padRelease .pf0 0 []) { up with pins := { up.pins with retained := true }, start := { up.start with railsUp := true } } ∧
    Runs (.gateRequest .pf0 0 [19]) up ∧ Runs (.thermalStatus .pf1 0 [w [(0, 496), (16, 32)]]) up ∧
    Runs (.thermalConfig .sideband 0 [45]) up ∧ Runs (.storeConfig .pf0 0 [1000]) State.reset ∧
    Runs (.storeStatus .pf1 0 []) State.reset ∧ Runs (.powerCounters .pf0 0 [1]) State.reset := by
  obtain ⟨h1, h2, h3, h4, h5, h6, h7, h8, h9⟩ := h
  refine ⟨accepts_runs h1 ?_ ?_ ?_, completes_runs h2 ?_ ?_ ?_, completes_runs h3 ?_ ?_ ?_, completes_runs h4 ?_ ?_ ?_,
    completes_runs h5 ?_ ?_ ?_, completes_runs h6 ?_ ?_ ?_, completes_runs h7 ?_ ?_ ?_, completes_runs h8 ?_ ?_ ?_,
    completes_runs h9 ?_ ?_ ?_⟩ <;>
    (try unfold CanRun) <;> (try unfold anyone) <;> decide +kernel

theorem witness_FirmwareCommandsComplete (h : Obligations.FirmwareCommandsComplete) :
    Runs (.reset .sideband 0 [1]) up ∧ Runs (.reset .pf0 0 [0]) (powered .curtain (fun p => { p with curtain := some someCurtain })) ∧
    Runs (.fwStatus .pf1 0 []) State.reset ∧
    Runs (.fwWrite .sideband 0 (w [(0, 25165344), (25, 120)] :: List.replicate 120 0)) State.reset ∧
    Runs (.fwVerify .pf0 0 []) State.reset ∧ Runs (.fwActivate .pf0 0 [1]) { up with start := { up.start with imgB := ⟨[], true⟩ } } ∧
    Runs (.fwCommit .sideband 0 []) { up with start := { up.start with image := some 0, recA := { up.start.recA with trial := true } } } ∧
    Runs (.arbRaise .pf0 0 [0]) State.reset := by
  obtain ⟨h1, h2, h3, h4, h5, h6, h7, h8⟩ := h
  refine ⟨⟨_, h1 _ _ _ _ (by decide) (by decide) (by decide +kernel)⟩, ⟨_, h2 _ _ _ _ (by decide) (by decide) (by decide +kernel)⟩,
    firmware_runs h3 ?_ ?_, firmware_runs h4 ?_ ?_, ⟨_, h5 _ _ _ _ (by decide)⟩, firmware_runs h6 ?_ ?_, firmware_runs h7 ?_ ?_,
    firmware_runs h8 ?_ ?_⟩ <;>
    (try unfold anyone) <;> decide +kernel

end Sys2Proof.Tests
end

