-- ==== Sys2Proof/Tests/WitnessPorts.lean ====
section
/-! SUPPORT. Witnesses: client ports, the Larder, host queues, events and time. For every clause that has conditions, a state and
operands that meet all of them together; each theorem applies a statement there, so its proof is the check that they hold. -/

namespace Sys2Proof.Tests

open Sys2Proof.Machine

set_option Elab.async false

theorem witness_PortEventsComplete (h : Obligations.PortEventsComplete) :
    (Runs (.tTrain 255) (porting .training (fun x => { x with tTrain := some 9 })) ∧ Runs (.tTrain 255) up) ∧
    Runs (.trainingComplete 255) (porting .training id) ∧ Runs (.trainingComplete 0) up ∧
    Runs (.linkUp 255) (withCref (porting .aligning id)) ∧ Runs (.linkUp 255) (porting .up id) ∧ Runs (.linkDown 255) (porting .up id) ∧
    Runs (.linkDown 255) (porting .aligning id) ∧ Runs (.remoteFault 255 true false) (porting .up id) ∧
    Runs (.remoteFault 255 true false) up ∧ Runs (.laneLos 255 true) (porting .up id) ∧
    Runs (.laneLos 255 false) (porting .aligning (fun x => { x with los := 1 })) ∧ Runs (.laneLos 254 true) (porting .up id) ∧
    Runs (.crefLoss) up ∧ Runs (.crefReturn) up ∧ Runs (.clientFrame 255 (List.replicate 63 0) 0) (porting .up id) ∧
    Runs (.clientFrame 255 frame64 0) (let s := porting .up id; { s with ports := { s.ports with fifos := [(15, List.replicate 64 ⟨255, [], none⟩)] } }) ∧
    Runs (.clientFrame 255 frame64 0) (let s := porting .up id; { s with ports := { s.ports with fifos := [(15, List.replicate 63 ⟨255, [], none⟩)] } }) ∧
    Runs (.clientFrame 255 frame64 0) (porting .aligning id) ∧
    Runs (.parse 15) (let s := porting .up id; { s with ports := { s.ports with fifos := [(15, [⟨255, frame64, none⟩])] } }) ∧
    Runs (.parse 0) up ∧ Runs (.epochDrain) up ∧
    Runs (.egressFrameStart 255) (porting .up (fun x => { x with queues := List.replicate 8 [outFrame] })) ∧
    Runs (.egressFrameStart 255) (porting .up id) := by
  obtain ⟨h1, h2, h3, h4, h5, h6, h7, h8, h9, h10, h11, h12, h13, h14, _, h16, h17, h18, h19, h20, h21, h22, h23, h24⟩ := h
  refine ⟨timesOut_runs (t := 9) (h1 _) ?_ ?_, doesWhen_runs (h2 _) ?_, doesWhen_runs (h3 _) ?_, doesWhen_runs (h4 _) ?_,
    doesWhen_runs (h5 _) ?_, doesWhen_runs (h6 _) ?_, doesWhen_runs (h7 _) ?_, doesWhen_runs (h8 _ _ _) ?_, doesWhen_runs (h9 _ _ _) ?_,
    ⟨_, h10 255 255 _ (by decide +kernel)⟩, ⟨_, h11 255 255 _ (by decide +kernel)⟩, doesWhen_runs (h12 _ _) ?_, does_runs h13,
    does_runs h14, ⟨_, h16 255 (List.replicate 63 0) 0 2 _ (by decide +kernel)⟩, doesWhen_runs (h17 _ _ _) ?_,
    doesWhen_runs (h18 _ _ _) ?_, doesWhen_runs (h19 _ _ _) ?_, ⟨_, h20 15 ⟨255, frame64, none⟩ [] _ (by decide +kernel)⟩,
    doesWhen_runs (h21 _) ?_, does_runs h22, ⟨_, h23 255 7 outFrame [] _ (by decide +kernel)⟩, doesWhen_runs (h24 _) ?_⟩ <;>
    decide +kernel

theorem witness_LarderEventsComplete (h : Obligations.LarderEventsComplete) :
    Runs (.larderRefill 0) (cached 31) ∧ Runs (.larderRefill 0) (cached 32) ∧ Runs (.larderSpill 0) (cached 49) ∧
    Runs (.larderSpill 0) (cached 48) ∧ Runs (.larderAlloc 0 1) up ∧ Runs (.larderFree 1 1) up ∧ Runs (.larderShare 1 1 1) up ∧
    Runs (.heldFreeResume 5) (modPool 5 (fun p => { p with held := [(0x50000001, 6)] }) holding) ∧ Runs (.heldFreeResume 5) up ∧
    (Runs (.poolStall 0) (modPool 0 (fun p => { p with heldSince := some 9 }) up) ∧ Runs (.poolStall 0) up) ∧ Runs (.hbmRetired 3) up ∧
    Runs (.hbmRetired 3) retired ∧ Runs (.hbmPurgeDone 3) retired ∧ Runs (.hbmPurgeDone 0) retired := by
  obtain ⟨h1, h2, h3, h4, h5, h6, h7, h8, h9, h10, h11, h12, h13, h14⟩ := h
  refine ⟨doesWhen_runs (h1 _) ?_, doesWhen_runs (h2 _) ?_, doesWhen_runs (h3 _) ?_, doesWhen_runs (h4 _) ?_, does_runs (h5 _ _),
    does_runs (h6 _ _), does_runs (h7 _ _ _), ⟨_, h8 5 0x50000001 6 [] _ _ ⟨by decide +kernel, some_get (by decide +kernel)⟩⟩,
    doesWhen_runs (h9 _) ?_, timesOut_runs (t := 9 + usCc) (h10 _) ?_ ?_, doesWhen_runs (h11 _) ?_, doesWhen_runs (h12 _) ?_,
    doesWhen_runs (h13 _) ?_, doesWhen_runs (h14 _) ?_⟩ <;>
    decide +kernel

theorem witness_HostQueueEventsComplete (h : Obligations.HostQueueEventsComplete) :
    Runs (.dmaError 0 none) up ∧ Runs (.dmaError 1 (some 255)) up ∧ Runs (.hqTxPi 0 0 64) sending ∧ Runs (.hqTxPi 0 0 65) sending ∧
    Runs (.hqTxPi 1 0 1) sending ∧ Runs (.hqRxPi 1 0 32768) running1 ∧ Runs (.hqRxPi 1 0 32769) running1 ∧ Runs (.hqRxPi 0 0 1) sending ∧
    Runs (.hqCqCi 0 0 0) sending ∧ Runs (.hqCqCi 0 0 1) sending ∧
    Runs (.cqResume 0) (modPair 0 (fun q => { q with held := [⟨0, 0, 0, 0, 0, 0, 0⟩] }) sending) ∧ Runs (.cqResume 0) up ∧
    Runs (.txDescriptor [] []) posting ∧ Runs (.txDescriptor [] []) sending ∧ Runs (.slowPathDelivery []) (slowly (handle 5 0)) ∧
    Runs (.slowPathDelivery []) (slowly 0) ∧ Runs (.slowPathDelivery []) up := by
  obtain ⟨h1, h2, h3, h4, h5, h6, h7, h8, h9, h10, h11, h12, h13, h14, h15, h16, h17⟩ := h
  refine ⟨does_runs (h1 _), does_runs (h2 _ _), doesWhen_runs (h3 _ _ _) ?_, doesWhen_runs (h4 _ _ _) ?_, doesWhen_runs (h5 _ _ _) ?_,
    doesWhen_runs (h6 _ _ _) ?_, doesWhen_runs (h7 _ _ _) ?_, doesWhen_runs (h8 _ _ _) ?_, doesWhen_runs (h9 _ _ _) ?_,
    doesWhen_runs (h10 _ _ _) ?_, ⟨_, h11 0 ⟨0, 0, 0, 0, 0, 0, 0⟩ [] _ (by decide +kernel)⟩, doesWhen_runs (h12 _) ?_,
    ⟨_, h13 _ _ _ _ _ (place_eq (by decide +kernel))⟩,
    ⟨_, h14 _ _ _ _ (Prod.ext (by show (nextPlace sending).1 = none; decide +kernel) rfl)⟩,
    ⟨_, h15 _ ⟨7, false, 0, 0, 0, none, none, none, frame64, []⟩ [] 0 _ (by decide +kernel)⟩,
    ⟨_, h16 _ ⟨7, false, 0, 0, 0, none, none, none, frame64, []⟩ [] _ (by decide +kernel)⟩, doesWhen_runs (h17 _) ?_⟩ <;>
    decide +kernel

theorem witness_EventMachineryCompletes (h : Obligations.EventMachineryCompletes) :
    Runs (.eventRaise false false 0x0D06 1930 .critical 1 2) up ∧ Runs (.eventRaise false true 0x0101 0 .minor 1 2) up ∧
    Runs (.eventRaise true true 0x0101 0 .minor 1 2) up ∧
    Runs (.coalesceWindowClose 0 0x0101 0) (eventful (fun e => { e with windows := [⟨0, 0x0101, 0, none, 0, 0, 0, 1, 0, 0, 5⟩] })) ∧
    Runs (.coalesceWindowClose 0 0x0101 0) (eventful (fun e => { e with windows := [⟨0, 0x0101, 0, none, 1, 0, 0, 1, 0, 0, 5⟩] })) ∧
    Runs (.coalesceWindowClose 0 0x0101 0) up ∧ Runs (.evtLost 0) (modDest 0 (fun d => { d with lost := 1, lostAt := some 5 }) up) ∧
    Runs (.evtLost 1) up ∧ Runs (.blackboxWrite) (eventful (fun e => { e with staged := [oneEvent] })) ∧ Runs (.blackboxWrite) up ∧
    Runs (.msixHoldoffEnd 0 256) (vectored true) ∧ Runs (.msixHoldoffEnd 0 256) (vectored false) ∧ Runs (.almStateRead 1 2047) up ∧
    Runs (.tileLinkLost 7) (tiled .running 0) ∧ Runs (.tileLinkLost 7) (tiled .retrain 0) ∧ Runs (.tileDegraded 7) (tiled .running 0) ∧
    Runs (.tileDegradedClear 7) up ∧ Runs (.tileRetrain 7 true) (tiled .retrain 2) ∧ Runs (.tileRetrain 7 false) (tiled .retrain 1) ∧
    Runs (.tileRetrain 7 false) (tiled .retrain 2) ∧
    Runs (.tileRetrain 7 false) (modTile 7 (fun x => { x with cycles := [0, 0, 0] }) (tiled .retrain 5)) := by
  obtain ⟨h1, h2, h3, h4, h5, h6, h7, h8, h9, h10, h11, h12, h13, h14, h15, h16, h17, h18, h19, h20, h21⟩ := h
  refine ⟨does_runs (h1 _ _ _ _ _), does_runs (h2 _ _ _ _ _), does_runs (h3 _ _ _ _ _ _),
    ⟨_, h4 0 _ _ ⟨0, 0x0101, 0, none, 0, 0, 0, 1, 0, 0, 5⟩ _ (by decide +kernel)⟩,
    ⟨_, h5 0 _ _ ⟨0, 0x0101, 0, none, 1, 0, 0, 1, 0, 0, 5⟩ _ (by decide +kernel)⟩, doesWhen_runs (h6 _ _ _) ?_, doesWhen_runs (h7 _) ?_,
    doesWhen_runs (h8 _) ?_, ⟨_, h9 oneEvent [] _ (by decide +kernel)⟩, doesWhen_runs h10 ?_, ⟨_, h11 0 256 9 _ (by decide +kernel)⟩,
    ⟨_, h12 0 256 9 _ (by decide +kernel)⟩, does_runs (h13 _ _), doesWhen_runs (h14 _) ?_, doesWhen_runs (h15 _) ?_,
    doesWhen_runs (h16 _) ?_, does_runs (h17 _), doesWhen_runs (h18 _) ?_, doesWhen_runs (h19 _) ?_, doesWhen_runs (h20 _) ?_,
    doesWhen_runs (h21 _) ?_⟩ <;>
    decide +kernel

theorem witness_TimeEventsComplete (h : Obligations.TimeEventsComplete) :
    Runs (.timeCapture 1) up ∧ Runs (.timeTsqHiRead) up ∧ Runs (.timeTsqHiRead) (clocked (fun t => { t with tsq := [⟨255, 9, 5⟩] })) ∧
    Runs (.tsqOvfClear) up ∧ Runs (.tsqOvfClear) (clocked (fun t => { t with tsqLost := some (0, 2), tsqDrops := 2, tsqOvf := true })) ∧
    Runs (.tsqPush 255) (clocked (fun t => { t with holding := [(255, some ⟨255, 9, 5⟩)], tsq := List.replicate 63 ⟨255, 9, 5⟩ })) ∧
    Runs (.tsqPush 255) (clocked (fun t => { t with holding := [(255, some ⟨255, 9, 5⟩)], tsq := List.replicate 64 ⟨255, 9, 5⟩ })) ∧
    Runs (.tsqPush 255) up ∧ Runs (.tsqPush 255) up ∧
    Runs (.ppsOutPulse) (let s := clocked (fun t => { t with phase := .tracking, cfg := { t.cfg with ppsOut := true } }); { s with pins := { s.pins with retained := false } }) ∧
    Runs (.ppsOutPulse) up ∧ (Runs (.ppsOutFall) (clocked (fun t => { t with ppsFall := some 9 })) ∧ Runs (.ppsOutFall) up) ∧
    Runs (.ppsInEdge 100) { up with pins := { up.pins with retained := false } } ∧
    Runs (.ppsInEdge 99) { up with pins := { up.pins with retained := false } } ∧
    Runs (.ptmDialog true) (clocked (fun t => { t with ptm := { t.ptm with enable := true } })) ∧
    Runs (.ptmDialog true) (clocked (fun t => { t with ptm := { t.ptm with enable := true, lastAt := some 9 } })) ∧
    Runs (.ptmDialog false) up ∧ Runs (.ptmResponse 5 6) (clocked (fun t => { t with ptm := { t.ptm with running := some 9 } })) ∧
    Runs (.ptmResponse 5 6) up ∧
    (Runs (.ptmFail) (clocked (fun t => { t with ptm := { t.ptm with running := some 9 } })) ∧ Runs (.ptmFail) up) ∧
    Runs (.servoUpdate) up := by
  obtain ⟨h1, h2, h3, h4, h5, h6, h7, h8, h9, h10, h11, h12, h13, h14, h15, h16, h17, h18, h19, h20, h21⟩ := h
  refine ⟨does_runs (h1 _), doesWhen_runs h2 ?_, ⟨_, h3 ⟨255, 9, 5⟩ [] _ (by decide +kernel)⟩, doesWhen_runs h4 ?_,
    ⟨_, h5 1 _ (by decide +kernel)⟩, ⟨_, h6 255 ⟨255, 9, 5⟩ _ (by unfold alone; decide +kernel)⟩,
    ⟨_, h7 255 ⟨255, 9, 5⟩ _ (by unfold alone; decide +kernel)⟩, doesWhen_runs (h8 _) (by unfold alone; decide +kernel),
    does_runs (h9 _), doesWhen_runs h10 ?_, doesWhen_runs h11 ?_, timesOut_runs (t := 9) h12 ?_ ?_,
    ⟨_, h13 100 (by decide) _ (by decide +kernel)⟩, doesWhen_runs (h14 _) ?_, doesWhen_runs h15 ?_, ⟨_, h16 9 _ (by decide +kernel)⟩,
    does_runs h17, ⟨_, h18 5 6 9 _ (by decide +kernel)⟩, doesWhen_runs (h19 _ _) ?_, timesOut_runs (t := 9 + msCc) h20 ?_ ?_,
    does_runs h21⟩ <;>
    decide +kernel

end Sys2Proof.Tests
end

