-- ==== Sys2Proof/Tests/WitnessShared.lean ====
section
/-! SUPPORT. Witnesses: the shared checks, handles, rings and invariants. For every clause that has conditions, a state and
operands that meet all of them together; each theorem applies a statement there, so its proof is the check that they hold. -/

namespace Sys2Proof.Tests

open Sys2Proof.Machine

set_option Elab.async false

theorem witness_ShortRequestsEndWithBadArg (h : Obligations.ShortRequestsEndWithBadArg) :
    Runs (.watchSet .pf1 0 (List.replicate 16 0)) up ∧ Runs (.senseConfig .sideband 0 []) State.reset := by
  refine ⟨⟨_, h (.watchSet, 17) ?_ _ _ _ _ ?_ ?_⟩, ⟨_, h (.senseConfig, 9) ?_ _ _ _ _ ?_ ?_⟩⟩
  all_goals first | decide +kernel | (simp only [zordinCommandsHigh, zordinCommandsLow, stagehandCommands]; simp)

theorem witness_OthersAreDeniedWhatIsPf0s (h : Obligations.OthersAreDeniedWhatIsPf0s) :
    Runs (.joinStart .sideband 31 []) up ∧ Runs (.watchSet .pf1 0 (List.replicate 17 0)) State.reset := by
  refine ⟨⟨_, h (.joinStart, 0) ?_ _ _ _ _ ?_ ?_ ?_⟩, ⟨_, h (.watchSet, 17) ?_ _ _ _ _ ?_ ?_ ?_⟩⟩
  all_goals first | decide +kernel | (simp only [pf0Commands]; simp)

theorem witness_Pf1CreatesAndDestroysNothing (h : Obligations.Pf1CreatesAndDestroysNothing) :
    Runs (.graphCreate .pf1 0 []) up ∧ Runs (.sensorDestroy .pf1 0 [handle 8 0]) sensing := by
  refine ⟨⟨_, h (.graphCreate, 0) ?_ _ _ _ ?_ ?_⟩, ⟨_, h (.sensorDestroy, 1) ?_ _ _ _ ?_ ?_⟩⟩
  all_goals first | decide +kernel | (simp only [channelCommands]; simp)

theorem witness_CommandsEndWithNotReady (h : Obligations.CommandsEndWithNotReady) :
    Runs (.joinStatus .pf0 0 []) State.reset ∧ Runs (.echo .pf0 0 []) { up with start := { up.start with recovery := true } } := by
  refine ⟨⟨_, h.1 (.joinStatus, 0) ?_ _ _ _ ?_ ?_ ?_⟩, ⟨_, h.2 (.echo, 0) ?_ _ _ _ ?_ ?_ ?_⟩⟩
  all_goals first | decide +kernel | (simp only [zordinCommandsHigh, zordinCommandsLow, stagehandCommands]; simp)

theorem witness_CurtainSilencesZordin (h : Obligations.CurtainSilencesZordin) : Runs (.joinStatus .pf0 0 []) (powered .curtain id) := by
  refine ⟨_, h (.joinStatus, 0) ?_ _ _ _ _ ?_⟩
  all_goals first | decide +kernel | (simp only [zordinCommandsHigh, zordinCommandsLow]; simp)

theorem witness_StepRunsFrontCommand (h : Obligations.StepRunsFrontCommand) :
    step { up with pending := [.echo .pf0 1 [5], .tCue] } = exec (.echo .pf0 1 [5]) { up with pending := [.tCue] } :=
  h (.echo .pf0 1 [5]) [.tCue] { up with pending := [.echo .pf0 1 [5], .tCue] } rfl

theorem witness_IdleStepPassesOneCycle (h : Obligations.IdleStepPassesOneCycle) : step State.reset = .next (advance 1 State.reset) :=
  (h State.reset rfl).1

theorem witness_CommandsKeepQueueAndTime (h : Obligations.CommandsKeepQueueAndTime) :
    (after (.echo .pf0 1 [5]) { ringing with pending := [.tCue] }).pending = [.tCue] :=
  (h (.echo .pf0 1 [5]) { ringing with pending := [.tCue] } _ rfl).1

theorem witness_StepKeepsSound (h : Obligations.StepKeepsSound) :
    Sound (advance 1 State.reset) ∧ Sound (after (.mboxEnable 0) State.reset) :=
  ⟨h State.reset _ reset_sound rfl, h { State.reset with pending := [.mboxEnable 0] } _ reset_sound rfl⟩

theorem witness_NullHandleNamesNoChannel (h : Obligations.NullHandleNamesNoChannel) :
    checkHandle .larderPool 0 up = .error .badArg ∧ liveHandle 0x0C 0 up ≠ 0 :=
  ⟨h.1 _ _, h.2 .larderPool 0 up reset_sound.2.2.2 (by decide +kernel) (by decide +kernel)⟩

theorem witness_BadHandlesAreTurnedAway (h : Obligations.BadHandlesAreTurnedAway) :
    Runs (.groupDestroy .pf0 0 [handle 0x0D 0]) up ∧ Runs (.groupDestroy .pf0 0 [handle 1 256]) up ∧
    Runs (.groupDestroy .pf0 0 [handle 1 255]) up ∧ Runs (.sensorDestroy .pf0 0 [w [(26, 8), (16, 1)]]) sensing := by
  have g := h (.groupDestroy, .expressGroup, 1, false) (by simp [handleCommands])
  have e := h (.sensorDestroy, .sensor, 1, true) (by simp [handleCommands])
  refine ⟨⟨_, (g _ _ _ ?_ ?_).1 ?_⟩, ⟨_, (g _ _ _ ?_ ?_).2.1 ?_ ?_⟩, ⟨_, (g _ _ _ ?_ ?_).2.2 ?_ ?_ ?_⟩,
    ⟨_, (e _ _ _ ?_ ?_).2.2 ?_ ?_ ?_⟩⟩ <;>
    (try unfold CanRun) <;> decide +kernel

theorem witness_NewChannelsTakeTheLowestFreeIndex (h : Obligations.NewChannelsTakeTheLowestFreeIndex) :
    ¬ taken .larderPool 5 up ∧ taken .parseGraph 3 lastGraph :=
  ⟨((h.2 .larderPool up).1 5 (by decide +kernel)).2.1, (h.2 .parseGraph lastGraph).2 (by decide +kernel) 3 (by decide +kernel)⟩

theorem witness_DestroyEndsItsHandle (h : Obligations.DestroyEndsItsHandle) :
    checkHandle .parseGraph (w [(26, 6), (16, 1023), (0, 3)]) (closeChan .parseGraph 3 lastGraph) = .error .staleHandle :=
  (h .parseGraph _ lastGraph 3 (by unfold soundChans; decide +kernel) (by decide +kernel)).1

theorem witness_MailboxRegistersComplete (h : Obligations.MailboxRegistersComplete) :
    Runs (.mboxEnable 0) up ∧ Runs (.mboxEnable 1) ringing ∧ Runs (.mboxCmdPi 0 32) ringing ∧ Runs (.mboxCmdPi 0 33) ringing ∧
    Runs (.mboxRspCi 0 0) ringing ∧ Runs (.mboxRspCi 0 1) ringing ∧ Runs (.mboxNtfCi 1 0) ringing ∧ Runs (.mboxNtfCi 1 1) ringing ∧
    Runs (.registerWrite 0 0 1) up ∧ exec (.registerWrite 0 0 2) up = exec (.mboxDisable 0) up ∧ Runs (.registerWrite 0 0x20 32) ringing ∧
    Runs (.registerWrite 0 0x2C 0) ringing ∧ Runs (.registerWrite 1 0x34 0) ringing ∧
    exec (.registerWrite 1 0x31000 1) up = exec (.timeCapture 1) up ∧ exec (.registerWrite 0 0x31028 1) up = exec .tsqOvfClear up ∧
    Runs (.registerWrite 0 0x31000 2) up ∧ Runs (.registerWrite 1 0x31028 1) up ∧
    exec (.registerWrite 0 (0x40000 + 0x400 * 255) 5) up = exec (.hqTxPi 0 255 5) up ∧
    Runs (.registerWrite 0 0x1C 7) ringing ∧ Runs (.registerWrite 0 0x8 0xFFFFFFFF) up ∧ Runs (.registerWrite 0 0x1C 7) up ∧
    Runs (.registerWrite 1 0x38 15) up ∧ Runs (.registerWrite 0 0x1101C 1) up ∧ Runs (.registerWrite 0 0x11020 1) up ∧
    Runs (.registerWrite 0 0x10002 1) up ∧ Runs (.quarantineExpiry 6 3) (closeChan .parseGraph 3 lastGraph) ∧
    Runs (.quarantineExpiry 6 2) lastGraph := by
  obtain ⟨h1, h2, h3, h4, h5, h6, h7, h8, h9, h10, h11, h12, h13, h14, h15, h16, h17, h18, h19, h20, h21, h22, h23, h24, h25⟩ := h
  refine ⟨⟨_, h1 0 up ?_⟩, ⟨_, h2 1 ringing ?_⟩, ⟨_, h3 0 32 ringing ?_⟩, ⟨_, h4 0 33 ringing ?_⟩, ⟨_, h5 0 0 ringing ?_⟩,
    ⟨_, h6 0 1 ringing ?_⟩, ⟨_, h7 1 0 ringing ?_⟩, ⟨_, h8 1 1 ringing ?_⟩, ⟨_, (h9 0 1 (by decide) up).trans (h1 0 up ?_)⟩,
    h10 0 2 (by decide) up, ⟨_, (h11 0 32 ringing).trans (h3 0 32 ringing ?_)⟩, ⟨_, (h12 0 0 ringing).trans (h5 0 0 ringing ?_)⟩,
    ⟨_, (h13 1 0 ringing).trans (h7 1 0 ringing ?_)⟩, h14 1 1 (by decide) up, h15 1 (by decide) up, ⟨_, (h16 0 2 (by decide)).1 up⟩,
    ⟨_, h17 1 up⟩, (h18 0 255 5 up (by decide)).1, ⟨_, h19 0 0x1C 7 ringing ?_⟩, ⟨_, h20 0 0x8 0xFFFFFFFF up ?_⟩, ⟨_, h20 0 0x1C 7 up ?_⟩,
    ⟨_, h21 1 15 up⟩, ⟨_, h22 0 0x1101C 1 (by decide) (by decide) (by decide) up⟩, ⟨_, h23 0 0x11020 1 (by decide) up⟩,
    ⟨_, h23 0 0x10002 1 (by decide) up⟩, ⟨_, h24 6 3 _ ?_⟩, ⟨_, h25 6 2 _ ?_⟩⟩ <;> decide +kernel

theorem witness_DisablingAMailboxStopsIt (h : Obligations.DisablingAMailboxStopsIt) :
    Runs (.commandTake .pf0 (slotOf 0x0101 31)) (after (.mboxDisable 0) commanded) := by
  obtain ⟨t, ht, _, _, _, hc, _⟩ := h 0 commanded
  have e : after (.mboxDisable 0) commanded = t := by unfold after; rw [ht]; rfl
  rw [e]
  exact ⟨_, hc (by decide) _⟩

theorem witness_TakingACommandCompletes (h : Obligations.TakingACommandCompletes) :
    Runs (.commandTake .pf0 (slotOf 0x0101 31)) commanded ∧ Runs (.commandTake .pf1 (slotOf 0x0101 31)) ringing ∧
    Runs (.commandTake .sideband []) (sideways 0x1007 [⟨0, 0⟩, ⟨1, 0⟩, ⟨2, 0⟩]) ∧
    Runs (.commandTake .sideband []) (sideways 0x1007 [⟨0, 0⟩, ⟨1, 0⟩, ⟨2, 0⟩, ⟨3, 0⟩]) := by
  obtain ⟨h1, h2, h3, h4⟩ := h
  refine ⟨⟨_, h1 0 _ (by decide) _ (by unfold canTake; decide +kernel)⟩, ⟨_, h2 1 _ (by decide) _ (by unfold canTake; decide +kernel)⟩,
    doesWhen_runs (h3 _) ?_, doesWhen_runs (h4 _) ?_⟩ <;>
    decide +kernel

theorem witness_UnknownOpcodesEndWithBadOpcode (h : Obligations.UnknownOpcodesEndWithBadOpcode) :
    Runs (.commandTake .pf0 (slotOf 0x0107 31)) commanded ∧ Runs (.commandTake .sideband []) (sideways 0x1100 []) := by
  obtain ⟨h1, h2, h3⟩ := h
  refine ⟨⟨_, (h2 0 _ _ ?_ ?_ ?_ ?_).1⟩, ⟨_, (h3 _ _ ?_ ?_ ?_ ?_ ?_).1⟩⟩ <;> (try unfold canTake) <;> (try rw [← h1]) <;> decide +kernel

theorem witness_RepeatedTagsAreNotExecuted (h : Obligations.RepeatedTagsAreNotExecuted) :
    Runs (.commandTake .pf0 (slotOf 0x0101 31)) outstanding ∧ Runs (.commandTake .sideband []) (sideways 0x0101 [⟨31, 0x0101⟩]) := by
  refine ⟨⟨_, (h.1 0 _ _ ?_ ?_ ?_).1⟩, ⟨_, (h.2 _ _ ?_ ?_ ?_ ?_).1⟩⟩ <;> (try unfold canTake) <;> decide +kernel

theorem witness_ResponsesLieInTheirSlots (h : Obligations.ResponsesLieInTheirSlots) :
    (answered .pf0 31 .ok (List.replicate 127 1) ringing).zordin.pf0.rspPi = 1 :=
  (h 31 .ok (List.replicate 127 1) ringing (by decide +kernel) (by decide +kernel) (by decide +kernel) (by decide +kernel)
    (by decide +kernel) (by decide +kernel) (by decide +kernel)).1

theorem witness_ResponsesAreDiscardedOrHeld (h : Obligations.ResponsesAreDiscardedOrHeld) :
    (respond .pf0 0 .ok [1] up).hostMem = up.hostMem ∧ (funcBox 0 (respond .pf0 0 .ok [1] fullRing)).rspHeld = true :=
  ⟨(h.1 0 0 .ok [1] up (by decide) (by decide +kernel)).1,
    (h.2 0 0 .ok [1] fullRing [] (by decide) (by decide +kernel) (by decide +kernel) (by decide +kernel)).2.1⟩

theorem witness_NewTasksJoinTheLeastLoadedCore (h : Obligations.NewTasksJoinTheLeastLoadedCore) :
    ∃ i, i < up.zordin.sched.cores.length ∧ ∀ k, k < i →
      readyAbove 40 (up.zordin.sched.cores.getD i coreQueueReset) < readyAbove 40 (up.zordin.sched.cores.getD k coreQueueReset) := by
  obtain ⟨i, h1, _, h3, _⟩ := h 40 7 up (by decide +kernel)
  exact ⟨i, h1, h3⟩

theorem witness_HostWritesReadBack (h : Obligations.HostWritesReadBack) :
    Runs (.mboxEnable 0) up ∧ Runs (.mboxEnable 1) ringing ∧ Runs (.mboxCmdPi 0 32) ringing ∧ Runs (.mboxCmdPi 0 33) ringing ∧
    Runs (.mboxRspCi 0 0) ringing ∧ Runs (.mboxRspCi 0 1) ringing ∧ Runs (.mboxNtfCi 1 0) ringing ∧ Runs (.mboxNtfCi 1 1) ringing ∧
    Runs (.registerWrite 0 0x18 0xFFFFFFFF) up ∧ Runs (.registerWrite 1 0xC 7) up ∧ Runs (.registerWrite 0 0x1C 7) ringing ∧
    Runs (.registerWrite 1 0x80000 7) up ∧ Runs (.commandTake .pf0 (slotOf 0x0101 31)) commanded ∧
    Runs (.commandTake .sideband []) (sideways 0x1007 [⟨0, 0⟩, ⟨1, 0⟩, ⟨2, 0⟩]) ∧
    Runs (.quarantineExpiry 6 3) (closeChan .parseGraph 3 lastGraph) := by
  obtain ⟨h1, h2, h3, h4, h5, h6, h7, h8, h9, h10, h11, h12, h13, h14, h15⟩ := h
  refine ⟨⟨_, (h1 0 up ?_ ?_).choose_spec.1⟩, ⟨_, h2 1 ringing ?_ ?_⟩, ⟨_, (h3 0 32 ringing ?_ ?_).choose_spec.1⟩,
    ⟨_, (h4 0 33 ringing ?_ ?_).choose_spec.1⟩, ⟨_, (h5 0 0 ringing ?_ ?_).choose_spec.1⟩, ⟨_, (h6 0 1 ringing ?_ ?_).choose_spec.1⟩,
    ⟨_, (h7 1 0 ringing ?_ ?_).choose_spec.1⟩, ⟨_, (h8 1 1 ringing ?_ ?_).choose_spec.1⟩,
    ⟨_, (h9 0 0x18 0xFFFFFFFF up ?_ ?_ ?_).choose_spec.1⟩, ⟨_, (h10 1 0xC 7 up ?_ ?_ ?_).choose_spec.1⟩, ⟨_, h11 0 0x1C 7 ringing ?_ ?_ ?_⟩,
    ⟨_, h12 1 0x80000 7 up ?_ ?_⟩, ⟨_, (h13 0 (slotOf 0x0101 31) commanded ?_ ?_).choose_spec.1⟩,
    ⟨_, (h14 [] (sideways 0x1007 [⟨0, 0⟩, ⟨1, 0⟩, ⟨2, 0⟩]) _ _ rfl ?_ ?_).choose_spec.1⟩,
    ⟨_, (h15 6 3 (closeChan .parseGraph 3 lastGraph) ?_ ?_).choose_spec.1⟩⟩ <;>
    (try unfold canTake) <;> (try unfold soundChans) <;> decide +kernel

end Sys2Proof.Tests
end

