-- ==== Sys2Proof/Tests/WitnessStage.lean ====
section
/-! SUPPORT. Witnesses: joining, sending, receiving and express circuits. For every clause that has conditions, a state and
operands that meet all of them together; each theorem applies a statement there, so its proof is the check that they hold. -/

namespace Sys2Proof.Tests

open Sys2Proof.Machine

set_option Elab.async false

/-- The sideband has the first three fragments of a request. -/
def halfway : State := modSb (fun b => { b with partialReq := some (3, [5]) }) up

/-- The data of the longest fragment. -/
def longest : List Byte := List.replicate 128 0

theorem witness_SidebandAndRingEventsComplete (h : Obligations.SidebandAndRingEventsComplete) :
    Runs (.responseWrite .pf0) (waiting (fun b => { b with heldRsp := [⟨0, 0, true, false, []⟩] })) ∧
    Runs (.responseWrite .pf1) ringing ∧
    Runs (.responseWrite .sideband) (modSb (fun b => { b with heldRsp := [⟨0, 0, true, false, []⟩], responses := List.replicate 7 [] }) up) ∧
    Runs (.notificationWrite 0) (waiting (fun b => { b with notices := [⟨1, 0, 0⟩] })) ∧
    Runs (.notificationWrite 0) (waiting (fun b => { b with events := [oneEvent], ntfPi := 255 })) ∧
    Runs (.notificationWrite 0) (waiting (fun b => { b with events := [oneEvent], ntfPi := 256 })) ∧
    Runs (.sbReq (some (writePec 0x20 [0x84, 9] up)) [0x84, 9]) up ∧
    Runs (.sbReq (some (writePec 0x20 (0x83 :: longest) halfway)) (0x83 :: longest)) halfway ∧ Runs (.sbReq none [0x84, 9]) up ∧
    Runs (.sbRsp) up ∧ Runs (.sbRsp) (modSb (fun b => { b with responses := [List.replicate 128 0] }) up) ∧
    Runs (.sbRsp) (modSb (fun b => { b with responses := [List.replicate 129 0] }) up) ∧ Runs (.sbStatus) up ∧ Runs (.sbNtf) up ∧
    Runs (.sbNtf) (modSb (fun b => { b with ntfs := [[1]] }) up) ∧ Runs (.delayListDue 9) up := by
  obtain ⟨h1, h2, h3, h4, h5, h6, h7, h8, h9, h10, h11, h12, h13, h14, h15, h16⟩ := h
  refine ⟨⟨_, h1 0 ⟨0, 0, true, false, []⟩ [] (by decide) _ (by decide +kernel)⟩, ⟨_, h2 1 (by decide) _ (by decide +kernel)⟩,
    ⟨_, h3 ⟨0, 0, true, false, []⟩ [] _ (by decide +kernel)⟩, ⟨_, h4 0 ⟨1, 0, 0⟩ [] _ (by decide +kernel)⟩,
    ⟨_, h5 0 oneEvent [] _ (by decide +kernel)⟩, ⟨_, h6 0 oneEvent [] _ (by decide +kernel)⟩,
    ⟨_, h7 0x84 [9] (by decide) (by decide) (by decide) up⟩,
    ⟨_, h8 0x83 longest [5] (by decide) (by decide +kernel) (by decide +kernel) halfway (by decide +kernel)⟩, doesWhen_runs (h9 _ _) ?_,
    doesWhen_runs h10 ?_, ⟨_, h11 _ [] _ ⟨rfl, by decide +kernel⟩⟩, ⟨_, h12 _ [] _ ⟨rfl, by decide +kernel⟩⟩, does_runs h13,
    doesWhen_runs h14 ?_, ⟨_, h15 [1] [] _ (by decide +kernel)⟩, does_runs (h16 _)⟩ <;>
    decide +kernel

theorem witness_JoinMessagesComplete (h : Obligations.JoinMessagesComplete) :
    Runs (.discoveryOpen (message 2 16 [(8, 8, 63), (64, 7, 2), (72, 16, 75), (88, 8, 74)])) (owned .discWait id) ∧
    Runs (.discoveryAck (message 3 48 [(0, 128, 5), (296, 8, 63), (352, 7, 1), (360, 8, 2), (368, 8, 255)])) (owned .discSent id) ∧
    Runs (.tnAssign (message 3 24 [(0, 128, 5), (128, 5, 29)])) (owned .identity id) ∧
    Runs (.tnAssign (message 3 24 [(0, 128, 5), (128, 5, 30)])) (owned .identity id) ∧
    Runs (.reject (message 3 24 [(0, 128, 5), (128, 8, 4)])) (owned .discSent id) ∧
    Runs (.rangeWindow (message 1 16 [(8, 8, 63), (64, 7, 1), (72, 8, 2)])) (planesOwned (fun x => { x with phase := .waitWindow })) ∧
    Runs (.rangeResult (message 1 8 [(8, 26, 67108863)])) (owned .registered (fun x => { x with phase := .ranging })) ∧
    Runs (.rangeResult (message 1 8 [(4, 4, 15)])) (owned .registered (fun x => { x with phase := .ranging })) ∧
    Runs (.activate (message 1 8 [(0, 16, 65535)])) up ∧
    Runs (.fineCorrect (message 1 16 [(16, 16, 511)])) (owned .registered (fun x => { x with phase := .active, rt := 511 })) ∧
    Runs (.fineCorrect (message 1 16 [(16, 16, 512)])) (owned .registered (fun x => { x with phase := .active, rt := 511 })) ∧
    Runs (.deregister (message 3 24 [(0, 128, 5)])) (owned .assigned id) ∧ Runs (.deregister (message 1 24 [])) (owned .leaving id) ∧
    Runs (.discoveryOpen (message 1 16 [])) up ∧ Runs (.discoveryAck (message 1 16 [])) up ∧ Runs (.tnAssign (message 2 16 [])) up ∧
    Runs (.reject (message 1 16 [])) up ∧ Runs (.rangeWindow (message 3 16 [])) up ∧ Runs (.rangeResult (message 3 16 [])) up ∧
    Runs (.activate (message 3 16 [])) up ∧ Runs (.fineCorrect (message 0 16 [])) up ∧ Runs (.deregister (message 2 16 [])) up := by
  obtain ⟨h1, h2, h3, h4, h5, h6, h7, h8, h9, h10, h11, h12, h13, h14, h15, h16, h17, h18, h19, h20, h21, h22⟩ := h
  refine ⟨obeys_runs h1 ?_ ?_, obeys_runs h2 ?_ ⟨by decide +kernel, by decide +kernel, ⟨.a, 0, by decide +kernel⟩, by decide +kernel⟩,
    obeys_runs h3 ?_ ?_, obeys_runs h4 ?_ ?_, obeys_runs h5 ?_ ?_, obeys_runs h6 ?_ ?_, obeys_runs h7 ?_ ?_, obeys_runs h8 ?_ ?_,
    obeys_runs h9 ?_ ?_, obeys_runs h10 ?_ ?_, obeys_runs h11 ?_ ?_, obeys_runs h12 ?_ ?_, obeys_runs h13 ?_ ?_, wrongMode_runs h14 ?_,
    wrongMode_runs h15 ?_, wrongMode_runs h16 ?_, wrongMode_runs h17 ?_, wrongMode_runs h18 ?_, wrongMode_runs h19 ?_,
    wrongMode_runs h20 ?_, wrongMode_runs h21 ?_, wrongMode_runs h22 ?_⟩ <;>
    decide +kernel

theorem witness_JoinTimersComplete (h : Obligations.JoinTimersComplete) :

    (Runs (.tCue) (timed (fun j => { j with tCue := some 7 })) ∧ Runs (.tCue) (leavingSoon (timed (fun j => { j with tCue := some 7 }))) ∧ Runs (.tCue) up) ∧
    (Runs (.joinNoWindow) (timed (fun j => { j with tNoWindow := some 7 })) ∧ Runs (.joinNoWindow) (leavingSoon (timed (fun j => { j with tNoWindow := some 7 }))) ∧ Runs (.joinNoWindow) up) ∧
    (Runs (.discoveryTimeout) (owned .discSent id) ∧ Runs (.discoveryTimeout) (rejectedSoon (owned .discSent id)) ∧ Runs (.discoveryTimeout) up) ∧
    (Runs (.tId) (timed (fun j => { j with tId := some 7 })) ∧ Runs (.tId) (leavingSoon (timed (fun j => { j with tId := some 7 }))) ∧ Runs (.tId) up) ∧
    (Runs (.registrationLost) (timed (fun j => { j with tNoPlane := some 7 })) ∧ Runs (.registrationLost) (leavingSoon (timed (fun j => { j with tNoPlane := some 7 }))) ∧ Runs (.registrationLost) up) ∧
    (Runs (.rejectHoldoff) (timed (fun j => { j with tReject := some 7 })) ∧ Runs (.rejectHoldoff) (leavingSoon (timed (fun j => { j with tReject := some 7 }))) ∧ Runs (.rejectHoldoff) up) ∧
    (Runs (.tLeave) (timed (fun j => { j with tLeave := some 7 })) ∧ Runs (.tLeave) (leavingSoon (timed (fun j => { j with tLeave := some 7 }))) ∧ Runs (.tLeave) up) ∧
    (Runs (.tRwin 0) (owned .registered (fun x => { x with tRwin := some 7 })) ∧ Runs (.tRwin 0) (leavingSoon (owned .registered (fun x => { x with tRwin := some 7 }))) ∧ Runs (.tRwin 0) up) ∧
    (Runs (.rangingTimeout 0) (owned .registered (fun x => { x with resultBy := some 7 })) ∧ Runs (.rangingTimeout 0) (leavingSoon (owned .registered (fun x => { x with resultBy := some 7 }))) ∧ Runs (.rangingTimeout 0) up) ∧
    (Runs (.tAct 0) (owned .registered (fun x => { x with tAct := some 7 })) ∧ Runs (.tAct 0) (leavingSoon (owned .registered (fun x => { x with tAct := some 7 }))) ∧ Runs (.tAct 0) up) ∧
    (Runs (.tSkew 0) (owned .registered (fun x => { x with tSkew := some 7 })) ∧ Runs (.tSkew 0) (leavingSoon (owned .registered (fun x => { x with tSkew := some 7 }))) ∧ Runs (.tSkew 0) up) ∧
    (Runs (.tSusp 0) (owned .registered (fun x => { x with tSusp := some 7 })) ∧ Runs (.tSusp 0) (leavingSoon (owned .registered (fun x => { x with tSusp := some 7 }))) ∧ Runs (.tSusp 0) up) ∧
    Runs (.planeActivation 0) (owned .registered (fun x => { x with phase := .equalised, actSfn := some 1, refHub := some .a })) ∧
    Runs (.planeActivation 0) (owned .registered (fun x => { x with phase := .equalised, actSfn := some 1 })) ∧
    Runs (.fineCorrectApply 0) (owned .registered (fun x => { x with fine := [(1, -512, true)] })) ∧
    Runs (.planeHoldApply 0) (owned .registered (fun x => { x with holdPending := true })) := by
  obtain ⟨h1, h2, h3, h4, h5, h6, h7, h8, h9, h10, h11, h12, h13, h14, h15, h16⟩ := h
  refine ⟨fires_runs (t := 7) h1 ?_ ?_ ?_, fires_runs (t := 7) h2 ?_ ?_ ?_, fires_runs (t := 0) h3 ?_ ?_ ?_,
    fires_runs (t := 7) h4 ?_ ?_ ?_, fires_runs (t := 7) h5 ?_ ?_ ?_, fires_runs (t := 7) h6 ?_ ?_ ?_, fires_runs (t := 7) h7 ?_ ?_ ?_,
    fires_runs (t := 7) (h8 _) ?_ ?_ ?_, fires_runs (t := 7) (h9 _) ?_ ?_ ?_, fires_runs (t := 7) (h10 _) ?_ ?_ ?_,
    fires_runs (t := 7) (h11 _) ?_ ?_ ?_, fires_runs (t := 7) (h12 _) ?_ ?_ ?_, ⟨_, h13 0 1 _ (by decide +kernel)⟩,
    ⟨_, h14 0 1 _ (by decide +kernel)⟩, ⟨_, h15 0 1 (-512) true _ (by decide +kernel)⟩, ⟨_, h16 0 _ (by decide +kernel)⟩⟩ <;>
    decide +kernel

theorem witness_CueAndRootEventsComplete (h : Obligations.CueAndRootEventsComplete) :
    Runs (.cueFrame 0 0 []) railed ∧ Runs (.cueFrame 0 1791 []) railed ∧ Runs (.cueFrame 0 0 []) up ∧ Runs (.freeze 128) railed ∧
    Runs (.freeze 128) up ∧ Runs (.rootTransferDone) (rooted .transfer .a) ∧ Runs (.rootTransferDone) up ∧
    Runs (.rootHoldover true) (rooted .holdover .a) ∧ Runs (.rootDisplace) (rooted .locked .b) ∧
    Runs (.rootDisplace) (rooted .locked .a) := by
  obtain ⟨h1, h2, h3, h4, h5, h6, h7, h8, h9, h10⟩ := h
  refine ⟨doesWhen_runs (h1 _ _) ?_, ⟨_, h2 _ _ _ (by decide) _ (by decide +kernel)⟩, doesWhen_runs (h3 _ _ _) ?_,
    doesWhen_runs (h4 _) ?_, doesWhen_runs (h5 _) ?_, doesWhen_runs h6 ?_, doesWhen_runs h7 ?_, doesWhen_runs (h8 _) ?_,
    ⟨_, h9 (.b, 0) _ _ ⟨by decide +kernel, by rfl, by decide +kernel⟩⟩,
    ⟨_, h10 (.a, 0) _ _ ⟨by decide +kernel, by rfl, by decide +kernel⟩⟩⟩ <;>
    decide +kernel

theorem witness_TransmitEventsComplete (h : Obligations.TransmitEventsComplete) :
    Runs (.selectionWindow 9 15) up ∧ Runs (.selectionClose 9 15) up ∧ Runs (.launch 9 15) up ∧
    Runs (.tuneSequence 0 0 false false 0 0) up ∧ Runs (.tuneSequence 0 0 false false 0 0) (sender .ready .none) ∧
    Runs (.tuneSequence 0 0 false false 0 0) (modTx 0 (fun t => { t with burst := some aBurst }) (sender .ready .none)) ∧
    Runs (.tableLoad 511 true) up ∧ Runs (.tableLoad 0 false) (sender .ready .none) ∧ Runs (.pedestalSettled 0) up ∧
    Runs (.pedestalUnsettled 0) up ∧ Runs (.trimCheckpoint) up ∧
    Runs (.tileLaserCut 0 true) (modTx 0 (fun t => { t with cutAt := some 9 }) up) ∧ Runs (.tileLaserCut 0 true) up ∧
    Runs (.recalibration 7) up ∧ Runs (.driftSupervision 0) up ∧ Runs (.driftSupervision 0) drifting ∧
    Runs (.rateControl true 0 9 []) up ∧
    Runs (.rateControl false 0 9 []) (modGroup 0 (fun g => { g with cfg := { g.cfg with trib := true } }) up) ∧
    Runs (.rateControl false 0 9 []) up := by
  obtain ⟨h1, h2, h3, h4, h5, h6, h7, h8, h9, h10, h11, h12, h13, h14, h15, h16, h17, h18, h19⟩ := h
  refine ⟨does_runs (h1 _ _), does_runs (h2 _ _), does_runs (h3 _ _), doesWhen_runs (h4 _ _ _ _ _ _) ?_,
    doesWhen_runs (h5 _ _ _ _ _ _) ?_, ⟨_, h6 _ _ _ _ _ _ aBurst _ (by decide +kernel)⟩, doesWhen_runs (h7 _ _) ?_,
    doesWhen_runs (h8 _ _) ?_, does_runs (h9 _), does_runs (h10 _), does_runs h11, ⟨_, h12 _ _ 9 _ (by decide +kernel)⟩,
    doesWhen_runs (h13 _ _) ?_, does_runs (h14 _), doesWhen_runs (h15 _) ?_, ⟨_, h16 _ _ (by decide +kernel)⟩, does_runs (h17 _ _ _),
    doesWhen_runs (h18 _ _ _) ?_, doesWhen_runs (h19 _ _ _) ?_⟩ <;>
    decide +kernel

theorem witness_ReceiveEventsComplete (h : Obligations.ReceiveEventsComplete) :
    Runs (.burstReceive 0 []) up ∧ Runs (.payloadDecode 2) received ∧ Runs (.payloadDecode 3) received ∧ Runs (.tagCheck) received ∧
    Runs (.tagCheck) up ∧ Runs (.ledgerLanding 0) received ∧ Runs (.reconcilerEntry 1023) received ∧ Runs (.reconcilerEntry 0) up := by
  obtain ⟨h1, h2, h3, h4, h5, h6, h7, h8⟩ := h
  refine ⟨does_runs (h1 _ _), doesWhen_runs (h2 _) ?_, doesWhen_runs (h3 _) ?_, ⟨_, h4 0 _ (by decide +kernel)⟩, doesWhen_runs h5 ?_,
    does_runs (h6 _), ⟨_, h7 _ 0 _ (by decide +kernel)⟩, doesWhen_runs (h8 _) ?_⟩ <;>
    decide +kernel

/-- The resize of the working group has switched over, and its map changed. -/
def switched (remove : Bool) : State :=
  modGroup 0 (fun g => { g with resize := { g.resize with oldMap := some g.map } }) (resizing .switched remove)

theorem witness_ExpressEventsComplete (h : Obligations.ExpressEventsComplete) :
    Runs (.containerEval 0) up ∧ Runs (.sdBlockClose 0 16) (modStream 0 16 (fun x => { x with blockCount := 1023 }) group1) ∧
    Runs (.sdBlockClose 0 16) (modStream 0 16 (fun x => { x with blockCount := 1024 }) group1) ∧
    Runs (.holdOffExpiry 0) (selecting .hold) ∧ Runs (.wtrExpiry 0) (selecting .wtr) ∧
    Runs (.afHoldExpiry 0) (modGroup 0 (fun g => { g with afUntil := some 9 }) group1) ∧
    Runs (.resizePrepare (resizeMessage 1)) (resizing .farRequest true) ∧
    Runs (.resizeCommit (resizeMessage 0)) (resizing .ready false) ∧ Runs (.resizeCancel (resizeMessage 0)) (resizing .ready false) ∧
    Runs (.resizePrepare (message 2 16 [])) up ∧ Runs (.resizeCommit (message 2 16 [])) up ∧ Runs (.resizeCancel (message 2 16 [])) up ∧
    (Runs (.tPrep 0) (resizing .request true) ∧ Runs (.tPrep 0) up) ∧ (Runs (.tCommit 0) (resizing .ready true) ∧ Runs (.tCommit 0) up) ∧
    Runs (.resizePrepared 0) (resizing .preparing true) ∧ Runs (.resizeSwitchover 0) (resizing .switched true) ∧
    Runs (.resizeDone 0) (switched false) ∧ Runs (.resizeDone 0) (switched true) ∧ Runs (.pageSwapped) swapping ∧
    Runs (.pageSwapped) up := by
  obtain ⟨h1, h2, h3, h4, h5, h6, h7, h8, h9, h10, h11, h12, h13, h14, h15, h16, h17, h18, h19, h20⟩ := h
  refine ⟨does_runs (h1 _), doesWhen_runs (h2 _ _) ?_, doesWhen_runs (h3 _ _) ?_,
    ⟨_, h4 0 _ 9 _ ⟨rfl, by decide +kernel, by decide +kernel⟩⟩, ⟨_, h5 0 _ 9 _ ⟨rfl, by decide +kernel, by decide +kernel⟩⟩,
    ⟨_, h6 0 9 _ (by decide +kernel)⟩, ⟨_, h7 _ _ 0 5 rfl (by decide +kernel) (by decide +kernel)⟩,
    ⟨_, h8 _ _ 0 5 rfl (by decide +kernel) (by decide +kernel)⟩, ⟨_, h9 _ _ 0 5 rfl (by decide +kernel) (by decide +kernel)⟩,
    wrongMode_runs h10 ?_, wrongMode_runs h11 ?_, wrongMode_runs h12 ?_, timesOut_runs (t := 9) (h13 _) ?_ ?_,
    timesOut_runs (t := 9) (h14 _) ?_ ?_, doesWhen_runs (h15 _) ?_, ⟨_, h16 0 0 _ (by decide +kernel)⟩,
    ⟨_, h17 0 0 _ (by decide +kernel)⟩, ⟨_, h18 0 0 _ (by decide +kernel)⟩, ⟨_, h19 2 _ (by decide +kernel)⟩, doesWhen_runs h20 ?_⟩ <;>
    decide +kernel

end Sys2Proof.Tests
end

