-- ==== Sys2Proof/Tests/WitnessUnits.lean ====
section
/-! SUPPORT. Witnesses: security, sensing, power and start-up. For every clause that has conditions, a state and
operands that meet all of them together; each theorem applies a statement there, so its proof is the check that they hold. -/

namespace Sys2Proof.Tests

open Sys2Proof.Machine

set_option Elab.async false

theorem witness_KeyEventsComplete (h : Obligations.KeyEventsComplete) :
    Runs (.offer 29 5) up ∧
    Runs (.groupKey 29 5) { (recorded (aRecord 0xA04 3) up) with sec := { (recorded (aRecord 0xA04 3) up).sec with entropy := .failed } } ∧
    Runs (.offer 29 5) (recorded (aRecord 0xA01 3) up) ∧ Runs (.answer 29 5) (recorded (aRecord 0xA02 3) (associated id up)) ∧
    Runs (.answer 29 5) (recorded (aRecord 0xA02 3) up) ∧
    Runs (.hubAnswer 29 5) (recorded (aRecord 0xA03 3) { up with sec := { up.sec with identity := [1] } }) ∧
    Runs (.hubAnswer 29 5) (recorded (aRecord 0xA03 3) up) ∧ Runs (.hubAnswer 29 5) (recorded (aRecord 0xA03 3) keyed) ∧
    Runs (.groupKey 29 5) (recorded (aRecord 0xA04 3) keyed) ∧ Runs (.groupKey 29 5) (recorded (aRecord 0xA04 4) keyed) ∧
    Runs (.keySeg (segment 3 0x0A04)) { up with serial := 5 } ∧ Runs (.keySeg (segment 1 0x0A05)) { up with serial := 5 } ∧
    Runs (.keySeg (message 2 0 [])) up ∧ Runs (.keyRecordTimeout 29 5) (secured (fun x => { x with partials := [aPartial] })) ∧
    Runs (.keyRecordTimeout 29 5) up ∧ Runs (.keyEpochErase 31) (epoched 31 [anEpoch 0 0, anEpoch 1 3] up) ∧
    Runs (.keyEpochErase 31) keyed ∧ Runs (.keyRollInterval selfKey) (epoched 30 [anEpoch 0 0] up) ∧
    Runs (.keyRollInterval 31) (epoched 31 [anEpoch 0 0, anEpoch 1 (2 ^ 47)] up) ∧
    Runs (.keyRollInterval 29) (epoched 29 [anEpoch 0 0] (associated id up)) ∧ Runs (.keyRollInterval 29) (epoched 29 [anEpoch 0 0] up) ∧
    Runs (.keyRollInterval 29) up ∧
    Runs (.tAns 28) (associated (fun a => { a with phase := .offered, expiries := 1, tAns := some 9 }) up) ∧
    Runs (.tAns 64) (setAssoc 64 { associationReset with peer := 30, phase := .offered, expiries := 2, tAns := some 9 } up) ∧
    Runs (.withdrawnReoffer 28) (associated (fun a => { a with phase := .withdrawn, reofferAt := some 9 }) up) ∧
    Runs (.sequenceResume 9) (sequenced (fun q => { q with recA := { q.recA with valid := false } })) ∧ Runs (.sequenceResume 9) up ∧
    Runs (.seqRecordCommit true) (sequenced (fun q => { q with writing := some 9 })) ∧
    Runs (.seqRecordCommit false) (sequenced (fun q => { q with writing := some 9 })) ∧ Runs (.seqRecordCommit true) up := by
  obtain ⟨h1, h2, h3, h4, h5, h6, h7, h8, h9, h10, h11, h12, h13, h14, h15, h16, h17, h18, h19, h20, h21, h22, h23, h24, h25, h26, h27, h28, h29, h30⟩ := h
  refine ⟨⟨_, h1 (.offer, 0x0A01) (by simp [recordRows]) 29 5 _ (by decide +kernel)⟩,
    ⟨_, h2 (.groupKey, 0x0A04) (by simp [recordRows]) 29 5 (aRecord 0xA04 3) _ (by decide +kernel)⟩,
    ⟨_, h3 29 5 (aRecord 0xA01 3) _ (by unfold recordReady; decide +kernel)⟩,
    ⟨_, h4 29 5 (aRecord 0xA02 3) 28 _ (by unfold recordReady; decide +kernel)⟩,
    ⟨_, h5 29 5 (aRecord 0xA02 3) _ (by unfold recordReady; decide +kernel)⟩,
    ⟨_, h6 29 5 (aRecord 0xA03 3) _ (by unfold recordReady; decide +kernel)⟩,
    ⟨_, h7 29 5 (aRecord 0xA03 3) _ (by unfold recordReady; decide +kernel)⟩,
    ⟨_, h8 29 5 (aRecord 0xA03 3) _ (by unfold recordReady; decide +kernel)⟩,
    ⟨_, h9 29 5 (aRecord 0xA04 3) _ (by unfold recordReady; decide +kernel)⟩,
    ⟨_, h10 29 5 (aRecord 0xA04 4) _ (by unfold recordReady; decide +kernel)⟩, obeys_runs h11 ?_ ?_, obeys_runs h12 ?_ ?_,
    wrongMode_runs h13 ?_, ⟨_, h14 29 5 aPartial _ (by decide +kernel)⟩, doesWhen_runs (h15 _ _) ?_,
    ⟨_, h16 31 (anEpoch 0 0) (anEpoch 1 3) _ (by decide +kernel)⟩, doesWhen_runs (h17 _) ?_,
    ⟨_, h18 (anEpoch 0 0) _ (by decide +kernel)⟩, ⟨_, h19 31 (anEpoch 0 0) _ (by decide +kernel)⟩,
    ⟨_, h20 29 (anEpoch 0 0) 28 (by decide) _ (by decide +kernel)⟩,
    ⟨_, h21 29 (anEpoch 0 0) (by decide) _ ⟨by decide +kernel, by decide +kernel, fun i hi => by simp [show assocOfKey 29 (rollDue (anEpoch 0 0) (epoched 29 [anEpoch 0 0] up)) = none from by decide +kernel] at hi⟩⟩,
    doesWhen_runs (h22 _) ?_, ⟨_, h23 28 9 _ (by decide +kernel)⟩, ⟨_, h24 64 9 _ (by decide +kernel)⟩,
    ⟨_, h25 28 9 _ (by decide +kernel)⟩, doesWhen_runs (h26 _) ?_, ⟨_, h27 9 (2 ^ 24) _ (by decide +kernel)⟩,
    ⟨_, h28 9 _ (by decide +kernel)⟩, ⟨_, h29 9 _ (by decide +kernel)⟩, doesWhen_runs (h30 _) ?_⟩ <;>
    decide +kernel

theorem witness_SecurityEventsComplete (h : Obligations.SecurityEventsComplete) :
    Runs (.entropyFail) up ∧ Runs (.entropyRetest true) (secured (fun x => { x with entropy := .failed })) ∧
    Runs (.entropyRetest false) (secured (fun x => { x with entropy := .failed })) ∧
    Runs (.entropyRetest true) (secured (fun x => { x with entropy := .startupTest })) ∧
    Runs (.entropyRetest false) (secured (fun x => { x with entropy := .startupTest })) ∧
    Runs (.entropyRetest true) (secured (fun x => { x with entropy := .running })) ∧
    Runs (.drbgReseed) (secured (fun x => { x with entropy := .running, drbgRequests := 65536 })) ∧
    Runs (.drbgReseed) (secured (fun x => { x with entropy := .running })) ∧
    Runs (.drbgReseed) (secured (fun x => { x with entropy := .failed })) ∧ Runs (.debugAuthorisation 5 true) { up with serial := 5 } ∧
    Runs (.debugAuthorisation 6 true) { up with serial := 5 } ∧ Runs (.debugAuthorisation 5 false) up ∧
    Runs (.firewallAccess true 2 true false 0xFFFFFFFC 4) (secured (fun x => { x with rules := [] })) ∧
    Runs (.firewallAccess false 2 true true 0xFFFFFFFC 4) (secured (fun x => { x with rules := [] })) ∧
    Runs (.firewallAccess false 2 false true 0x31028 4) (secured (fun x => { x with rules := [] })) ∧ Runs (.fwRuleWrite 63 0 0 8) up ∧
    Runs (.fwRuleWrite 63 0 0 8) (secured (fun x => { x with rules := [(63, ⟨0, 0, 8⟩)] })) ∧
    Runs (.fwRuleWrite 63 0 0 8) (secured (fun x => { x with ruleWrites := [(63, ⟨0, 0, 8⟩)], oldFlight := 5 })) ∧
    Runs (.firewallDrain 0) up ∧
    Runs (.firewallDrain 5) (secured (fun x => { x with ruleWrites := [(63, ⟨0, 0, 8⟩)], oldFlight := 5 })) ∧
    Runs (.firewallDrain 4) (secured (fun x => { x with ruleWrites := [(63, ⟨0, 0, 8⟩)], oldFlight := 5 })) := by
  obtain ⟨h1, h2, h3, h4, h5, h6, h7, h8, h9, h10, h11, h12, h13, h14, h15, h16, h17, h18, h19, h20, h21⟩ := h
  refine ⟨does_runs h1, doesWhen_runs h2 ?_, doesWhen_runs h3 ?_, doesWhen_runs h4 ?_, doesWhen_runs h5 ?_, doesWhen_runs (h6 _) ?_,
    doesWhen_runs h7 ?_, doesWhen_runs h8 ?_, doesWhen_runs h9 ?_, doesWhen_runs (h10 _) ?_, doesWhen_runs (h11 _) ?_, does_runs (h12 _),
    doesWhen_runs (h13 _ _ _ _ _ _) ?_, doesWhen_runs (h14 _ _ _ _) ?_, doesWhen_runs (h15 _ _ _ _) ?_, doesWhen_runs (h16 _ _ _ _) ?_,
    doesWhen_runs (h17 _ _ _ _) ?_, doesWhen_runs (h18 _ _ _ _) ?_, doesWhen_runs (h19 _) ?_,
    ⟨_, h20 5 (63, ⟨0, 0, 8⟩) [] _ (by decide +kernel)⟩, ⟨_, h21 4 (63, ⟨0, 0, 8⟩) [] _ (by decide +kernel)⟩⟩ <;>
    decide +kernel

theorem witness_SensingEventsComplete (h : Obligations.SensingEventsComplete) :
    Runs (.senseOutput [] 0 false) (islanded (fun x => { x with low := true })) ∧ Runs (.senseOutput [] 15 true) up ∧
    Runs (.rcPeriodCapture 134400001) up ∧ Runs (.rcPeriodCapture 121600000) up ∧
    Runs (.senseFallback 6) (islanded (fun x => { x with inputs := [(6, { senseInputReset with goodAt := some 9 })] })) ∧
    Runs (.senseFallback 2) up ∧ Runs (.islandWait) (islanded (fun x => { x with wakePending := true })) ∧ Runs (.islandWait) up ∧
    Runs (.islandWake) up ∧ Runs (.smbusAddressMatch (smbusAddress up)) up ∧ Runs (.smbusAddressMatch 0x3F) up ∧
    Runs (.uartCharacter []) (islanded (fun x => { x with console := { x.console with inBreak := true } })) ∧
    Runs (.uartCharacter []) up ∧ Runs (.uartCharacter (List.replicate 151 false)) up ∧
    Runs (.uartCharacter (List.replicate 160 false)) up ∧ Runs (.uartBreakEnd) up := by
  obtain ⟨h1, h2, h3, h4, h5, h6, h7, h8, h9, h10, h11, h12, h13, h14, h15, h16⟩ := h
  refine ⟨doesWhen_runs (h1 _ _ _) ?_, doesWhen_runs (h2 _ _ _) ?_, ⟨_, h3 _ (by decide) _⟩, ⟨_, h4 _ (by decide) _⟩,
    ⟨_, h5 6 9 (by decide) (by decide) _ (by decide +kernel)⟩, doesWhen_runs (h6 _) ?_, doesWhen_runs h7 ?_, doesWhen_runs h8 ?_,
    does_runs h9, doesWhen_runs (h10 _) ?_, doesWhen_runs (h11 _) ?_, doesWhen_runs (h12 _) ?_,
    ⟨_, h13 _ (by decide) _ (by decide +kernel)⟩, ⟨_, h14 _ (by decide) (by decide) _ (by decide +kernel)⟩,
    ⟨_, h15 _ (by decide) (by decide) _ (by decide +kernel)⟩, does_runs h16⟩ <;>
    decide +kernel

theorem witness_PowerEventsComplete (h : Obligations.PowerEventsComplete) :
    Runs (.wakeN) (powered .dormant id) ∧ Runs (.wakeN) (powered .quiet id) ∧
    (Runs (.islandTimerWake) (powered .standby (fun p => { p with wakeAt := some 9 })) ∧ Runs (.islandTimerWake) up) ∧
    Runs (.vinFail) up ∧ Runs (.pwrfailN) up ∧ Runs (.auxLoss) (powered .run (fun p => { p with vin := true })) ∧
    Runs (.auxLoss) (powered .standby (fun p => { p with vin := true })) ∧
    Runs (.auxLoss) { (powered .standby (fun p => { p with vin := true })) with start := { up.start with railsUp := true } } ∧
    Runs (.lossOfAux) (powered .run (fun p => { p with vin := true })) ∧
    Runs (.lossOfAux) (powered .standby (fun p => { p with vin := true })) ∧
    Runs (.lossOfAux) { (powered .standby (fun p => { p with vin := true })) with start := { up.start with railsUp := true } } ∧
    Runs (.lossOfAux) up ∧ Runs (.coreWait 3) up ∧ Runs (.corePowerOff) (moving 3 []) ∧
    Runs (.corePowerOff) (powered .run (fun p => { p with transition := some ⟨3, 0, [], false⟩ })) ∧ Runs (.corePowerOff) (moving 1 []) ∧
    Runs (.corePowerOff) up ∧ Runs (.powerTransitionDone) (powered .standby (fun p => { p with transition := some ⟨0, 0, [], false⟩ })) ∧
    Runs (.powerTransitionDone) (powered .standby (fun p => { p with transition := some ⟨2, 0, [], false⟩ })) ∧
    Runs (.powerTransitionDone) (moving 1 []) ∧ Runs (.powerDeferred) (moving 1 [24]) ∧ Runs (.powerDeferred) up ∧
    (Runs (.powerStateTimeout) (moving 1 []) ∧ Runs (.powerStateTimeout) up) ∧ Runs (.gateRelease 71) up ∧
    Runs (.gateRelease 71) (secured (fun x => { x with deferred := [(71, some true)] })) ∧
    Runs (.curtainStart) (powered .quiet (fun p => { p with trigger := some (1, 9) })) ∧
    Runs (.curtainStart) (powered .dormant (fun p => { p with trigger := some (2, 9) })) ∧ Runs (.curtainStart) up ∧
    Runs (.curtainStop) (powered .curtain (fun p => { p with curtain := some someCurtain })) ∧ Runs (.curtainStop) up := by
  obtain ⟨h1, h2, h3, h4, h5, h6, h7, h8, h9, h10, h11, h12, h13, h14, h15, h16, h17, h18, h19, h20, h21, h22, h23, h24, h25⟩ := h
  refine ⟨doesWhen_runs h1 ?_, doesWhen_runs h2 ?_, timesOut_runs (t := 9) h3 ?_ ?_, does_runs h4, does_runs h5,
    ⟨_, (h6 .auxLoss (by simp)).1 _ ⟨by decide +kernel, fun _ => by decide +kernel⟩⟩,
    ⟨_, (h6 .auxLoss (by simp)).2.1 _ ⟨by decide +kernel, by decide +kernel, by decide +kernel, fun _ => by decide +kernel⟩⟩,
    ⟨_, (h6 .auxLoss (by simp)).2.2 _ ⟨by decide +kernel, by decide +kernel, fun _ => by decide +kernel⟩⟩,
    ⟨_, (h6 .lossOfAux (by simp)).1 _ ⟨by decide +kernel, fun _ => by decide +kernel⟩⟩,
    ⟨_, (h6 .lossOfAux (by simp)).2.1 _ ⟨by decide +kernel, by decide +kernel, by decide +kernel, fun _ => by decide +kernel⟩⟩,
    ⟨_, (h6 .lossOfAux (by simp)).2.2 _ ⟨by decide +kernel, by decide +kernel, fun _ => by decide +kernel⟩⟩, doesWhen_runs h7 ?_,
    does_runs (h8 _), ⟨_, h9 ⟨3, 0, [], false⟩ _ (by decide +kernel)⟩, ⟨_, h10 ⟨3, 0, [], false⟩ _ (by decide +kernel)⟩,
    ⟨_, h11 ⟨1, 0, [], false⟩ _ (by decide +kernel)⟩, doesWhen_runs h12 ?_, ⟨_, h13 ⟨0, 0, [], false⟩ _ (by decide +kernel)⟩,
    ⟨_, h14 ⟨2, 0, [], false⟩ _ (by decide +kernel)⟩,
    ⟨_, h15 ⟨1, 0, [], false⟩ _ (by decide +kernel) (by decide +kernel) (by decide +kernel)⟩,
    ⟨_, h16 ⟨1, 0, [24], false⟩ _ (by decide +kernel)⟩, doesWhen_runs h17 ?_, timesOut_runs (t := 0 + 10 * secCc) h18 ?_ ?_,
    doesWhen_runs (h19 _) ?_, ⟨_, h20 71 true _ (by decide +kernel)⟩, ⟨_, h21 1 9 _ (by decide +kernel)⟩,
    ⟨_, h22 2 9 _ (by decide +kernel)⟩, doesWhen_runs h23 ?_, ⟨_, h24 someCurtain _ (by decide +kernel)⟩, doesWhen_runs h25 ?_⟩ <;>
    decide +kernel

theorem witness_ThermalAndStoreEventsComplete (h : Obligations.ThermalAndStoreEventsComplete) :
    Runs (.laserHeaterFault 15) up ∧ Runs (.laserHeaterFaultClear 15) up ∧ Runs (.demuxSettled 15) up ∧
    Runs (.demuxUnsettled 15) (powered .run (fun p => { p with demux := p.demux.set 15 ⟨true, true⟩ })) ∧ Runs (.demuxUnsettled 15) up ∧
    Runs (.demuxSettledAgain 15) up ∧ Runs (.coolantCondition 0) up ∧
    Runs (.coolantCondition 0) (powered .run (fun p => { p with inlet := 25000, outlet := 25000 })) ∧
    Runs (.junctionHigh (readings 10000)) up ∧ Runs (.junctionHigh (readings 10001)) up ∧ Runs (.junctionHighClear (readings 9700)) up ∧
    Runs (.thermalStop (readings 10500)) up ∧ Runs (.thermalStop (readings 10501)) up ∧ Runs (.chargeStart) (stored id) ∧
    Runs (.chargeStart) up ∧ Runs (.capacitanceMeasure 7500000000) up ∧
    Runs (.capacitanceMeasure 7500000000) (stored (fun g => { g with charging := true })) ∧ Runs (.chargeComplete) up ∧
    Runs (.chargeComplete) (stored (fun g => { g with charging := true })) ∧
    Runs (.chargeTimeout) (stored (fun g => { g with charging := true })) ∧ Runs (.chargeTimeout) up ∧
    Runs (.gaugeReanchor) (stored (fun g => { g with current := 19 })) ∧
    Runs (.gaugeReanchor) (stored (fun g => { g with current := -20 })) ∧
    Runs (.gaugeSkew) (stored (fun g => { g with volt := 12000 })) ∧ Runs (.gaugeSkew) up ∧ Runs (.gaugeSkewClear) up ∧
    Runs (.gaugeSkewClear) (stored (fun g => { g with volt := 12000 })) := by
  obtain ⟨h1, h2, h3, h4, h5, h6, h7, h8, h9, h10, h11, h12, h13, h14, h15, h16, h17, h18, h19, h20, h21, h22, h23, h24, h25, h26, h27⟩ := h
  refine ⟨doesWhen_runs (h1 _) ?_, does_runs (h2 _), does_runs (h3 _), doesWhen_runs (h4 _) ?_, doesWhen_runs (h5 _) ?_,
    does_runs (h6 _), ⟨_, h7 0 (10 * secCc) _ (by decide +kernel)⟩, doesWhen_runs (h8 _) ?_, doesWhen_runs (h9 _) ?_,
    doesWhen_runs (h10 _) ?_, doesWhen_runs (h11 _) ?_, doesWhen_runs (h12 _) ?_, doesWhen_runs (h13 _) ?_, doesWhen_runs h14 ?_,
    doesWhen_runs h15 ?_, doesWhen_runs (h16 _) ?_, ⟨_, h17 7500000000 _ (by decide +kernel)⟩, doesWhen_runs h18 ?_,
    ⟨_, h19 _ (by decide +kernel)⟩, doesWhen_runs h20 ?_, doesWhen_runs h21 ?_, doesWhen_runs h22 ?_, doesWhen_runs h23 ?_,
    doesWhen_runs h24 ?_, doesWhen_runs h25 ?_, doesWhen_runs h26 ?_, doesWhen_runs h27 ?_⟩ <;>
    decide +kernel

theorem witness_StartEventsComplete (h : Obligations.StartEventsComplete) :
    Runs (.vinGood) up ∧ Runs (.railUp) (started (fun u => { u with vinGoodAt := some 9 })) ∧ Runs (.railUp) up ∧
    Runs (.strapSample strapsAgree) up ∧ Runs (.strapSample strapsDiffer) up ∧
    Runs (.powerOnReset) (powered .standby (fun p => { p with lastCause := 4, aux := false })) ∧ Runs (.powerOnReset) up ∧
    Runs (.resetN) up ∧ Runs (.resetN) (powered .curtain (fun p => { p with curtain := some someCurtain })) ∧ Runs (.resetNRelease) up ∧
    Runs (.warmReset) up ∧ Runs (.watchdogReset 3) up ∧ Runs (.brownOutReset) up ∧ Runs (.flr 1) up ∧
    Runs (.perstN false) { up with pins := { up.pins with pcieRetained := false } } ∧
    Runs (.perstN false) { up with pins := { up.pins with pcieRetained := true } } ∧ Runs (.perstN true) up ∧
    Runs (.imageChoice false true true false) up ∧ Runs (.strongroomVerify false) up ∧ Runs (.strongroomVerify true) up ∧
    Runs (.zordinRunning 1 [] []) (started (fun u => { u with running := false, image := some 0, strongroomOk := true, railsUp := true })) ∧
    Runs (.zordinRunning 1 [] []) up ∧ Runs (.syncLock) (rooted .syncAcq .a) ∧ Runs (.syncLock) (rooted .syncHeld .a) ∧
    Runs (.syncRefAbsent) (modRoot (fun r => { r with phase := .syncAcq }) (started (fun u => { u with coresAt := some 9 }))) ∧
    Runs (.syncRefAbsent) up ∧ Runs (.hbmTraining 3 true) (rooted .syncHeld .a) ∧
    Runs (.hbmTraining 3 false) (modStart (fun u => { u with hbm := u.hbm.set 3 ⟨2, false, false⟩ }) (rooted .syncHeld .a)) ∧
    Runs (.fwVerifyDone true) up ∧ Runs (.fwVerifyDone true) (verifying factoryImageBytes) ∧
    Runs (.fwVerifyDone false) (verifying factoryImageBytes) := by
  obtain ⟨h1, h2, h3, h4, h5, h6, h7, h8, h9, h10, h11, h12, h13, h14, h15, h16, h17, h18, h19, h20, h21, h22, h23, h24, h25, h26, h27, h28, h29, h30, h31⟩ := h
  refine ⟨does_runs h1, doesWhen_runs h2 ?_, doesWhen_runs h3 ?_, ⟨_, h4 _ (63, true) (by decide) _⟩,
    ⟨_, h5 _ (63, false) (by decide) (by decide) _⟩, doesWhen_runs h6 ?_, doesWhen_runs h7 ?_, doesWhen_runs h8 ?_, doesWhen_runs h9 ?_,
    does_runs h10, does_runs h11, does_runs (h12 _), does_runs h13, does_runs (h14 _), doesWhen_runs h15 ?_, doesWhen_runs h16 ?_,
    does_runs h17, does_runs (h18 _ _ _ _), does_runs h19, does_runs h20, doesWhen_runs (h21 _ _ _) ?_, doesWhen_runs (h22 _ _ _) ?_,
    doesWhen_runs h23 ?_, doesWhen_runs h24 ?_, ⟨_, h25 9 _ (by decide +kernel)⟩, doesWhen_runs h26 ?_, doesWhen_runs (h27 _ _) ?_,
    ⟨_, (h28 3 _ (by decide +kernel) (by decide +kernel) (by decide +kernel) (by decide +kernel)).trans rfl⟩, doesWhen_runs (h29 _) ?_,
    doesWhen_runs (h30 _) ?_, ⟨_, h31 false 2 _ (by decide +kernel)⟩⟩ <;>
    decide +kernel

end Sys2Proof.Tests
end

section
/-! SUPPORT. Handles: the fields of a live index's handle are the ones that the checks of R14 read back, so it is never null. -/

namespace Sys2Proof.Machine

theorem chanCode_pos (t : ChanType) : 0 < chanCode t := by cases t <;> decide

theorem chanCode_lt (t : ChanType) : chanCode t < 64 := by cases t <;> decide

theorem chanRange_chanCode_le (t : ChanType) : chanRange (chanCode t) ≤ 8192 := by cases t <;> decide

theorem chanSlot_gen_lt {s : State} (h : soundChans s.chans) (ty ix : Nat) : (chanSlot ty ix s).gen < 1024 :=
  soundChans_get s.chans (chanKey ty ix) h

theorem fieldOf_eq (w : Word) (lo len : Nat) : fieldOf w lo len = w.toNat / 2 ^ lo % 2 ^ len := by
  rw [fieldOf, Nat.shiftRight_eq_div_pow]

/-- The layout of R12 as a number, where every field fits. -/
theorem handleOf_toNat {s : State} {ty ix : Nat} (ht : ty < 64) (hg : (chanSlot ty ix s).gen < 1024) (hi : ix < 65536) :
    (handleOf ty ix s).toNat = ty * 2 ^ 26 + (chanSlot ty ix s).gen * 2 ^ 16 + ix := by
  simp only [handleOf, pack, wordOf, List.foldl, BitVec.toNat_ofNat]
  omega

/-- A live handle passes the checks of R14 and names its own index. -/
theorem checkHandle_handleOf {s : State} {t : ChanType} {ix : Nat} (hg : (chanSlot (chanCode t) ix s).gen < 1024)
    (hi : ix < chanRange (chanCode t)) (hl : (chanSlot (chanCode t) ix s).live = true) :
    checkHandle t (handleOf (chanCode t) ix s) s = .ok ix := by
  have ht := chanCode_lt t
  have hr := chanRange_chanCode_le t
  have hn := handleOf_toNat ht hg (by omega)
  have htype : fieldOf (handleOf (chanCode t) ix s) 26 6 = chanCode t := by
    rw [fieldOf_eq, hn]; omega
  have hgen : fieldOf (handleOf (chanCode t) ix s) 16 10 = (chanSlot (chanCode t) ix s).gen := by
    rw [fieldOf_eq, hn]; omega
  have hindex : fieldOf (handleOf (chanCode t) ix s) 0 16 = ix := by
    rw [fieldOf_eq, hn]; omega
  simp [checkHandle, htype, hgen, hindex, hl, Nat.not_le.mpr hi]

/-- The null handle's type field is 0, which no channel type has. -/
theorem checkHandle_null (t : ChanType) (s : State) : checkHandle t 0 s = .error .badArg := by
  have hne : fieldOf 0 26 6 ≠ chanCode t := (chanCode_pos t).ne
  unfold checkHandle
  exact if_pos hne

/-- Settles O30: the checks refuse the null handle for every type, while they accept the handle of a live channel. -/
theorem nullHandleNamesNoChannel : Obligations.NullHandleNamesNoChannel := by
  unfold Obligations.NullHandleNamesNoChannel
  refine ⟨checkHandle_null, fun t ix s hs hi hl hnull => ?_⟩
  have hok := checkHandle_handleOf (chanSlot_gen_lt hs _ _) hi hl
  rw [liveHandle, if_pos hl] at hnull
  rw [hnull, checkHandle_null] at hok
  contradiction

end Sys2Proof.Machine
end

section
/-! SUPPORT. Which opcodes are defined (R17). -/

namespace Sys2Proof.Machine

/-- The table of opcode ranges has one row per high byte, 1 to 16, and each row begins at low byte 1. -/
theorem definedOpcodes_eq : definedOpcodes = (List.range 16).map (fun i => (256 * (i + 1) + 1, opcodeCounts.getD i 0)) := by
  decide

theorem opcodeCounts_lt : ∀ i < 16, opcodeCounts.getD i 0 < 256 := by decide

theorem isDefined_iff (op : Nat) :
    isDefined op ↔ ∃ i < 16, 256 * (i + 1) < op ∧ op ≤ 256 * (i + 1) + opcodeCounts.getD i 0 := by
  simp only [isDefined, definedOpcodes_eq, List.mem_map, List.mem_range, exists_exists_and_eq_and]
  refine exists_congr fun i => and_congr_right fun _ => ?_
  omega

/-- The high byte of a defined opcode selects its row, the low byte its place in it. -/
theorem opcodeDefined_iff (op : Nat) : opcodeDefined op = true ↔ isDefined op := by
  simp only [isDefined_iff, opcodeDefined, Bool.and_eq_true, decide_eq_true_eq]
  constructor
  · rintro ⟨⟨⟨hlo, hhi⟩, h1⟩, hc⟩
    exact ⟨op / 256 - 1, by omega, by omega, by omega⟩
  · rintro ⟨i, hi, hlo, hhi⟩
    have hc := opcodeCounts_lt i hi
    have hrow : op / 256 - 1 = i := by omega
    rw [hrow]
    omega

theorem opcodeDefined_eq_false {op : Nat} (h : ¬ isDefined op) : opcodeDefined op = false := by
  rwa [← opcodeDefined_iff, Bool.not_eq_true] at h

end Sys2Proof.Machine
end

section
/-! SUPPORT. The tasks and the pending long commands of Zordin are no part of a mailbox: what answers a command leaves them as they are. -/

namespace Sys2Proof.Machine

/-- What Zordin has in hand: the scheduler with its tasks, and the pending long commands. -/
def work (s : State) := (s.zordin.sched, s.zordin.longs)

@[simp] theorem setFunc_work (f : Nat) (b : FuncBox) (s : State) : work (setFunc f b s) = work s := by
  unfold setFunc; split <;> rfl
@[simp] theorem modFunc_work (f : Nat) (g : FuncBox → FuncBox) (s : State) : work (modFunc f g s) = work s := setFunc_work _ _ _
@[simp] theorem modSb_work (g : SidebandBox → SidebandBox) (s : State) : work (modSb g s) = work s := rfl
@[simp] theorem hostWrite_work (a : Nat) (bs : List Byte) (s : State) : work (hostWrite a bs s) = work s := rfl

@[simp] theorem popCycle_work (n depth : Nat) (m : Option (Nat × Nat)) (s : State) : work (popCycle n depth m s) = work s := by
  unfold popCycle; split <;> rfl

@[simp] theorem sendMessage_work (f v : Nat) (s : State) : work (sendMessage f v s) = work s := by
  simp only [sendMessage]
  split <;> simp

@[simp] theorem signalVector_work (f v : Nat) (s : State) : work (signalVector f v s) = work s := by
  simp only [signalVector]
  split
  · simp
  · split <;> simp

@[simp] theorem writeResponse_work (f : Nat) (r : Response) (s : State) : work (writeResponse f r s) = work s := by
  rw [writeResponse, signalVector_work, setFunc_work, hostWrite_work, hostWrite_work]

@[simp] theorem respondFunc_work (f : Nat) (r : Response) (s : State) : work (respondFunc f r s) = work s := by
  simp only [respondFunc]
  split
  · simp
  · split <;> simp

@[simp] theorem respondSideband_work (r : Response) (s : State) : work (respondSideband r s) = work s := by
  simp only [respondSideband]
  split <;> rfl

@[simp] theorem deliver_work (src : Source) (r : Response) (s : State) : work (deliver src r s) = work s := by
  cases src
  · exact respondFunc_work 0 r s
  · exact respondFunc_work 1 r s
  · exact respondSideband_work r s

@[simp] theorem respond_work (src : Source) (tag : Nat) (st : Status) (ws : List Word) (s : State) :
    work (respond src tag st ws s) = work s := deliver_work _ _ _

@[simp] theorem afterTake_work (f : Nat) (h : Word) (s : State) : work (afterTake f h s) = work s := by simp [afterTake]

end Sys2Proof.Machine
end

section
/-! SUPPORT. Taking a command (R426, R443): what COMMAND_TAKE does once a function or the sideband can give one, and the part of the
state that neither the taking nor the answer reaches. -/

namespace Sys2Proof.Machine

/-- States that agree on everything but the mailboxes, host memory and the next free value. -/
theorem eq_of_rest {s t : State} (h : rest t = rest s) : { t with zordin := s.zordin, hostMem := s.hostMem, free := s.free } = s := by
  simp only [rest, Prod.mk.injEq] at h
  simp only [h]

theorem modFunc_rest (f : Nat) (g : FuncBox → FuncBox) (s : State) : rest (modFunc f g s) = rest s := setFunc_rest _ _ _

/-- A pop that leaves the entries of its own cycle where they are takes no extra cycle (R19). -/
theorem popCycle_of_older {depth n : Nat} {m : Option (Nat × Nat)} {s : State} (h : inCycle s.clock.now m + n ≤ depth) :
    popCycle n depth m s = s := by
  unfold popCycle
  exact if_neg (by omega)

theorem afterTake_rest {f : Nat} {s : State} (h : Word) (hm : inCycle s.clock.now (funcBox f s).cmdNew < filledSlots (funcBox f s)) :
    rest (afterTake f h s) = rest s := by
  rw [afterTake, setFunc_rest, popCycle_of_older hm]

theorem startCommand_badOpcode {src : Source} {header : Word} {os : List Outstanding} (s : State)
    (hd : isOutstanding (fieldOf header 16 5) os = false) (hop : opcodeDefined (fieldOf header 0 16) = false) :
    startCommand src header os s = (false, true, respond src (fieldOf header 16 5) .badOpcode [] s) := by
  rw [isOutstanding] at hd
  simp [startCommand, hd, hop]

/-- What a function's take does once its rings can give a command. -/
theorem takeFunc_canTake {src : Source} {f : Nat} {s : State} (slot : List Word) (hc : canTake f s) :
    takeFunc src f slot s =
      let r := startCommand src (wordAt slot 0) (funcBox f s).outstanding (afterTake f (wordAt slot 0) s)
      modFunc f (fun b => { (if r.1 then markStat 0 r.2.2.clock.now b else b) with
        dupTag := b.dupTag || r.1, cntDup := satAdd 32 b.cntDup (bitNat r.1),
        cntBadOpcode := satAdd 32 b.cntBadOpcode (bitNat r.2.1) }) r.2.2 := by
  obtain ⟨hen, hhalt, hheld, hring, hpow, hrun⟩ := hc
  have hring' : ((funcBox f s).cmdCi == (funcBox f s).cmdPi) = false := by simpa using hring
  have hpow' : (s.power.state == PowerState.curtain) = false := by simpa using hpow
  simp [takeFunc, afterTake, takenBox, isOutstanding, filledSlots, hen, hhalt, hheld, hring', hpow', hrun]

/-- What the sideband's take does once it holds a request and fewer than four commands are outstanding. -/
theorem takeSideband_some {s : State} (hr : s.zordin.sb.requests ≠ []) (hh : s.zordin.sb.heldRsp = [])
    (ho : s.zordin.sb.outstanding.length < 4) :
    takeSideband s =
      let r := startCommand .sideband (wordAt (s.zordin.sb.requests.headD []) 0) s.zordin.sb.outstanding (modSb takenSideband s)
      modSb (fun b => { b with
        cntDup := satAdd 32 b.cntDup (bitNat r.1), cntBadOpcode := satAdd 32 b.cntBadOpcode (bitNat r.2.1) }) r.2.2 := by
  obtain ⟨req, reqs, hcons⟩ := List.exists_cons_of_ne_nil hr
  simp [takeSideband, takenSideband, modSb, isOutstanding, hcons, hh, Nat.not_le.mpr ho]

/-- COMMAND_TAKE of a function takes from that function's rings. -/
theorem exec_commandTake_funcSource {f : Nat} (hf : f < 2) (slot : List Word) (s : State) :
    exec (.commandTake (funcSource f) slot) s = .next (takeFunc (funcSource f) f slot s) := by
  obtain rfl | rfl : f = 0 ∨ f = 1 := by omega
  · rfl
  · rfl

theorem exec_commandTake_sideband (slot : List Word) (s : State) : exec (.commandTake .sideband slot) s = .next (takeSideband s) := rfl

/-- An undefined opcode from a function: BAD_OPCODE goes out and its counter steps. -/
theorem takeFunc_badOpcode {src : Source} {f : Nat} {slot : List Word} {s : State} (hc : canTake f s)
    (hd : isOutstanding (fieldOf (wordAt slot 0) 16 5) (funcBox f s).outstanding = false)
    (hop : ¬ isDefined (fieldOf (wordAt slot 0) 0 16)) :
    takeFunc src f slot s =
      modFunc f (fun b => { b with cntDup := satAdd 32 b.cntDup 0, cntBadOpcode := satAdd 32 b.cntBadOpcode 1 })
        (respond src (fieldOf (wordAt slot 0) 16 5) .badOpcode [] (afterTake f (wordAt slot 0) s)) := by
  rw [takeFunc_canTake slot hc, startCommand_badOpcode _ hd (opcodeDefined_eq_false hop)]
  simp [bitNat]

/-- An undefined opcode from the sideband. -/
theorem takeSideband_badOpcode {s : State} (hr : s.zordin.sb.requests ≠ []) (hh : s.zordin.sb.heldRsp = [])
    (ho : s.zordin.sb.outstanding.length < 4)
    (hd : isOutstanding (fieldOf (wordAt (s.zordin.sb.requests.headD []) 0) 16 5) s.zordin.sb.outstanding = false)
    (hop : ¬ isDefined (fieldOf (wordAt (s.zordin.sb.requests.headD []) 0) 0 16)) :
    takeSideband s =
      modSb (fun b => { b with cntDup := satAdd 32 b.cntDup 0, cntBadOpcode := satAdd 32 b.cntBadOpcode 1 })
        (respond .sideband (fieldOf (wordAt (s.zordin.sb.requests.headD []) 0) 16 5) .badOpcode [] (modSb takenSideband s)) := by
  rw [takeSideband_some hr hh ho, startCommand_badOpcode _ hd (opcodeDefined_eq_false hop)]
  rfl

/-- Settles O37: a take of an undefined opcode is a BAD_OPCODE response and a count, and neither creates a task nor reaches the rest of
the state. That a slot of this very cycle is taken in the next one is assumption 71; the free value of the sideband's phase bit is
assumptions 2 and 4. -/
theorem unknownOpcodesEndWithBadOpcode : Obligations.UnknownOpcodesEndWithBadOpcode := by
  unfold Obligations.UnknownOpcodesEndWithBadOpcode
  refine ⟨opcodeDefined_iff, fun f slot s hf hc hd hop => ?_, fun slot s hr hh ho hd hop => ?_⟩
  case refine_1 =>
    intro u t
    have hwork : work t = work s := by simp [t, u]
    refine ⟨?_, congrArg Prod.fst hwork, congrArg Prod.snd hwork, fun hm => eq_of_rest ?_⟩
    · rw [exec_commandTake_funcSource hf, takeFunc_badOpcode hc hd hop]
    · calc rest t = rest u := modFunc_rest _ _ _
        _ = rest (afterTake f (wordAt slot 0) s) := respond_rest _ _ _ _ _
        _ = rest s := afterTake_rest _ hm
  case refine_2 =>
    intro u t
    have hwork : work t = work s := by simp [t, u]
    refine ⟨?_, congrArg Prod.fst hwork, congrArg Prod.snd hwork, eq_of_rest ?_⟩
    · rw [exec_commandTake_sideband, takeSideband_badOpcode hr hh ho hd hop]
    · calc rest t = rest u := modSb_rest _ _
        _ = rest (modSb takenSideband s) := respond_rest _ _ _ _ _
        _ = rest s := modSb_rest _ _

end Sys2Proof.Machine
end

section
/-! SUPPORT. A function's mailbox: what it reads after it has been written, and what leaves it as it is. -/

namespace Sys2Proof.Machine

@[simp] theorem funcBox_setFunc (f : Nat) (b : FuncBox) (s : State) : funcBox f (setFunc f b s) = b := by
  unfold funcBox setFunc; split <;> rfl

@[simp] theorem setFunc_funcBox (f : Nat) (s : State) : setFunc f (funcBox f s) s = s := by
  unfold funcBox setFunc; split <;> rfl

@[simp] theorem funcBox_modFunc (f : Nat) (g : FuncBox → FuncBox) (s : State) : funcBox f (modFunc f g s) = g (funcBox f s) :=
  funcBox_setFunc _ _ _

@[simp] theorem funcBox_hostWrite (f a : Nat) (bs : List Byte) (s : State) : funcBox f (hostWrite a bs s) = funcBox f s := rfl

@[simp] theorem funcBox_dropLongs (f : Nat) (src : Source) (s : State) : funcBox f (dropLongs src s) = funcBox f s := rfl

@[simp] theorem funcBox_afterTake (f : Nat) (h : Word) (s : State) : funcBox f (afterTake f h s) = takenBox h (funcBox f s) :=
  funcBox_setFunc _ _ _

/-- The rings of a function that cannot give a command give none. -/
theorem takeFunc_of_not_canTake {src : Source} {f : Nat} {s : State} (slot : List Word) (hc : ¬ canTake f s) :
    takeFunc src f slot s = s := by
  have hguard : (!(funcBox f s).en || (funcBox f s).halted || (funcBox f s).heldRsp ≠ [] || (funcBox f s).cmdCi == (funcBox f s).cmdPi ||
      s.power.state == .curtain || !s.start.running) = true := by
    by_contra hg
    refine hc ?_
    simpa [canTake, and_assoc] using hg
  exact if_pos hguard

/-- Responses to a function go into that function's rings. -/
theorem deliver_funcSource {f : Nat} (hf : f < 2) (r : Response) (s : State) : deliver (funcSource f) r s = respondFunc f r s := by
  obtain rfl | rfl : f = 0 ∨ f = 1 := by omega
  · rfl
  · rfl

end Sys2Proof.Machine
end

section
/-! SUPPORT. The search for a free index (R437). -/

namespace Sys2Proof.Machine

theorem freeIndex_succ_of_taken {t : ChanType} {s : State} {ix : Nat} (h : taken t ix s) (fuel : Nat) :
    freeIndex (chanCode t) s ix (fuel + 1) = freeIndex (chanCode t) s (ix + 1) fuel := by
  obtain h | h := h <;> simp [freeIndex, h]

theorem freeIndex_succ_of_not_taken {t : ChanType} {s : State} {ix : Nat} (h : ¬ taken t ix s) (fuel : Nat) :
    freeIndex (chanCode t) s ix (fuel + 1) = some ix := by
  simp only [taken, not_or, Bool.not_eq_true] at h
  obtain ⟨hlive, hquar⟩ := h
  simp [freeIndex, hlive, hquar]

/-- What the search finds is free, within its bounds, and has no free index before it. -/
theorem freeIndex_eq_some {t : ChanType} {s : State} {i : Nat} (fuel ix : Nat) (h : freeIndex (chanCode t) s ix fuel = some i) :
    i < ix + fuel ∧ ¬ taken t i s ∧ ∀ j, ix ≤ j → j < i → taken t j s := by
  induction fuel generalizing ix with
  | zero => contradiction
  | succ fuel ih =>
    by_cases ht : taken t ix s
    · rw [freeIndex_succ_of_taken ht] at h
      obtain ⟨hlt, hfree, hbelow⟩ := ih (ix + 1) h
      refine ⟨by omega, hfree, fun j hj hji => ?_⟩
      obtain rfl | hlater := hj.eq_or_lt
      · exact ht
      · exact hbelow j hlater hji
    · rw [freeIndex_succ_of_not_taken ht, Option.some.injEq] at h
      subst h
      exact ⟨by omega, ht, fun j hj hji => absurd hji (by omega)⟩

/-- A search that finds nothing has passed only taken indices. -/
theorem freeIndex_eq_none {t : ChanType} {s : State} (fuel ix : Nat) (h : freeIndex (chanCode t) s ix fuel = none) :
    ∀ j, ix ≤ j → j < ix + fuel → taken t j s := by
  induction fuel generalizing ix with
  | zero => intro j hj hlt; omega
  | succ fuel ih =>
    intro j hj hlt
    by_cases ht : taken t ix s
    · rw [freeIndex_succ_of_taken ht] at h
      obtain rfl | hlater := hj.eq_or_lt
      · exact ht
      · exact ih (ix + 1) h j hlater (by omega)
    · rw [freeIndex_succ_of_not_taken ht] at h
      contradiction

/-- Settles O32: a create searches its type's whole range from index 0 upwards. -/
theorem newChannelsTakeTheLowestFreeIndex : Obligations.NewChannelsTakeTheLowestFreeIndex := by
  unfold Obligations.NewChannelsTakeTheLowestFreeIndex
  refine ⟨by decide, fun t s => ⟨fun i hi => ?_, fun hnone j hj => ?_⟩⟩
  · obtain ⟨hlt, hfree, hbelow⟩ := freeIndex_eq_some _ _ hi
    exact ⟨by omega, hfree, fun j hj => hbelow j (Nat.zero_le j) hj⟩
  · exact freeIndex_eq_none _ _ hnone j (Nat.zero_le j) (by omega)

end Sys2Proof.Machine
end

section
/-! SUPPORT. A mailbox that is off (R434): it gives no command, and what answers one with nothing outstanding changes nothing. -/

namespace Sys2Proof.Machine

/-- The mailbox after MBOX_DISABLE: EN is 0, and no command is outstanding or holds a response. -/
def disabledBox (b : FuncBox) : FuncBox := { b with en := false, outstanding := [], heldRsp := [] }

/-- MBOX_DISABLE turns the function's mailbox off and drops its pending long commands. -/
theorem exec_mboxDisable (f : Nat) (s : State) :
    exec (.mboxDisable f) s = .next (dropLongs (funcSource f) (setFunc f (disabledBox (funcBox f s)) s)) := rfl

theorem not_canTake_of_disabled {f : Nat} {s : State} (h : (funcBox f s).en = false) : ¬ canTake f s := by
  rintro ⟨hen, -⟩
  simp [h] at hen

/-- A response that comes while the rings are off is discarded; with nothing outstanding it ends no command either. -/
theorem respondFunc_of_disabled {f : Nat} {s : State} (r : Response) (hen : (funcBox f s).en = false)
    (hout : (funcBox f s).outstanding = []) : respondFunc f r s = s := by
  have hsettle : settle r (funcBox f s).outstanding = (funcBox f s).outstanding := by simp [hout, settle]
  calc respondFunc f r s
      = setFunc f { funcBox f s with outstanding := settle r (funcBox f s).outstanding } s := by simp [respondFunc, hen]
    _ = s := by rw [hsettle]; exact setFunc_funcBox f s

theorem mem_dropLongs {src : Source} {s : State} {l : LongCommand} (h : l ∈ (dropLongs src s).zordin.longs) : l.src ≠ src := by
  simp only [dropLongs, List.mem_filter, bne_iff_ne] at h
  exact h.2

/-- Settles O35: the mailbox that MBOX_DISABLE leaves is off with nothing outstanding. -/
theorem disablingAMailboxStopsIt : Obligations.DisablingAMailboxStopsIt := by
  unfold Obligations.DisablingAMailboxStopsIt
  intro f s
  have hbox : funcBox f (dropLongs (funcSource f) (setFunc f (disabledBox (funcBox f s)) s)) = disabledBox (funcBox f s) := by
    rw [funcBox_dropLongs, funcBox_setFunc]
  have hen := congrArg FuncBox.en hbox
  have hout := congrArg FuncBox.outstanding hbox
  refine ⟨_, exec_mboxDisable f s, rfl, setFunc_hostMem _ _ _, fun l => mem_dropLongs, fun hf slot => ?_, fun hf tag st ws => ?_⟩
  · rw [exec_commandTake_funcSource hf, takeFunc_of_not_canTake slot (not_canTake_of_disabled hen)]
  · rw [respond, deliver_funcSource hf, respondFunc_of_disabled _ hen hout]

end Sys2Proof.Machine
end

section
/-! SUPPORT. A repeated tag (R428): it is found before an undefined opcode (assumption 29), and its response settles no outstanding
command. -/

namespace Sys2Proof.Machine

/-- The response to a repeated tag: dup, final and CONFLICT (R428). -/
def dupResponse (tag : Nat) : Response := ⟨tag, 0x09, true, true, []⟩

/-- The mailbox once a repeated tag has been answered at cycle `now`: DUP_TAG is set and counted (R428). -/
def markDup (now : Nat) (b : FuncBox) : FuncBox :=
  { markStat 0 now b with dupTag := true, cntDup := satAdd 32 b.cntDup 1, cntBadOpcode := satAdd 32 b.cntBadOpcode 0 }

@[simp] theorem markDup_dupTag (now : Nat) (b : FuncBox) : (markDup now b).dupTag = true := rfl
@[simp] theorem markDup_outstanding (now : Nat) (b : FuncBox) : (markDup now b).outstanding = b.outstanding := rfl

/-- A response with dup = 1 settles no command. -/
theorem settle_of_dup {r : Response} (h : r.dup = true) (os : List Outstanding) : settle r os = os := by simp [settle, h]

@[simp] theorem sendMessage_outstanding (f v : Nat) (s : State) :
    (funcBox f (sendMessage f v s)).outstanding = (funcBox f s).outstanding := by
  simp only [sendMessage]
  split <;> simp

@[simp] theorem signalVector_outstanding (f v : Nat) (s : State) :
    (funcBox f (signalVector f v s)).outstanding = (funcBox f s).outstanding := by
  simp only [signalVector]
  split
  · simp
  · split <;> simp

theorem writeResponse_outstanding (f : Nat) (r : Response) (s : State) :
    (funcBox f (writeResponse f r s)).outstanding = settle r (funcBox f s).outstanding := by
  rw [writeResponse, signalVector_outstanding, funcBox_setFunc]

/-- Discarded, held or written, a response with dup = 1 leaves its function's outstanding commands as they are. -/
theorem respondFunc_outstanding_of_dup {f : Nat} {r : Response} (s : State) (h : r.dup = true) :
    (funcBox f (respondFunc f r s)).outstanding = (funcBox f s).outstanding := by
  simp only [respondFunc]
  split
  · simp [settle_of_dup h]
  · split
    · simp [markStat]
    · rw [writeResponse_outstanding, settle_of_dup h]

/-- Held or queued, a response with dup = 1 leaves the sideband's outstanding commands as they are. -/
theorem respondSideband_outstanding_of_dup {r : Response} (s : State) (h : r.dup = true) :
    (respondSideband r s).zordin.sb.outstanding = s.zordin.sb.outstanding := by
  simp only [respondSideband]
  split
  · rfl
  · exact settle_of_dup h _

theorem startCommand_dup {src : Source} {header : Word} {os : List Outstanding} (s : State)
    (hd : isOutstanding (fieldOf header 16 5) os = true) :
    startCommand src header os s = (true, false, deliver src (dupResponse (fieldOf header 16 5)) s) := by
  rw [isOutstanding] at hd
  simp [startCommand, hd, dupResponse, statusCode]

theorem takenBox_outstanding_of_dup {h : Word} {b : FuncBox} (hd : isOutstanding (fieldOf h 16 5) b.outstanding = true) :
    (takenBox h b).outstanding = b.outstanding := if_pos hd

theorem takenSideband_outstanding_of_dup {b : SidebandBox}
    (hd : isOutstanding (fieldOf (wordAt (b.requests.headD []) 0) 16 5) b.outstanding = true) :
    (takenSideband b).outstanding = b.outstanding := if_pos hd

/-- A repeated tag from a function: its response goes out, DUP_TAG is set and its counter steps. -/
theorem takeFunc_dup {src : Source} {f : Nat} {slot : List Word} {s : State} (hc : canTake f s)
    (hd : isOutstanding (fieldOf (wordAt slot 0) 16 5) (funcBox f s).outstanding = true) :
    takeFunc src f slot s =
      let u := deliver src (dupResponse (fieldOf (wordAt slot 0) 16 5)) (afterTake f (wordAt slot 0) s)
      modFunc f (markDup u.clock.now) u := by
  rw [takeFunc_canTake slot hc, startCommand_dup _ hd]
  simp only [Bool.or_true, bitNat, if_true]
  rfl

/-- A repeated tag from the sideband. -/
theorem takeSideband_dup {s : State} (hr : s.zordin.sb.requests ≠ []) (hh : s.zordin.sb.heldRsp = [])
    (ho : s.zordin.sb.outstanding.length < 4)
    (hd : isOutstanding (fieldOf (wordAt (s.zordin.sb.requests.headD []) 0) 16 5) s.zordin.sb.outstanding = true) :
    takeSideband s =
      modSb (fun b => { b with cntDup := satAdd 32 b.cntDup 1, cntBadOpcode := satAdd 32 b.cntBadOpcode 0 })
        (deliver .sideband (dupResponse (fieldOf (wordAt (s.zordin.sb.requests.headD []) 0) 16 5)) (modSb takenSideband s)) := by
  rw [takeSideband_some hr hh ho, startCommand_dup _ hd]
  rfl

/-- Settles O38: taking a repeated tag adds no outstanding command, and its response settles none and creates no task. The order before
BAD_OPCODE is assumption 29, and the cycle of the take is assumption 71. -/
theorem repeatedTagsAreNotExecuted : Obligations.RepeatedTagsAreNotExecuted := by
  unfold Obligations.RepeatedTagsAreNotExecuted
  refine ⟨fun f slot s hf hc hd => ?_, fun slot s hr hh ho hd => ?_⟩
  case refine_1 =>
    intro u t
    have hwork : work t = work s := by simp [t, u]
    have hbox : funcBox f t = markDup u.clock.now (funcBox f u) := funcBox_modFunc _ _ _
    have hu : u = respondFunc f (dupResponse (fieldOf (wordAt slot 0) 16 5)) (afterTake f (wordAt slot 0) s) := deliver_funcSource hf _ _
    refine ⟨?_, by rw [hbox, markDup_dupTag], ?_, congrArg Prod.fst hwork, congrArg Prod.snd hwork⟩
    · rw [exec_commandTake_funcSource hf, takeFunc_dup hc hd]
      rfl
    · calc (funcBox f t).outstanding = (funcBox f u).outstanding := by rw [hbox, markDup_outstanding]
        _ = (funcBox f (afterTake f (wordAt slot 0) s)).outstanding := by rw [hu, respondFunc_outstanding_of_dup _ rfl]
        _ = (funcBox f s).outstanding := by rw [funcBox_afterTake, takenBox_outstanding_of_dup hd]
  case refine_2 =>
    intro u t
    have hwork : work t = work s := by simp [t, u]
    refine ⟨?_, ?_, congrArg Prod.fst hwork, congrArg Prod.snd hwork⟩
    · rw [exec_commandTake_sideband, takeSideband_dup hr hh ho hd]
      rfl
    · calc t.zordin.sb.outstanding = (modSb takenSideband s).zordin.sb.outstanding := respondSideband_outstanding_of_dup _ rfl
        _ = s.zordin.sb.outstanding := takenSideband_outstanding_of_dup hd

end Sys2Proof.Machine
end

section
/-! SUPPORT. The queue, soundness and time (R3, R12, R123): what a step carries out, and what every command keeps. -/

namespace Sys2Proof.Machine

/-- What is kept from a sound state is sound. -/
theorem Kept.sound {k s : State} (h : Kept k s) (hk : Sound k) : Sound s := by
  obtain ⟨_, _, _, _, hsound⟩ := h
  exact hsound hk

theorem step_of_idle {s : State} (h : s.pending = []) : step s = .next (advance 1 s) := by
  simp only [step, h]

theorem step_of_pending {s : State} {c : Instr} {cs : List Instr} (h : s.pending = c :: cs) :
    step s = exec c { s with pending := cs } := by
  simp only [step, h]

/-- Settles O29: an idle step only lets time pass, and a command keeps soundness (`exec_kept`); the queue is no part of it. -/
theorem stepKeepsSound : Obligations.StepKeepsSound := by
  unfold Obligations.StepKeepsSound
  intro s t hs ht
  cases hq : s.pending with
  | nil =>
    rw [step_of_idle hq] at ht
    exact (next_kept ht (advance_kept 1 s (Kept_refl s))).sound hs
  | cons c cs =>
    rw [step_of_pending hq] at ht
    exact (exec_kept c _ (Kept_refl { s with pending := cs }) t ht).sound hs

/-- Settles O24. -/
theorem stepRunsFrontCommand : Obligations.StepRunsFrontCommand := by
  unfold Obligations.StepRunsFrontCommand
  exact fun c rest s => step_of_pending

/-- Settles O25: `advance` writes the clock alone. -/
theorem idleStepPassesOneCycle : Obligations.IdleStepPassesOneCycle := by
  unfold Obligations.IdleStepPassesOneCycle
  exact fun s h => ⟨step_of_idle h, rfl, rfl⟩

/-- Settles O27, from what `exec_kept` says of the queue, of what manufacture has set, and of the clock. That commands leave the queue alone
is assumption 1, and that no row turns the clock back is assumption 28. -/
theorem commandsKeepQueueAndTime : Obligations.CommandsKeepQueueAndTime := by
  unfold Obligations.CommandsKeepQueueAndTime
  intro i s t h
  obtain ⟨hpending, hserial, hcertLen, hnow, _⟩ := exec_kept i s (Kept_refl s) t h
  exact ⟨hpending, hserial, hcertLen, hnow⟩

/-- The pools that are live at reset have generation 0. -/
theorem soundChans_chansReset : soundChans chansReset := by
  refine ⟨by decide, fun e he => ?_⟩
  obtain ⟨i, _, rfl⟩ := List.mem_map.mp he
  exact Nat.zero_lt_succ _

theorem soundJoin_joinReset : soundJoin joinReset := by
  refine ⟨fun t ht => ?_, rfl⟩
  simp only [joinReset] at ht
  contradiction

/-- Settles O28, part by part. Reset values that the spec does not give are those of assumptions 35 and 36. -/
theorem resetIsSound : Obligations.ResetIsSound := by
  unfold Obligations.ResetIsSound
  exact ⟨rfl, soundJoin_joinReset, rfl, soundChans_chansReset⟩

end Sys2Proof.Machine
end

section
/-! SUPPORT. The gate of the mailbox commands (R435, R436): the number of words that each command defines, who executes it, and who may
issue it. -/

namespace Sys2Proof.Machine

/-- A mailbox command passes the shared gate with these request words, and the Stagehand executes it or not. -/
def Gated (stagehand : Bool) (words : Nat) (c : MailCommand) : Prop :=
  ∀ src tag req s, ∃ allowed body, exec (c src tag req) s = command src tag req ⟨words, allowed, stagehand⟩ body s

/-- A mailbox command with these request words denies a source at the shared gate. -/
def Denies (src : Source) (words : Nat) (c : MailCommand) : Prop :=
  ∀ tag req s, ∃ allowed stagehand body, allowed = false ∧ exec (c src tag req) s = command src tag req ⟨words, allowed, stagehand⟩ body s

/-- PF0's command begins, behind the shared gate, with the check of the handle in its first request word. -/
def ChecksHandle (stagehand : Bool) (words : Nat) (t : ChanType) (c : MailCommand) : Prop :=
  ∀ tag req s, ∃ k : State → Nat → Reply × State, exec (c .pf0 tag req) s =
    command .pf0 tag req ⟨words, true, stagehand⟩ (fun s => withHandle t (wordAt req 0) s (k s)) s

theorem gated_zordinCommandsLow : ∀ e ∈ zordinCommandsLow, Gated false e.2 e.1 := by
  simp only [zordinCommandsLow, List.forall_mem_cons, List.not_mem_nil, false_implies, implies_true, and_true]
  and_intros
  all_goals exact fun src tag req s => by unfold exec; exact ⟨_, _, rfl⟩

theorem gated_zordinCommandsHigh : ∀ e ∈ zordinCommandsHigh, Gated false e.2 e.1 := by
  simp only [zordinCommandsHigh, List.forall_mem_cons, List.not_mem_nil, false_implies, implies_true, and_true]
  and_intros
  all_goals exact fun src tag req s => by unfold exec; exact ⟨_, _, rfl⟩

theorem gated_stagehandCommands : ∀ e ∈ stagehandCommands, Gated true e.2 e.1 := by
  simp only [stagehandCommands, List.forall_mem_cons, List.not_mem_nil, false_implies, implies_true, and_true]
  and_intros
  all_goals exact fun src tag req s => by unfold exec; exact ⟨_, _, rfl⟩

theorem denies_pf0Commands {src : Source} (h : pf0Only src = false) : ∀ e ∈ pf0Commands, Denies src e.2 e.1 := by
  simp only [pf0Commands, List.forall_mem_cons, List.not_mem_nil, false_implies, implies_true, and_true]
  and_intros
  all_goals exact fun tag req s => by unfold exec; exact ⟨_, _, _, h, rfl⟩

theorem denies_channelCommands : ∀ e ∈ channelCommands, Denies .pf1 e.2 e.1 := by
  simp only [channelCommands, List.forall_mem_cons, List.not_mem_nil, false_implies, implies_true, and_true]
  and_intros
  all_goals exact fun tag req s => by unfold exec; exact ⟨_, _, _, rfl, rfl⟩

theorem checksHandle_handleCommands : ∀ e ∈ handleCommands, ChecksHandle e.2.2.2 e.2.2.1 e.2.1 e.1 := by
  simp only [handleCommands, List.forall_mem_cons, List.not_mem_nil, false_implies, implies_true, and_true]
  and_intros
  all_goals exact fun tag req s => by unfold exec; exact ⟨_, rfl⟩

/-- What the checks of R14 answer for a bad handle. -/
theorem checkHandle_badType {t : ChanType} {h : Word} {s : State} (ht : fieldOf h 26 6 ≠ chanCode t) :
    checkHandle t h s = .error .badArg := if_pos ht

theorem checkHandle_badIndex {t : ChanType} {h : Word} {s : State} (ht : fieldOf h 26 6 = chanCode t)
    (hi : chanRange (chanCode t) ≤ fieldOf h 0 16) : checkHandle t h s = .error .badArg := by
  simp [checkHandle, ht, hi]

theorem checkHandle_stale {t : ChanType} {h : Word} {s : State} (ht : fieldOf h 26 6 = chanCode t)
    (hi : fieldOf h 0 16 < chanRange (chanCode t))
    (hc : (chanSlot (chanCode t) (fieldOf h 0 16) s).live = false ∨
      (chanSlot (chanCode t) (fieldOf h 0 16) s).gen ≠ fieldOf h 16 10) :
    checkHandle t h s = .error .staleHandle := by
  have hbad : ((chanSlot (chanCode t) (fieldOf h 0 16) s).live &&
      (chanSlot (chanCode t) (fieldOf h 0 16) s).gen == fieldOf h 16 10) = false := by
    obtain hc | hc := hc <;> simp [hc]
  simp [checkHandle, ht, Nat.not_le.mpr hi, hbad]

/-- A command that begins with the check of a handle ends with what that check answers for a bad one. -/
theorem ChecksHandle.exec_of_error {stagehand : Bool} {words : Nat} {t : ChanType} {c : MailCommand} (h : ChecksHandle stagehand words t c)
    {tag : Nat} {req : List Word} {s : State} {st : Status} (hr : CanRun stagehand s) (hw : words ≤ req.length)
    (hh : checkHandle t (wordAt req 0) s = .error st) : exec (c .pf0 tag req) s = .next (answered .pf0 tag st [] s) := by
  obtain ⟨k, hk⟩ := h tag req s
  rw [hk]
  exact command_done hr hw rfl (withHandle_error hh)

/-- Settles O19: the shared gate counts the words before all else. Where Zordin does not run or the terminal is in recovery, that a short
request still ends with BAD_ARG is assumption 27. -/
theorem shortRequestsEndWithBadArg : Obligations.ShortRequestsEndWithBadArg := by
  unfold Obligations.ShortRequestsEndWithBadArg
  intro e he src tag req s hc hw
  have hg : ∃ stagehand, Gated stagehand e.2 e.1 := by
    rw [List.mem_append, List.mem_append] at he
    obtain (he | he) | he := he
    · exact ⟨_, gated_zordinCommandsLow e he⟩
    · exact ⟨_, gated_zordinCommandsHigh e he⟩
    · exact ⟨_, gated_stagehandCommands e he⟩
  obtain ⟨_, hg⟩ := hg
  obtain ⟨_, _, hexec⟩ := hg src tag req s
  rw [hexec]
  exact command_short (.inl hc) hw

theorem Denies.exec {src : Source} {words : Nat} {c : MailCommand} (h : Denies src words c) {tag : Nat} {req : List Word} {s : State}
    (hc : s.power.state ≠ .curtain) (hw : words ≤ req.length) : exec (c src tag req) s = .next (answered src tag .denied [] s) := by
  obtain ⟨_, _, _, hdenied, hexec⟩ := h tag req s
  rw [hexec]
  exact command_denied (.inl hc) hw hdenied

/-- Settles O20: the rule of each of these commands allows PF0 alone. Where Zordin does not run or the terminal is in recovery, that DENIED
comes before NOT_READY is assumption 27. -/
theorem othersAreDeniedWhatIsPf0s : Obligations.OthersAreDeniedWhatIsPf0s := by
  unfold Obligations.OthersAreDeniedWhatIsPf0s
  intro e he src tag req s hsrc hc hw
  exact (denies_pf0Commands (beq_false_of_ne hsrc) e he).exec hc hw

/-- Settles O21: the rule of each of these commands denies PF1. Where Zordin does not run or the terminal is in recovery, that DENIED comes
before NOT_READY is assumption 27. -/
theorem pf1CreatesAndDestroysNothing : Obligations.Pf1CreatesAndDestroysNothing := by
  unfold Obligations.Pf1CreatesAndDestroysNothing
  intro e he tag req s hc hw
  exact (denies_channelCommands e he).exec hc hw

/-- Settles O23: the gate of a command that the Stagehand does not execute is shut in a Curtain. -/
theorem curtainSilencesZordin : Obligations.CurtainSilencesZordin := by
  unfold Obligations.CurtainSilencesZordin
  intro e he src tag req s hc
  have hg : Gated false e.2 e.1 := by
    obtain he | he := List.mem_append.mp he
    · exact gated_zordinCommandsLow e he
    · exact gated_zordinCommandsHigh e he
  obtain ⟨_, _, hexec⟩ := hg src tag req s
  rw [hexec]
  exact command_curtain rfl hc

/-- Settles O31: every listed command checks its handle first, and the check answers a status for each of these handles. -/
theorem badHandlesAreTurnedAway : Obligations.BadHandlesAreTurnedAway := by
  unfold Obligations.BadHandlesAreTurnedAway
  intro e he tag req s hr hw
  have hcheck := checksHandle_handleCommands e he
  exact ⟨fun ht => hcheck.exec_of_error hr hw (checkHandle_badType ht),
    fun ht hi => hcheck.exec_of_error hr hw (checkHandle_badIndex ht hi),
    fun ht hi hc => hcheck.exec_of_error hr hw (checkHandle_stale ht hi hc)⟩

end Sys2Proof.Machine
end

section
/-! SUPPORT. Channels: what the slot of an index reads after a write to the table, and the end of a handle (R15, R439, R440). -/

namespace Sys2Proof.Machine

theorem chanSlot_setChan_same {s : State} (h : soundChans s.chans) (ty ix : Nat) (c : ChanSlot) :
    chanSlot ty ix (setChan ty ix c s) = c := by
  obtain ⟨hwf, _⟩ := h
  exact tabGet_tabSet_same _ _ _ _ hwf

theorem chanSlot_setChan_other {s : State} {ty ix ty' ix' : Nat} (h : chanKey ty' ix' ≠ chanKey ty ix) (c : ChanSlot) :
    chanSlot ty' ix' (setChan ty ix c s) = chanSlot ty' ix' s :=
  tabGet_tabSet_other _ _ _ _ _ h

/-- The slot that a destroy leaves behind (R15, R439). -/
theorem chanSlot_closeChan {s : State} (h : soundChans s.chans) (t : ChanType) (i : Nat) :
    chanSlot (chanCode t) i (closeChan t i s) =
      { live := false, gen := ((chanSlot (chanCode t) i s).gen + 1) % 1024, quarantined := (chanSlot (chanCode t) i s).gen == 1023,
        quarEnd := s.clock.outTime + secOut } :=
  chanSlot_setChan_same h _ _ _

/-- A handle passes the checks of R14 when its type, its index and its generation are those of a live index. -/
theorem checkHandle_ok_iff {t : ChanType} {h : Word} {s : State} {i : Nat} :
    checkHandle t h s = .ok i ↔ fieldOf h 26 6 = chanCode t ∧ fieldOf h 0 16 < chanRange (chanCode t) ∧ fieldOf h 0 16 = i ∧
      (chanSlot (chanCode t) i s).live = true ∧ (chanSlot (chanCode t) i s).gen = fieldOf h 16 10 := by
  unfold checkHandle
  grind

/-- Settles O33: the slot that a destroy writes is not live, so the handle that named it is stale. -/
theorem destroyEndsItsHandle : Obligations.DestroyEndsItsHandle := by
  unfold Obligations.DestroyEndsItsHandle
  intro t h s i hs hok
  obtain ⟨htype, hrange, hindex, _, _⟩ := checkHandle_ok_iff.mp hok
  have hslot := chanSlot_closeChan hs t i
  have hdead : (chanSlot (chanCode t) i (closeChan t i s)).live = false := by rw [hslot]
  refine ⟨checkHandle_stale htype hrange (.inl ?_), hdead, ?_, ?_, ?_, fun ty j hne => ?_⟩
  · rw [hindex]
    exact hdead
  · rw [hslot]
  · rw [hslot, beq_iff_eq]
  · rw [hslot]
    rfl
  · exact chanSlot_setChan_other hne _

end Sys2Proof.Machine
end

section
/-! SUPPORT. The scheduler (R447, R448): the core that a new task joins, and its place there. -/

namespace Sys2Proof.Machine

/-- A new task stands behind the ready tasks of its level and above, which lead the queue as long as no lower one comes. -/
theorem enqueueTask_eq (t : Task) (us : List Task) :
    enqueueTask t us = us.takeWhile (fun u => t.level ≤ u.level) ++ t :: us.dropWhile (fun u => t.level ≤ u.level) := by
  induction us with
  | nil => rfl
  | cons u us ih =>
    by_cases h : t.level ≤ u.level <;> simp [enqueueTask, h, ih]

/-- The ready tasks at or above a level of the core at a place. -/
def loadAt (level : Nat) (cs : List CoreQueue) (k : Nat) : Nat := readyAbove level (cs.getD k coreQueueReset)

/-- The core that is chosen is one of the cores, none has fewer such tasks, and each before it has more. -/
theorem chooseCore_spec (level : Nat) (cs : List CoreQueue) (h : cs ≠ []) :
    chooseCore level cs < cs.length ∧ (∀ k < cs.length, loadAt level cs (chooseCore level cs) ≤ loadAt level cs k) ∧
      ∀ k < chooseCore level cs, loadAt level cs (chooseCore level cs) < loadAt level cs k := by
  induction cs with
  | nil => contradiction
  | cons c cs ih =>
    cases cs with
    | nil => exact ⟨Nat.zero_lt_one, fun k hk => by rw [Nat.lt_one_iff.mp hk]; exact le_rfl, fun k hk => absurd hk (Nat.not_lt_zero k)⟩
    | cons d cs =>
      obtain ⟨hlt, hmin, hfirst⟩ := ih (List.cons_ne_nil d cs)
      have hsucc : ∀ k, loadAt level (c :: d :: cs) (k + 1) = loadAt level (d :: cs) k := fun k => rfl
      by_cases hc : loadAt level (c :: d :: cs) 0 ≤ loadAt level (d :: cs) (chooseCore level (d :: cs))
      · have hchoice : chooseCore level (c :: d :: cs) = 0 := if_pos hc
        rw [hchoice]
        refine ⟨Nat.zero_lt_succ _, fun k hk => ?_, fun k hk => absurd hk (Nat.not_lt_zero k)⟩
        cases k with
        | zero => exact le_rfl
        | succ k => exact hc.trans (hmin k (Nat.lt_of_succ_lt_succ hk))
      · have hchoice : chooseCore level (c :: d :: cs) = chooseCore level (d :: cs) + 1 := if_neg hc
        rw [hchoice, hsucc]
        refine ⟨Nat.succ_lt_succ hlt, fun k hk => ?_, fun k hk => ?_⟩
        · cases k with
          | zero => exact (not_le.mp hc).le
          | succ k => exact hmin k (Nat.lt_of_succ_lt_succ hk)
        · cases k with
          | zero => exact not_le.mp hc
          | succ k => exact hfirst k (Nat.lt_of_succ_lt_succ hk)

/-- A new task changes the core that is chosen, and no other. -/
theorem createTask_core (level id : Nat) (s : State) (k : Nat) :
    (createTask level id s).zordin.sched.cores[k]? =
      (fun c => if chooseCore level s.zordin.sched.cores = k then joinCore enqueueTask ⟨level, id, s.clock.now⟩ c else c) <$>
        s.zordin.sched.cores[k]? :=
  List.getElem?_modify _ _ _ _

/-- Settles O59. -/
theorem newTasksJoinTheLeastLoadedCore : Obligations.NewTasksJoinTheLeastLoadedCore := by
  unfold Obligations.NewTasksJoinTheLeastLoadedCore
  intro level id s hne core t
  obtain ⟨hlt, hmin, hfirst⟩ := chooseCore_spec level s.zordin.sched.cores hne
  refine ⟨chooseCore level s.zordin.sched.cores, hlt, hmin, hfirst, ?_, fun k hk => ?_⟩
  · have hcore : core t (chooseCore level s.zordin.sched.cores) =
        joinCore enqueueTask ⟨level, id, s.clock.now⟩ (core s (chooseCore level s.zordin.sched.cores)) := by
      simp only [core, t, List.getD_eq_getElem?_getD, createTask_core, List.getElem?_eq_getElem hlt]
      simp
    rw [hcore]
    exact enqueueTask_eq _ _
  · simp only [core, t, List.getD_eq_getElem?_getD, createTask_core, if_neg hk.symm, id_map']

end Sys2Proof.Machine
end

section
/-! SUPPORT. Responses in host memory (R425, R429, R433, R434, R481): the bytes that a response and the message of its vector write, and the
mailbox behind them. -/

namespace Sys2Proof.Machine

/-- A write of bytes reads back, byte by byte. -/
theorem memRead_memWrite_inside (bs : List Byte) (m : Memory) (a k : Nat) (hm : Memory.wf m = true) (hk : k < bs.length) :
    memRead (memWrite m a bs) (a + k) = bs.getD k 0 := by
  induction bs generalizing m a k with
  | nil => exact absurd hk (Nat.not_lt_zero k)
  | cons v vs ih =>
    have hm' : Memory.wf (tabSet 0 m a v) = true := tabSet_wf 0 m a v hm
    change memRead (memWrite (tabSet 0 m a v) (a + 1) vs) (a + k) = _
    cases k with
    | zero =>
      exact (memRead_memWrite_outside vs _ _ _ (.inl (Nat.lt_add_one a))).trans (tabGet_tabSet_same 0 m a v hm)
    | succ k =>
      rw [Nat.add_left_comm, Nat.add_comm k, ih _ _ k hm' (Nat.lt_of_succ_lt_succ hk)]
      rfl

theorem bytesOfWord_length (w : Word) : (bytesOfWord w).length = 4 := rfl

theorem bytesOfWords_length (ws : List Word) : (bytesOfWords ws).length = 4 * ws.length := by
  simp [bytesOfWords, List.length_flatMap, bytesOfWord_length, Nat.mul_comm]

theorem bytesOfWords_cons (w : Word) (ws : List Word) : bytesOfWords (w :: ws) = bytesOfWord w ++ bytesOfWords ws := List.flatMap_cons

theorem hostWrite_hostMem (a : Nat) (bs : List Byte) (s : State) :
    (hostWrite a bs s).hostMem = memWrite s.hostMem (a % 2 ^ 64) bs := rfl

/-- The address of a vector's message (R481). -/
def messageAddress (x : Vector) : Nat := (x.addrLo.toNat + 2 ^ 32 * x.addrHi.toNat) % 2 ^ 64

theorem sendMessage_hostMem (f v : Nat) (s : State) :
    (sendMessage f v s).hostMem = s.hostMem ∨ (sendMessage f v s).hostMem =
      memWrite s.hostMem (messageAddress (tabGet vectorReset (funcBox f s).msix v))
        (bytesOfWord (tabGet vectorReset (funcBox f s).msix v).data) := by
  simp only [sendMessage]
  split
  · exact .inl (setFunc_hostMem _ _ _)
  · refine .inr ?_
    simp only [hostWrite, setFunc_hostMem, messageAddress]

/-- A signal of a vector leaves host memory as it is, or writes the vector's message. -/
theorem signalVector_hostMem (f v : Nat) (s : State) :
    (signalVector f v s).hostMem = s.hostMem ∨ (signalVector f v s).hostMem =
      memWrite s.hostMem (messageAddress (tabGet vectorReset (funcBox f s).msix v))
        (bytesOfWord (tabGet vectorReset (funcBox f s).msix v).data) := by
  simp only [signalVector]
  split
  · exact sendMessage_hostMem f v s
  · split
    · exact sendMessage_hostMem f v s
    · exact .inl (setFunc_hostMem _ _ _)

/-- A signal of a vector reaches no byte but those of the vector's message. -/
theorem memRead_signalVector (f v : Nat) (s : State) {a : Nat}
    (ha : a < messageAddress (tabGet vectorReset (funcBox f s).msix v) ∨ messageAddress (tabGet vectorReset (funcBox f s).msix v) + 4 ≤ a) :
    memRead (signalVector f v s).hostMem a = memRead s.hostMem a := by
  obtain h | h := signalVector_hostMem f v s
  · rw [h]
  · rw [h, memRead_memWrite_outside _ _ _ _ ha]

/-- Of its function's mailbox a message changes the vectors alone. -/
theorem funcBox_sendMessage (f v : Nat) (s : State) : ∃ x, funcBox f (sendMessage f v s) = { funcBox f s with msix := x } := by
  simp only [sendMessage]
  split
  · exact ⟨_, funcBox_setFunc _ _ _⟩
  · exact ⟨_, funcBox_setFunc _ _ _⟩

theorem funcBox_signalVector (f v : Nat) (s : State) : ∃ x, funcBox f (signalVector f v s) = { funcBox f s with msix := x } := by
  simp only [signalVector]
  split
  · exact funcBox_sendMessage f v s
  · split
    · exact funcBox_sendMessage f v s
    · exact ⟨_, funcBox_setFunc _ _ _⟩

theorem writeResponse_rspPi (f : Nat) (r : Response) (s : State) :
    (funcBox f (writeResponse f r s)).rspPi = ((funcBox f s).rspPi + 1) % 128 := by
  rw [writeResponse]
  obtain ⟨x, hx⟩ := funcBox_signalVector f 0 _
  rw [hx, funcBox_setFunc]

/-- A response that its function's rings and its engine take, with a slot free and none held before it. -/
theorem respondFunc_of_free {f : Nat} {s : State} (r : Response) (hen : (funcBox f s).en = true) (hhalt : (funcBox f s).halted = false)
    (hheld : (funcBox f s).heldRsp = []) (hfree : 0 < ringFree 64 (funcBox f s).rspPi (funcBox f s).rspCi) :
    respondFunc f r s = writeResponse f r s := by
  simp [respondFunc, hen, hhalt, hheld, hfree.ne']

/-- The response slot that the next response takes. -/
def rspSlot (b : FuncBox) : Nat := b.rspBase + 512 * (b.rspPi % 64)

/-- Host memory once a response lies in its slot: its words, then word 0, which makes it valid (R429). -/
def slotWritten (r : Response) (b : FuncBox) (m : Memory) : Memory :=
  memWrite (memWrite m ((rspSlot b + 4) % 2 ^ 64) (bytesOfWords r.words)) (rspSlot b % 2 ^ 64)
    (bytesOfWord (responseHeader (ringPhase 64 b.rspPi) r))

/-- Beside its slot a response reaches no byte but those of the message of vector 0. -/
theorem memRead_writeResponse (f : Nat) (r : Response) (s : State) {a : Nat}
    (ha : a < messageAddress (tabGet vectorReset (funcBox f s).msix 0) ∨
      messageAddress (tabGet vectorReset (funcBox f s).msix 0) + 4 ≤ a) :
    memRead (writeResponse f r s).hostMem a = memRead (slotWritten r (funcBox f s) s.hostMem) a := by
  rw [writeResponse, memRead_signalVector f 0 _ (by rw [funcBox_setFunc]; exact ha), setFunc_hostMem, hostWrite_hostMem, hostWrite_hostMem,
    slotWritten, rspSlot]

theorem memRead_slotWritten_outside (r : Response) (b : FuncBox) (m : Memory) {a : Nat} (hb : rspSlot b + 512 ≤ 2 ^ 64)
    (ha : a < rspSlot b ∨ rspSlot b + 4 * (r.words.length + 1) ≤ a) : memRead (slotWritten r b m) a = memRead m a := by
  rw [slotWritten, Nat.mod_eq_of_lt (by omega), Nat.mod_eq_of_lt (by omega),
    memRead_memWrite_outside _ _ _ _ (by rw [bytesOfWord_length]; omega),
    memRead_memWrite_outside _ _ _ _ (by rw [bytesOfWords_length]; omega)]

/-- The slot reads back word 0 and then the response's words. -/
theorem memRead_slotWritten_inside (r : Response) (b : FuncBox) (m : Memory) {k : Nat} (hm : Memory.wf m = true)
    (hb : rspSlot b + 512 ≤ 2 ^ 64) (hk : k < 4 * (r.words.length + 1)) :
    memRead (slotWritten r b m) (rspSlot b + k) =
      (bytesOfWords (responseHeader (ringPhase 64 b.rspPi) r :: r.words)).getD k 0 := by
  rw [slotWritten, Nat.mod_eq_of_lt (by omega), Nat.mod_eq_of_lt (by omega), bytesOfWords_cons]
  by_cases h4 : k < 4
  · rw [memRead_memWrite_inside _ _ _ _ (memWrite_wf _ _ _ hm) h4, List.getD_append _ _ _ _ h4]
  · obtain ⟨j, rfl⟩ := Nat.exists_eq_add_of_le (Nat.not_lt.mp h4)
    rw [memRead_memWrite_outside _ _ _ _ (by rw [bytesOfWord_length]; omega), ← Nat.add_assoc,
      memRead_memWrite_inside _ _ _ _ hm (by rw [bytesOfWords_length]; omega),
      List.getD_append_right _ _ _ _ (by rw [bytesOfWord_length]; omega), bytesOfWord_length, Nat.add_sub_cancel_left]

theorem statusCode_lt (st : Status) : statusCode st < 256 := by cases st <;> decide

/-- Word 0 of a final response of fewer than 128 words (R425). -/
theorem responseHeader_final {tag : Nat} {st : Status} {ws : List Word} (hw : ws.length < 128) (phase : Nat) :
    responseHeader phase ⟨tag, statusCode st, true, false, ws⟩ =
      pack [(31, phase), (24, ws.length), (23, 1), (22, 0), (16, tag % 32), (0, statusCode st)] := by
  simp only [responseHeader, Nat.mod_eq_of_lt hw, Nat.mod_eq_of_lt (statusCode_lt st), bitNat, if_true, Bool.false_eq_true, if_false]

/-- Settles O39: the response takes the slot at the producer index, and the signal of vector 0 follows it. -/
theorem responsesLieInTheirSlots : Obligations.ResponsesLieInTheirSlots := by
  unfold Obligations.ResponsesLieInTheirSlots
  intro tag st ws s b base t x msg hen hhalt hheld hfree hw hb hm
  have ht : t = writeResponse 0 ⟨tag, statusCode st, true, false, ws⟩ (finishTask (commandTask .pf0 tag) s) :=
    respondFunc_of_free (f := 0) (s := finishTask (commandTask .pf0 tag) s) _ hen hhalt hheld hfree
  have hpf0 : t.zordin.pf0 = funcBox 0 t := rfl
  have hread : ∀ a, a < msg ∨ msg + 4 ≤ a →
      memRead t.hostMem a = memRead (slotWritten ⟨tag, statusCode st, true, false, ws⟩ b s.hostMem) a := by
    intro a ha
    rw [ht]
    exact memRead_writeResponse 0 _ (finishTask (commandTask .pf0 tag) s) ha
  refine ⟨?_, ?_, fun a ha hmsg => ?_, fun hmsg k hk => ?_⟩
  · rw [hpf0, ht]
    exact writeResponse_rspPi 0 _ _
  · rw [hpf0, ht, writeResponse_outstanding]
    rfl
  · rw [hread a hmsg]
    exact memRead_slotWritten_outside _ b _ hb ha
  · rw [hread _ (by omega), ← responseHeader_final hw]
    exact memRead_slotWritten_inside _ b _ hm hb hk

/-- States that differ in Zordin alone. -/
theorem setFunc_eq_of_zordin (f : Nat) (b : FuncBox) (s : State) : { setFunc f b s with zordin := s.zordin } = s := by
  unfold setFunc; split <;> rfl

/-- While a function's rings are off or its engine is halted a response only ends its command (R433, R434). -/
theorem respondFunc_of_off {f : Nat} {s : State} (r : Response) (h : (funcBox f s).en = false ∨ (funcBox f s).halted = true) :
    respondFunc f r s = setFunc f { funcBox f s with outstanding := settle r (funcBox f s).outstanding } s := by
  obtain h | h := h <;> simp [respondFunc, h]

/-- While no slot is free a response is held (R429). -/
theorem respondFunc_of_full {f : Nat} {s : State} (r : Response) (hen : (funcBox f s).en = true) (hhalt : (funcBox f s).halted = false)
    (hfull : ringFree 64 (funcBox f s).rspPi (funcBox f s).rspCi = 0) :
    respondFunc f r s = setFunc f (markStat 2 s.clock.now { funcBox f s with
      heldRsp := (funcBox f s).heldRsp ++ [r], rspHeld := true, cntHeld := satAdd 32 (funcBox f s).cntHeld 1 }) s := by
  simp [respondFunc, hen, hhalt, hfull]

/-- RESPONSE_WRITE of a function writes nothing while no slot is free. -/
theorem exec_responseWrite_of_full {f : Nat} (hf : f < 2) {s : State} (hfull : ringFree 64 (funcBox f s).rspPi (funcBox f s).rspCi = 0) :
    exec (.responseWrite (funcSource f)) s = .next s := by
  obtain rfl | rfl : f = 0 ∨ f = 1 := by omega
  · change execResponseWrite .pf0 s = _
    simp only [execResponseWrite, sourceCode]
    split
    · rfl
    · simp [hfull]
  · change execResponseWrite .pf1 s = _
    simp only [execResponseWrite, sourceCode]
    split
    · rfl
    · simp [hfull]

/-- Settles O40: a discarded response writes the mailbox alone, and a held one stands before every command. -/
theorem responsesAreDiscardedOrHeld : Obligations.ResponsesAreDiscardedOrHeld := by
  unfold Obligations.ResponsesAreDiscardedOrHeld
  refine ⟨fun f tag st ws s hf hoff => ?_, fun f tag st ws s slot hf hen hhalt hfull => ?_⟩
  · rw [respond, deliver_funcSource hf, respondFunc_of_off _ hoff]
    exact ⟨setFunc_hostMem _ _ _, setFunc_eq_of_zordin _ _ _⟩
  · intro t
    have ht : t = _ := (deliver_funcSource hf _ s).trans (respondFunc_of_full _ hen hhalt hfull)
    have hbox := congrArg (funcBox f) ht
    rw [funcBox_setFunc] at hbox
    have hheld : (funcBox f t).heldRsp = (funcBox f s).heldRsp ++ [⟨tag, statusCode st, true, false, ws⟩] := congrArg FuncBox.heldRsp hbox
    have hbusy : ¬ canTake f t := by
      rintro ⟨-, -, hnone, -⟩
      simp [hheld] at hnone
    refine ⟨by rw [ht, setFunc_hostMem], congrArg FuncBox.rspHeld hbox, hheld, ?_, ?_⟩
    · rw [exec_commandTake_funcSource hf, takeFunc_of_not_canTake slot hbusy]
    · exact exec_responseWrite_of_full hf (by rw [hbox]; exact hfull)

end Sys2Proof.Machine
end

section
/-! SUPPORT. What a host reads of its mailbox (R424, R8, R10): the registers of MBOX after each of the writes to them. -/

namespace Sys2Proof.Machine

theorem readRegister_mbox {o : Nat} (ho : o % 4 = 0) (hlt : o < 0x10000) (f : Nat) (s : State) :
    readRegister f o s = readMbox (funcBox f s) o := by
  rw [readRegister, if_neg (not_not.mpr ho), if_pos hlt]

theorem wordOf_toNat (v : Word) : wordOf v.toNat = v := by
  rw [wordOf, BitVec.ofNat_toNat, BitVec.setWidth_eq]

/-- A half of a register pair reads as it was last written. -/
theorem halfWord_setHalf {v : Nat} (hv : v < 2 ^ 32) (high : Bool) (n : Nat) : halfWord high (setHalf high n v) = wordOf v := by
  cases high
  · simp only [halfWord, setHalf, Bool.false_eq_true, if_false]
    congr 1
    omega
  · simp only [halfWord, setHalf, if_true]
    congr 1
    omega

/-- The bits of MBOX_STAT. -/
theorem readMbox_stat : ∀ a b c d : Bool, ∀ i < 4,
    bitOf (pack [(0, bitNat a), (1, bitNat b), (2, bitNat c), (3, bitNat d)]) i = [a, b, c, d].getD i false := by decide

theorem readMbox_ctrl : ∀ a b : Bool, bitOf (pack [(0, bitNat a), (1, bitNat b)]) 0 = a := by decide

@[simp] theorem funcBox_popCycle (f n depth : Nat) (m : Option (Nat × Nat)) (s : State) : funcBox f (popCycle n depth m s) = funcBox f s := by
  unfold popCycle; split <;> rfl

/-! ### EN and the indices -/

theorem exec_mboxEnable_of_off {f : Nat} {s : State} (h : (funcBox f s).en = false) :
    exec (.mboxEnable f) s = .next (setFunc f { funcBox f s with
      en := true, cmdPi := 0, cmdCi := 0, rspPi := 0, rspCi := 0, ntfPi := 0, ntfCi := 0, cmdNew := none, rspNew := none,
      ntfNew := none } s) := by
  change execMboxEnable f s = _
  simp [execMboxEnable, h]

theorem exec_mboxEnable_of_on {f : Nat} {s : State} (h : (funcBox f s).en = true) : exec (.mboxEnable f) s = .next s := by
  change execMboxEnable f s = _
  simp [execMboxEnable, h]

theorem exec_mboxCmdPi_of_valid {f : Nat} {v : Word} {s : State} (h : (v.toNat % 64 + 64 - (funcBox f s).cmdCi) % 64 ≤ 32) :
    exec (.mboxCmdPi f v) s = .next (setFunc f { funcBox f s with
      cmdPi := v.toNat % 64,
      cmdNew := pushMark ((v.toNat % 64 + 64 - (funcBox f s).cmdPi) % 64) s.clock.now (funcBox f s).cmdNew } s) :=
  if_neg (Nat.not_lt.mpr h)

theorem exec_mboxCmdPi_of_invalid {f : Nat} {v : Word} {s : State} (h : 32 < (v.toNat % 64 + 64 - (funcBox f s).cmdCi) % 64) :
    exec (.mboxCmdPi f v) s = .next (setFunc f (markStat 1 s.clock.now { funcBox f s with piBad := true }) s) :=
  if_pos h

theorem exec_mboxRspCi_of_valid {f : Nat} {v : Word} {s : State}
    (h : consumerValid 64 (v.toNat % 128) (funcBox f s).rspCi (funcBox f s).rspPi = true) :
    exec (.mboxRspCi f v) s = .next (popCycle (ahead 64 (v.toNat % 128) (funcBox f s).rspCi)
      (ahead 64 (funcBox f s).rspPi (funcBox f s).rspCi) (funcBox f s).rspNew (setFunc f { funcBox f s with rspCi := v.toNat % 128 } s)) :=
  if_pos h

theorem exec_mboxRspCi_of_invalid {f : Nat} {v : Word} {s : State}
    (h : consumerValid 64 (v.toNat % 128) (funcBox f s).rspCi (funcBox f s).rspPi = false) :
    exec (.mboxRspCi f v) s = .next (setFunc f (markStat 3 s.clock.now { funcBox f s with ciBad := true }) s) :=
  if_neg (Bool.eq_false_iff.mp h)

theorem exec_mboxNtfCi_of_valid {f : Nat} {v : Word} {s : State}
    (h : consumerValid 256 (v.toNat % 512) (funcBox f s).ntfCi (funcBox f s).ntfPi = true) :
    exec (.mboxNtfCi f v) s = .next (popCycle (ahead 256 (v.toNat % 512) (funcBox f s).ntfCi)
      (ahead 256 (funcBox f s).ntfPi (funcBox f s).ntfCi) (funcBox f s).ntfNew (setFunc f { funcBox f s with ntfCi := v.toNat % 512 } s)) :=
  if_pos h

theorem exec_mboxNtfCi_of_invalid {f : Nat} {v : Word} {s : State}
    (h : consumerValid 256 (v.toNat % 512) (funcBox f s).ntfCi (funcBox f s).ntfPi = false) :
    exec (.mboxNtfCi f v) s = .next (setFunc f (markStat 3 s.clock.now { funcBox f s with ciBad := true }) s) :=
  if_neg (Bool.eq_false_iff.mp h)

/-! ### Register writes -/

/-- A write to a register of MBOX that has no row of its own: a ring base, or nothing. -/
theorem exec_registerWrite_mbox {f o : Nat} {v : Word} {s : State} (ho : o % 4 = 0) (hlt : o < 0x10000)
    (hrow : o ∉ [0x00, 0x20, 0x2C, 0x34, 0x38]) :
    exec (.registerWrite f o v) s = .next (if 0x8 ≤ o ∧ o < 0x20 then writeBase f o v s else s) := by
  change execRegisterWrite f o v s = _
  rw [execRegisterWrite, if_neg (not_not.mpr ho), if_pos hlt]
  simp only [List.mem_cons, List.not_mem_nil, or_false, not_or] at hrow
  obtain ⟨h0, h20, h2c, h34, h38⟩ := hrow
  unfold writeMbox
  split
  · exact absurd rfl h0
  · exact absurd rfl h20
  · exact absurd rfl h2c
  · exact absurd rfl h34
  · exact absurd rfl h38
  · rfl

theorem exec_registerWrite_base {f o : Nat} (ho : o ∈ [0x8, 0xC, 0x10, 0x14, 0x18, 0x1C]) (v : Word) (s : State) :
    exec (.registerWrite f o v) s = .next (writeBase f o v s) := by
  simp only [List.mem_cons, List.not_mem_nil, or_false] at ho
  rw [exec_registerWrite_mbox (by omega) (by omega) (by simp; omega), if_pos (by omega)]

/-- While EN is 1 the ring bases stay (R424). -/
theorem writeBase_of_on {f o : Nat} {v : Word} {s : State} (h : (funcBox f s).en = true) : writeBase f o v s = s := by
  simp [writeBase, h]

/-- While EN is 0 a ring base register takes what is written, but for the reserved bits 11:0 of its low half (R424). -/
theorem readRegister_writeBase {f o : Nat} (ho : o ∈ [0x8, 0xC, 0x10, 0x14, 0x18, 0x1C]) {v : Word} {s : State}
    (h : (funcBox f s).en = false) :
    readRegister f o (writeBase f o v s) = wordOf (if o % 8 = 0 then v.toNat / 4096 * 4096 else v.toNat) := by
  have hv : v.toNat < 2 ^ 32 := v.isLt
  have hlow : v.toNat / 4096 * 4096 < 2 ^ 32 := by omega
  simp only [List.mem_cons, List.not_mem_nil, or_false] at ho
  rw [readRegister_mbox (by omega) (by omega)]
  obtain rfl | rfl | rfl | rfl | rfl | rfl := ho
  · simpa [writeBase, h, readMbox] using halfWord_setHalf hlow false _
  · simpa [writeBase, h, readMbox] using halfWord_setHalf hv true _
  · simpa [writeBase, h, readMbox] using halfWord_setHalf hlow false _
  · simpa [writeBase, h, readMbox] using halfWord_setHalf hv true _
  · simpa [writeBase, h, readMbox] using halfWord_setHalf hlow false _
  · simpa [writeBase, h, readMbox] using halfWord_setHalf hv true _

/-- A read-only register and an address of no register leave everything as it is (R8, R10). -/
theorem exec_registerWrite_readOnly {f o : Nat} {v : Word} {s : State}
    (ho : o ∈ [0x4, 0x24, 0x28, 0x30] ∨ (0x3C ≤ o ∧ o < 0x10000) ∨ (0x20000 ≤ o ∧ o < 0x31000) ∨ 0x80000 ≤ o) :
    exec (.registerWrite f o v) s = .next s := by
  by_cases h4 : o % 4 = 0
  · simp only [List.mem_cons, List.not_mem_nil, or_false] at ho
    by_cases hlt : o < 0x10000
    · rw [exec_registerWrite_mbox h4 hlt (by simp; omega), if_neg (by omega)]
    · change execRegisterWrite f o v s = _
      rw [execRegisterWrite, if_neg (not_not.mpr h4), if_neg hlt, if_neg (by omega), if_neg (by omega), if_neg (by omega),
        if_neg (by omega)]
  · exact if_pos h4

/-! ### Taking a command -/

theorem respondFunc_cmdCi (f : Nat) (r : Response) (s : State) : (funcBox f (respondFunc f r s)).cmdCi = (funcBox f s).cmdCi := by
  simp only [respondFunc]
  split
  · rw [funcBox_setFunc]
  · split
    · rw [funcBox_setFunc]
      rfl
    · obtain ⟨x, hx⟩ := funcBox_signalVector f 0 _
      rw [writeResponse, hx, funcBox_setFunc]

/-- Neither an answer to the command nor its task moves the command ring. -/
theorem startCommand_cmdCi {f : Nat} (hf : f < 2) (h : Word) (os : List Outstanding) (s : State) :
    (funcBox f (startCommand (funcSource f) h os s).2.2).cmdCi = (funcBox f s).cmdCi := by
  simp only [startCommand]
  split
  · simp only [deliver_funcSource hf, respondFunc_cmdCi]
  · split
    · simp only [respond, deliver_funcSource hf, respondFunc_cmdCi]
    · rfl

theorem takeFunc_cmdCi {f : Nat} (hf : f < 2) {s : State} (slot : List Word) (hc : canTake f s) :
    (funcBox f (takeFunc (funcSource f) f slot s)).cmdCi = ((funcBox f s).cmdCi + 1) % 64 := by
  rw [takeFunc_canTake slot hc]
  simp only [funcBox_modFunc]
  rw [apply_ite FuncBox.cmdCi]
  simp only [markStat, ite_self, startCommand_cmdCi hf, funcBox_afterTake, takenBox]

theorem respondSideband_requests (r : Response) (s : State) : (respondSideband r s).zordin.sb.requests = s.zordin.sb.requests := by
  simp only [respondSideband]
  split <;> rfl

theorem startCommand_requests (h : Word) (os : List Outstanding) (s : State) :
    (startCommand .sideband h os s).2.2.zordin.sb.requests = s.zordin.sb.requests := by
  simp only [startCommand]
  split
  · exact respondSideband_requests _ _
  · split
    · exact respondSideband_requests _ _
    · rfl

theorem takeSideband_requests {s : State} {r : List Word} {rs : List (List Word)} (hr : s.zordin.sb.requests = r :: rs)
    (hh : s.zordin.sb.heldRsp = []) (ho : s.zordin.sb.outstanding.length < 4) : (takeSideband s).zordin.sb.requests = rs := by
  rw [takeSideband_some (by simp [hr]) hh ho]
  refine (startCommand_requests _ _ _).trans ?_
  simp [modSb, takenSideband, hr]

/-! ### Quarantine -/

theorem exec_quarantineExpiry_of_quarantined {ty ix : Nat} {s : State} (h : (chanSlot ty ix s).quarantined = true) :
    exec (.quarantineExpiry ty ix) s = .next (setChan ty ix { chanSlot ty ix s with quarantined := false, quarEnd := 0 }
      (advanceToOut (chanSlot ty ix s).quarEnd s)) :=
  if_pos h

/-- Settles O60, register by register. -/
theorem hostWritesReadBack : Obligations.HostWritesReadBack := by
  unfold Obligations.HostWritesReadBack
  refine ⟨fun f s _ h => ⟨_, exec_mboxEnable_of_off h, ?_, fun o ho => ?_⟩, fun f s _ h => exec_mboxEnable_of_on h,
    fun f v s _ h => ⟨_, exec_mboxCmdPi_of_valid h, ?_⟩, fun f v s _ h => ⟨_, exec_mboxCmdPi_of_invalid h, ?_, ?_⟩,
    fun f v s _ h => ⟨_, exec_mboxRspCi_of_valid h, ?_⟩, fun f v s _ h => ⟨_, exec_mboxRspCi_of_invalid h, ?_, ?_⟩,
    fun f v s _ h => ⟨_, exec_mboxNtfCi_of_valid h, ?_⟩, fun f v s _ h => ⟨_, exec_mboxNtfCi_of_invalid h, ?_, ?_⟩,
    fun f o v s _ ho h => ?_, fun f o v s _ ho h => ?_, fun f o v s _ ho h => ?_, fun f o v s _ => exec_registerWrite_readOnly,
    fun f slot s hf hc => ⟨_, exec_commandTake_funcSource hf slot s, ?_⟩, fun slot s r rs hr hh ho => ⟨_, rfl, takeSideband_requests hr hh ho⟩,
    fun ty ix s hs hq => ⟨_, exec_quarantineExpiry_of_quarantined hq, ?_⟩⟩
  · rw [readRegister_mbox rfl (by decide), funcBox_setFunc]
    exact readMbox_ctrl true _
  · simp only [List.mem_cons, List.not_mem_nil, or_false] at ho
    rw [readRegister_mbox (by omega) (by omega), funcBox_setFunc]
    obtain rfl | rfl | rfl | rfl | rfl | rfl := ho <;> rfl
  · rw [readRegister_mbox rfl (by decide), funcBox_setFunc]
    rfl
  · rw [readRegister_mbox rfl (by decide), readRegister_mbox rfl (by decide), funcBox_setFunc]
    rfl
  · rw [readRegister_mbox rfl (by decide), funcBox_setFunc]
    exact readMbox_stat _ true _ _ 1 (by decide)
  · rw [readRegister_mbox rfl (by decide), funcBox_popCycle, funcBox_setFunc]
    rfl
  · rw [readRegister_mbox rfl (by decide), readRegister_mbox rfl (by decide), funcBox_setFunc]
    rfl
  · rw [readRegister_mbox rfl (by decide), funcBox_setFunc]
    exact readMbox_stat _ _ _ true 3 (by decide)
  · rw [readRegister_mbox rfl (by decide), funcBox_popCycle, funcBox_setFunc]
    rfl
  · rw [readRegister_mbox rfl (by decide), readRegister_mbox rfl (by decide), funcBox_setFunc]
    rfl
  · rw [readRegister_mbox rfl (by decide), funcBox_setFunc]
    exact readMbox_stat _ _ _ true 3 (by decide)
  · simp only [List.mem_cons, List.not_mem_nil, or_false] at ho
    have ho' : o ∈ [0x8, 0xC, 0x10, 0x14, 0x18, 0x1C] := by simp; omega
    exact ⟨_, exec_registerWrite_base ho' v s, by rw [readRegister_writeBase ho' h, if_pos (by omega)]⟩
  · simp only [List.mem_cons, List.not_mem_nil, or_false] at ho
    have ho' : o ∈ [0x8, 0xC, 0x10, 0x14, 0x18, 0x1C] := by simp; omega
    exact ⟨_, exec_registerWrite_base ho' v s, by rw [readRegister_writeBase ho' h, if_neg (by omega), wordOf_toNat]⟩
  · rw [exec_registerWrite_base ho, writeBase_of_on h]
  · rw [readRegister_mbox rfl (by decide)]
    exact congrArg wordOf (takeFunc_cmdCi hf slot hc)
  · rw [chanSlot_setChan_same (s := advanceToOut _ s) hs]
    exact ⟨rfl, rfl, rfl⟩

end Sys2Proof.Machine
end

section
/-! SUPPORT. BAR0 (R8, R10, R424, R454): which row of its own a register write acts as, and what it writes where it has none. -/

namespace Sys2Proof.Machine

/-- Writes to the doorbell pages act as their rows (R454). -/
theorem exec_registerWrite_doorbell {f n : Nat} (v : Word) (s : State) (hn : n < 256) {d : Nat} (hd : d < 0x400) (hd4 : d % 4 = 0) :
    exec (.registerWrite f (0x40000 + d + 0x400 * n) v) s = writeHq f (d + 0x400 * n) v s := by
  change execRegisterWrite f (0x40000 + d + 0x400 * n) v s = _
  rw [execRegisterWrite, if_neg (by omega), if_neg (by omega), if_neg (by omega), if_neg (by omega), if_neg (by omega), if_pos (by omega)]
  have hoff : 0x40000 + d + 0x400 * n - 0x40000 = d + 0x400 * n := by omega
  rw [hoff]

/-- The row and the page of a doorbell. -/
theorem doorbell_mod_div (n : Nat) {d : Nat} (hd : d < 0x400) : (d + 0x400 * n) % 0x400 = d ∧ (d + 0x400 * n) / 0x400 = n := by
  omega

theorem writeHq_zero (f n : Nat) (v : Word) (s : State) : writeHq f (0 + 0x400 * n) v s = exec (.hqTxPi f n v) s := by
  obtain ⟨hrow, hpage⟩ := doorbell_mod_div n (d := 0) (by decide)
  rw [writeHq, hrow, hpage]
  rfl

theorem writeHq_four (f n : Nat) (v : Word) (s : State) : writeHq f (4 + 0x400 * n) v s = exec (.hqRxPi f n v) s := by
  obtain ⟨hrow, hpage⟩ := doorbell_mod_div n (d := 4) (by decide)
  rw [writeHq, hrow, hpage]
  rfl

theorem writeHq_eight (f n : Nat) (v : Word) (s : State) : writeHq f (8 + 0x400 * n) v s = exec (.hqCqCi f n v) s := by
  obtain ⟨hrow, hpage⟩ := doorbell_mod_div n (d := 8) (by decide)
  rw [writeHq, hrow, hpage]
  rfl

theorem writeHq_other (f n : Nat) {d : Nat} (hd : d < 0x400) (h : 0xC ≤ d) (v : Word) (s : State) :
    writeHq f (d + 0x400 * n) v s = .next s := by
  obtain ⟨hrow, hpage⟩ := doorbell_mod_div n hd
  rw [writeHq, hrow, hpage]
  split
  · omega
  · omega
  · omega
  · rfl

theorem exec_registerWrite_vector {f o : Nat} {v : Word} {s : State} (h4 : o % 4 = 0) (hlo : 0x10000 ≤ o) (hhi : o < 0x11020) :
    exec (.registerWrite f o v) s = .next (writeVector f (o - 0x10000) v s) := by
  change execRegisterWrite f o v s = _
  rw [execRegisterWrite, if_neg (by omega), if_neg (by omega), if_pos (by omega)]

/-- A write to a base register while EN is 0 (R424). -/
theorem writeBase_of_off {f o : Nat} {v : Word} {s : State} (hlo : 0x8 ≤ o) (h4 : o % 4 = 0) (h : (funcBox f s).en = false) :
    writeBase f o v s =
      let b := funcBox f s
      let w := if o % 8 = 0 then v.toNat / 4096 * 4096 else v.toNat
      let g := fun n => setHalf (o % 8 == 4) n w
      setFunc f (if o < 0x10 then { b with cmdBase := g b.cmdBase } else if o < 0x18 then { b with rspBase := g b.rspBase }
        else { b with ntfBase := g b.ntfBase }) s := by
  have h1 : (o / 8 = 1) = (o < 0x10) := propext ⟨fun _ => by omega, fun _ => by omega⟩
  by_cases hc : o < 0x10
  · simp [writeBase, h, h1, hc]
  · have h2 : (o / 8 = 2) = (o < 0x18) := propext ⟨fun _ => by omega, fun _ => by omega⟩
    by_cases hr : o < 0x18
    · simp [writeBase, h, h1, h2, hc, hr]
    · simp [writeBase, h, h1, h2, hc, hr]

/-- What the registers of no row take of a write: nothing (R8, R10). -/
theorem exec_registerWrite_reserved {f o : Nat} (v : Word) (s : State)
    (ho : o % 4 ≠ 0 ∨ o = 0x4 ∨ o = 0x24 ∨ o = 0x28 ∨ o = 0x30 ∨ (0x3C ≤ o ∧ o < 0x10000) ∨ (0x11020 ≤ o ∧ o < 0x31000) ∨
      (0x31004 ≤ o ∧ o < 0x31028) ∨ (0x3102C ≤ o ∧ o < 0x40000) ∨ (0x40000 ≤ o ∧ o < 0x80000 ∧ 0xC ≤ o % 0x400) ∨ 0x80000 ≤ o) :
    exec (.registerWrite f o v) s = .next s := by
  by_cases h4 : o % 4 = 0
  · by_cases hlt : o < 0x10000
    · rw [exec_registerWrite_mbox h4 hlt (by simp; omega), if_neg (by omega)]
    · by_cases hpage : 0x40000 ≤ o ∧ o < 0x80000
      · obtain ⟨n, d, hn, hd, rfl⟩ : ∃ n d, n < 256 ∧ d < 0x400 ∧ o = 0x40000 + d + 0x400 * n :=
          ⟨(o - 0x40000) / 0x400, o % 0x400, by omega, by omega, by omega⟩
        rw [exec_registerWrite_doorbell v s hn hd (by omega), writeHq_other f n hd (by omega)]
      · change execRegisterWrite f o v s = _
        rw [execRegisterWrite, if_neg (not_not.mpr h4), if_neg hlt, if_neg (by omega), if_neg (by omega), if_neg (by omega), if_neg hpage]
  · exact if_pos h4

/-- Settles O34. An expiry whose end has not come lets the time up to it pass (assumption 28); the readings of assumptions 68, 71 and 105
are the model's. -/
theorem mailboxRegistersComplete : Obligations.MailboxRegistersComplete := by
  unfold Obligations.MailboxRegistersComplete
  refine ⟨fun f s => exec_mboxEnable_of_off, fun f s => exec_mboxEnable_of_on, fun f v s => exec_mboxCmdPi_of_valid,
    fun f v s => exec_mboxCmdPi_of_invalid, fun f v s => exec_mboxRspCi_of_valid, fun f v s => exec_mboxRspCi_of_invalid,
    fun f v s => exec_mboxNtfCi_of_valid, fun f v s => exec_mboxNtfCi_of_invalid, fun f v h s => if_pos h,
    fun f v h s => if_neg (Bool.eq_false_iff.mp h), fun f v s => rfl, fun f v s => rfl, fun f v s => rfl, fun f v h s => if_pos h,
    fun v h s => if_pos (by simpa using h), fun f v h => ⟨fun s => if_neg (Bool.eq_false_iff.mp h), fun s => if_neg (by simp [h])⟩,
    fun v s => rfl, fun f n v s hn => ?_, fun f o v s h => ?_, fun f o v s h => ?_, fun f v s => rfl,
    fun f o v h4 hlo hhi s => exec_registerWrite_vector h4 hlo hhi, fun f o v ho s => exec_registerWrite_reserved v s ho,
    fun ty ix s => exec_quarantineExpiry_of_quarantined, fun ty ix s h => if_neg (Bool.eq_false_iff.mp h)⟩
  · exact ⟨(exec_registerWrite_doorbell v s hn (d := 0) (by decide) rfl).trans (writeHq_zero f n v s),
      (exec_registerWrite_doorbell v s hn (d := 4) (by decide) rfl).trans (writeHq_four f n v s),
      (exec_registerWrite_doorbell v s hn (d := 8) (by decide) rfl).trans (writeHq_eight f n v s)⟩
  · obtain ⟨h4, hlo, hhi, hen⟩ := h
    rw [exec_registerWrite_mbox h4 (by omega) (by simp; omega), if_pos ⟨hlo, hhi⟩, writeBase_of_on hen]
    rfl
  · obtain ⟨h4, hlo, hhi, hen⟩ := h
    rw [exec_registerWrite_mbox h4 (by omega) (by simp; omega), if_pos ⟨hlo, hhi⟩, writeBase_of_off hlo h4 hen]

end Sys2Proof.Machine
end

section
/-! SUPPORT. Taking a command that is executed (R426, R447), and the rows of the rings and of the sideband (R429, R431, R441 to R444). -/

namespace Sys2Proof.Machine

/-- A defined opcode with a new tag becomes a task of its source's level. -/
theorem startCommand_task {src : Source} {header : Word} {os : List Outstanding} (s : State)
    (hd : isOutstanding (fieldOf header 16 5) os = false) (hop : opcodeDefined (fieldOf header 0 16) = true) :
    startCommand src header os s =
      (false, false, createTask (commandLevel src) (commandTask src (fieldOf header 16 5)) s) := by
  rw [isOutstanding] at hd
  simp [startCommand, hd, hop]

theorem takeFunc_task {src : Source} {f : Nat} {slot : List Word} {s : State} (hc : canTake f s)
    (hd : isOutstanding (fieldOf (wordAt slot 0) 16 5) (funcBox f s).outstanding = false)
    (hop : opcodeDefined (fieldOf (wordAt slot 0) 0 16) = true) :
    takeFunc src f slot s =
      modFunc f (fun b => { b with cntDup := satAdd 32 b.cntDup 0, cntBadOpcode := satAdd 32 b.cntBadOpcode 0 })
        (createTask (commandLevel src) (commandTask src (fieldOf (wordAt slot 0) 16 5)) (afterTake f (wordAt slot 0) s)) := by
  rw [takeFunc_canTake slot hc, startCommand_task _ hd hop]
  simp [bitNat]

theorem takeSideband_task {s : State} (hr : s.zordin.sb.requests ≠ []) (hh : s.zordin.sb.heldRsp = [])
    (ho : s.zordin.sb.outstanding.length < 4)
    (hd : isOutstanding (fieldOf (wordAt (s.zordin.sb.requests.headD []) 0) 16 5) s.zordin.sb.outstanding = false)
    (hop : opcodeDefined (fieldOf (wordAt (s.zordin.sb.requests.headD []) 0) 0 16) = true) :
    takeSideband s =
      modSb (fun b => { b with cntDup := satAdd 32 b.cntDup 0, cntBadOpcode := satAdd 32 b.cntBadOpcode 0 })
        (createTask 48 (commandTask .sideband (fieldOf (wordAt (s.zordin.sb.requests.headD []) 0) 16 5)) (modSb takenSideband s)) := by
  rw [takeSideband_some hr hh ho, startCommand_task _ hd hop]
  rfl

/-- A sideband with no request, with a response held or with four commands outstanding gives none (R443). -/
theorem takeSideband_none {s : State}
    (h : s.zordin.sb.requests = [] ∨ s.zordin.sb.heldRsp ≠ [] ∨ 4 ≤ s.zordin.sb.outstanding.length) : takeSideband s = s := by
  unfold takeSideband
  cases hr : s.zordin.sb.requests with
  | nil => simp only [hr]
  | cons r rs =>
    simp only [hr, List.cons_ne_nil, false_or] at h
    simp only [hr]
    exact if_pos (by simpa using h)

/-- Settles O36. That the row carries out no command body is assumption 26, and what counts as one cycle is assumption 71. -/
theorem takingACommandCompletes : Obligations.TakingACommandCompletes := by
  unfold Obligations.TakingACommandCompletes
  refine ⟨fun f slot hf s h => ?_, fun f slot hf s h => ?_, fun slot s h => ?_, fun slot s h => ?_⟩
  · obtain ⟨hc, hd, hop⟩ := h
    rw [exec_commandTake_funcSource hf, takeFunc_task hc hd hop]
  · rw [exec_commandTake_funcSource hf, takeFunc_of_not_canTake slot h]
    rfl
  · obtain ⟨hr, hh, ho, hd, hop⟩ := h
    rw [exec_commandTake_sideband, takeSideband_task hr hh ho hd hop]
  · rw [exec_commandTake_sideband, takeSideband_none h]
    rfl

/-! ### Held entries -/

/-- RESPONSE_WRITE of a function writes its oldest held response once a slot is free. -/
theorem exec_responseWrite_func {f : Nat} (hf : f < 2) {s : State} {r : Response} {rs : List Response} (hheld : (funcBox f s).heldRsp = r :: rs)
    (hhalt : (funcBox f s).halted = false) (hen : (funcBox f s).en = true)
    (hfree : ringFree 64 (funcBox f s).rspPi (funcBox f s).rspCi ≠ 0) :
    exec (.responseWrite (funcSource f)) s = .next (writeResponse f r (setFunc f { funcBox f s with heldRsp := rs } s)) := by
  obtain rfl | rfl : f = 0 ∨ f = 1 := by omega
  · change execResponseWrite .pf0 s = _
    simp [execResponseWrite, sourceCode, hheld, hhalt, hen, hfree]
  · change execResponseWrite .pf1 s = _
    simp [execResponseWrite, sourceCode, hheld, hhalt, hen, hfree]

theorem exec_responseWrite_func_nil {f : Nat} (hf : f < 2) {s : State} (hheld : (funcBox f s).heldRsp = []) :
    exec (.responseWrite (funcSource f)) s = .next s := by
  obtain rfl | rfl : f = 0 ∨ f = 1 := by omega
  · change execResponseWrite .pf0 s = _
    simp [execResponseWrite, sourceCode, hheld]
  · change execResponseWrite .pf1 s = _
    simp [execResponseWrite, sourceCode, hheld]

theorem exec_responseWrite_sideband {s : State} {r : Response} {rs : List Response} (hheld : s.zordin.sb.heldRsp = r :: rs)
    (hfree : s.zordin.sb.responses.length < 8) :
    exec (.responseWrite .sideband) s = .next (modSb (fun b => { b with
      heldRsp := rs, responses := b.responses ++ [(sidebandSlot r s).1], outstanding := settle r b.outstanding }) (sidebandSlot r s).2) := by
  change execResponseWrite .sideband s = _
  simp [execResponseWrite, hheld, Nat.not_le.mpr hfree]

/-- NOTIFICATION_WRITE writes the oldest held notice before any event record (R432). -/
theorem exec_notificationWrite_notice {f : Nat} {s : State} {n : Notice} {ns : List Notice} (hen : (funcBox f s).en = true)
    (hhalt : (funcBox f s).halted = false) (hn : (funcBox f s).notices = n :: ns)
    (hfree : ringFree 256 (funcBox f s).ntfPi (funcBox f s).ntfCi ≠ 0) :
    exec (.notificationWrite f) s =
      .next (writeNotification f (fun p => noticeWords p s.pins.slotId n) (setFunc f { funcBox f s with notices := ns } s)) := by
  change execNotificationWrite f s = _
  simp [execNotificationWrite, hen, hhalt, hn, hfree]

@[simp] theorem popCycle_pins (n depth : Nat) (m : Option (Nat × Nat)) (s : State) : (popCycle n depth m s).pins = s.pins := by
  unfold popCycle; split <;> rfl

theorem exec_notificationWrite_event {f : Nat} {s : State} {r : EventRecord} {rs : List EventRecord} (hen : (funcBox f s).en = true)
    (hhalt : (funcBox f s).halted = false) (hn : (funcBox f s).notices = []) (he : (funcBox f s).events = r :: rs)
    (hfree : ringFree 256 (funcBox f s).ntfPi (funcBox f s).ntfCi ≠ 0) :
    exec (.notificationWrite f) s = .next (modClass f r.sev (fun k => { k with delivered := satAdd 32 k.delivered 1 })
      (writeNotification f (fun p => recordWords p s.pins.slotId r)
        (setFunc f { funcBox f s with events := rs } (popCycle 1 (rs.length + 1) (funcBox f s).evtNew s)))) := by
  change execNotificationWrite f s = _
  simp [execNotificationWrite, hen, hhalt, hn, he, hfree]

theorem exec_notificationWrite_lost {f : Nat} {s : State} {r : EventRecord} {rs : List EventRecord} (hen : (funcBox f s).en = true)
    (hhalt : (funcBox f s).halted = false) (hn : (funcBox f s).notices = []) (he : (funcBox f s).events = r :: rs)
    (hfull : ringFree 256 (funcBox f s).ntfPi (funcBox f s).ntfCi = 0) :
    exec (.notificationWrite f) s = .next (loseRecord f r.sev
      (setFunc f { funcBox f s with events := rs } (popCycle 1 (rs.length + 1) (funcBox f s).evtNew s))) := by
  change execNotificationWrite f s = _
  simp [execNotificationWrite, hen, hhalt, hn, he, hfull]

/-! ### The sideband -/

/-- A write with the right PEC and 1 to 128 data bytes is a fragment of a request (R441, R442). -/
theorem exec_sbReq_first {h : Byte} {data : List Byte} {s : State} (hix : h.toNat % 4 = 0) (h1 : 1 ≤ data.length) (h128 : data.length ≤ 128) :
    exec (.sbReq (some (writePec 0x20 (h :: data) s)) (h :: data)) s = .next (joinFragment 0 (h.getLsbD 7) data s) := by
  change execSbReq (some (writePec 0x20 (h :: data) s)) (h :: data) s = _
  have hne : data ≠ [] := List.ne_nil_of_length_pos h1
  simp [execSbReq, hne, Nat.not_lt.mpr h128, hix]

theorem exec_sbReq_next {h : Byte} {data bs : List Byte} {s : State} (hix : h.toNat % 4 ≠ 0) (h1 : 1 ≤ data.length)
    (h128 : data.length ≤ 128) (hp : s.zordin.sb.partialReq = some (h.toNat % 4, bs)) :
    exec (.sbReq (some (writePec 0x20 (h :: data) s)) (h :: data)) s =
      .next (joinFragment (h.toNat % 4) (h.getLsbD 7) (bs ++ data) s) := by
  change execSbReq (some (writePec 0x20 (h :: data) s)) (h :: data) s = _
  have hne : data ≠ [] := List.ne_nil_of_length_pos h1
  simp [execSbReq, hne, Nat.not_lt.mpr h128, hix, hp]

theorem exec_sbReq_rejected {pec : Option Byte} {bytes : List Byte} {s : State}
    (h : pec ≠ some (writePec 0x20 bytes s) ∨ bytes.length < 2 ∨ 129 < bytes.length) :
    exec (.sbReq pec bytes) s = .next (modSb (fun b => { b with rejected := true }) s) := by
  change execSbReq pec bytes s = _
  cases bytes with
  | nil => rfl
  | cons b data =>
    refine if_pos ?_
    simp only [Bool.or_eq_true, decide_eq_true_eq, List.isEmpty_iff_length_eq_zero]
    obtain h | h | h := h
    · exact .inr h
    · exact .inl (.inl (by simpa using h))
    · exact .inl (.inr (Nat.lt_of_succ_lt_succ h))

theorem exec_sbRsp_nil {s : State} (h : s.zordin.sb.responses = []) : exec .sbRsp s = .next (returnBytes 0x21 true [0xFF] s) := by
  change execSbRsp s = _
  simp [execSbRsp, h]

theorem exec_sbRsp_last {s : State} {r : List Byte} {rs : List (List Byte)} (h : s.zordin.sb.responses = r :: rs)
    (hl : r.length ≤ 128 * (s.zordin.sb.rspFragment + 1)) :
    exec .sbRsp s = .next (modSb (fun b => { b with responses := rs, rspFragment := 0 })
      (returnBytes 0x21 true (BitVec.ofNat 8 (128 + s.zordin.sb.rspFragment) :: (r.drop (128 * s.zordin.sb.rspFragment)).take 128) s)) := by
  change execSbRsp s = _
  simp [execSbRsp, h, hl, bitNat]

theorem exec_sbRsp_more {s : State} {r : List Byte} {rs : List (List Byte)} (h : s.zordin.sb.responses = r :: rs)
    (hl : 128 * (s.zordin.sb.rspFragment + 1) < r.length) :
    exec .sbRsp s = .next (modSb (fun b => { b with rspFragment := s.zordin.sb.rspFragment + 1 })
      (returnBytes 0x21 true (BitVec.ofNat 8 s.zordin.sb.rspFragment :: (r.drop (128 * s.zordin.sb.rspFragment)).take 128) s)) := by
  change execSbRsp s = _
  simp [execSbRsp, h, Nat.not_le.mpr hl, bitNat]

theorem exec_sbNtf_nil {s : State} (h : s.zordin.sb.ntfs = []) : exec .sbNtf s = .next (returnBytes 0x23 true [0xFF] s) := by
  change execSbNtf s = _
  simp [execSbNtf, h]

theorem exec_sbNtf_cons {s : State} {e : List Word} {es : List (List Word)} (h : s.zordin.sb.ntfs = e :: es) :
    exec .sbNtf s = .next (modSb (fun b => { b with ntfs := es }) (returnBytes 0x23 true (bytesOfWords e) s)) := by
  change execSbNtf s = _
  simp [execSbNtf, h]

/-- Settles O41. The sideband's phase bit is assumption 4; assumptions 71 and 95 are the model's. -/
theorem sidebandAndRingEventsComplete : Obligations.SidebandAndRingEventsComplete := by
  unfold Obligations.SidebandAndRingEventsComplete
  exact ⟨fun f r rs hf s ⟨hheld, hhalt, hen, hfree⟩ => exec_responseWrite_func hf hheld hhalt hen hfree,
    fun f hf s hheld => exec_responseWrite_func_nil hf hheld,
    fun r rs s ⟨hheld, hfree⟩ => exec_responseWrite_sideband hheld hfree,
    fun f n ns s ⟨hen, hhalt, hn, hfree⟩ => exec_notificationWrite_notice hen hhalt hn hfree,
    fun f r rs s ⟨hen, hhalt, hn, he, hfree⟩ => exec_notificationWrite_event hen hhalt hn he hfree,
    fun f r rs s ⟨hen, hhalt, hn, he, hfull⟩ => exec_notificationWrite_lost hen hhalt hn he hfull,
    fun h data hix h1 h128 s => exec_sbReq_first hix h1 h128,
    fun h data bs hix h1 h128 s hp => exec_sbReq_next hix h1 h128 hp,
    fun pec bytes s h => exec_sbReq_rejected h,
    fun s h => exec_sbRsp_nil h,
    fun r rs s ⟨h, hl⟩ => exec_sbRsp_last h hl,
    fun r rs s ⟨h, hl⟩ => exec_sbRsp_more h hl,
    fun s => rfl,
    fun s h => exec_sbNtf_nil h,
    fun e es s h => exec_sbNtf_cons h,
    fun tick s => rfl⟩

end Sys2Proof.Machine
end

section

/-! SUPPORT. What goes on: a result is a next state. The shared shells of the commands and events, and the commands whose branches are
their own. -/

namespace Sys2Proof.Machine

/-- A result is a next state: neither a fault nor a refusal. -/
def GoesOn (r : Result) : Prop := ∃ t, r = .next t

theorem goesOn_next (s : State) : GoesOn (.next s) := ⟨s, rfl⟩

theorem goesOn_ite {c : Prop} [Decidable c] {a b : Result} (ha : GoesOn a) (hb : GoesOn b) : GoesOn (if c then a else b) := by
  split <;> assumption

/-! ### The shells that many commands share -/

theorem runCommand_goesOn (able : Bool) (src : Source) (tag : Nat) (req : List Word) (rule : CommandRule) (body : State → Reply × State)
    (s : State) : GoesOn (runCommand able src tag req rule body s) := by
  unfold runCommand
  split
  · exact goesOn_next _
  · split
    split <;> exact goesOn_next _

theorem command_goesOn (src : Source) (tag : Nat) (req : List Word) (rule : CommandRule) (body : State → Reply × State) (s : State) :
    GoesOn (command src tag req rule body s) := runCommand_goesOn ..

theorem handleMsg_goesOn (modes : List Nat) (m : StageMsg) (s : State) (k : State → State) : GoesOn (handleMsg modes m s k) :=
  goesOn_ite (goesOn_next _) (goesOn_next _)

theorem resizeMsg_goesOn (m : StageMsg) (s : State) (k : Nat → Nat → State → State) : GoesOn (resizeMsg m s k) :=
  handleMsg_goesOn ..

theorem selectorTimer_goesOn (phase : SelPhase) (w : Nat) (s : State) : GoesOn (selectorTimer phase w s) := by
  unfold selectorTimer
  split
  · exact goesOn_next _
  · split
    · exact goesOn_next _
    · exact goesOn_ite (goesOn_next _) (goesOn_next _)

theorem atDeadline_goesOn (timer : State → Option Nat) (s : State) (k : State → State) : GoesOn (atDeadline timer s k) := by
  unfold atDeadline
  split
  · exact goesOn_next _
  · exact goesOn_ite (goesOn_next _) (goesOn_next _)

theorem afterSlot_goesOn (limit : State → Option Nat) (s : State) (k : State → State) : GoesOn (afterSlot limit s k) := by
  unfold afterSlot
  split
  · exact goesOn_next _
  · exact goesOn_ite (goesOn_next _) (goesOn_next _)

theorem handleRecord_goesOn (kind fromTn recId : Nat) (s : State) : GoesOn (handleRecord kind fromTn recId s) := by
  unfold handleRecord
  split
  · exact goesOn_next _
  · exact goesOn_ite (goesOn_next _) (goesOn_ite (goesOn_next _) (goesOn_next _))

/-! ### The commands whose branches are their own -/

theorem execFwVerifyDone_goesOn (signatureOk : Bool) (s : State) : GoesOn (execFwVerifyDone signatureOk s) := by
  unfold execFwVerifyDone
  refine goesOn_ite (goesOn_next _) ?_
  extract_lets
  split <;> exact goesOn_next _

theorem execResponseWrite_goesOn (src : Source) (s : State) : GoesOn (execResponseWrite src s) := by
  unfold execResponseWrite
  split
  · split
    · exact goesOn_next _
    · exact goesOn_ite (goesOn_next _) (goesOn_next _)
  · extract_lets
    split
    · exact goesOn_next _
    · exact goesOn_ite (goesOn_next _) (goesOn_next _)

theorem execNotificationWrite_goesOn (func : Nat) (s : State) : GoesOn (execNotificationWrite func s) := by
  unfold execNotificationWrite
  extract_lets
  refine goesOn_ite (goesOn_next _) ?_
  split
  · exact goesOn_ite (goesOn_next _) (goesOn_next _)
  · split
    · exact goesOn_next _
    · exact goesOn_ite (goesOn_next _) (goesOn_next _)

theorem execSbReq_goesOn (pec : Option Byte) (bytes : List Byte) (s : State) : GoesOn (execSbReq pec bytes s) := by
  unfold execSbReq
  split
  · exact goesOn_next _
  · refine goesOn_ite (goesOn_next _) (goesOn_ite (goesOn_next _) ?_)
    split
    · exact goesOn_ite (goesOn_next _) (goesOn_next _)
    · exact goesOn_next _

theorem execStrapSample_goesOn (reads : List (Nat × Bool)) (s : State) : GoesOn (execStrapSample reads s) := by
  unfold execStrapSample
  extract_lets
  split
  · exact goesOn_next _
  · split <;> exact goesOn_next _

theorem execUartCharacter_goesOn (samples : List Bool) (s : State) : GoesOn (execUartCharacter samples s) := by
  unfold execUartCharacter
  refine goesOn_ite (goesOn_next _) (goesOn_ite (goesOn_next _) ?_)
  exact goesOn_ite (goesOn_next _) (goesOn_ite (goesOn_next _) (goesOn_next _))

theorem execPowerTransitionDone_goesOn (s : State) : GoesOn (execPowerTransitionDone s) := by
  unfold execPowerTransitionDone
  split
  · exact goesOn_next _
  · refine goesOn_ite (goesOn_ite (goesOn_next _) (goesOn_ite (goesOn_next _) (goesOn_next _))) ?_
    exact goesOn_ite (goesOn_next _) (goesOn_next _)

theorem execHbmRetired_goesOn (stack : Nat) (s : State) : GoesOn (execHbmRetired stack s) := by
  unfold execHbmRetired
  exact goesOn_ite (goesOn_next _) (goesOn_next _)

theorem execHbmTraining_goesOn (stack : Nat) (trained : Bool) (s : State) : GoesOn (execHbmTraining stack trained s) := by
  unfold execHbmTraining
  exact goesOn_ite (goesOn_next _) (goesOn_ite (goesOn_next _) (execHbmRetired_goesOn ..))

theorem execRootDisplace_goesOn (s : State) : GoesOn (execRootDisplace s) := by
  unfold execRootDisplace
  split
  · exact goesOn_ite (goesOn_next _) (goesOn_next _)
  · exact goesOn_next _

theorem execCueFrame_goesOn (slot cycle : Nat) (lanes : List CueSlot) (s : State) : GoesOn (execCueFrame slot cycle lanes s) := by
  unfold execCueFrame
  exact goesOn_ite (goesOn_next _) (goesOn_next _)

theorem execPlaneActivation_goesOn (plane : Nat) (s : State) : GoesOn (execPlaneActivation plane s) := by
  unfold execPlaneActivation
  split
  · exact goesOn_ite (goesOn_next _) (goesOn_next _)
  · exact goesOn_next _

theorem execFineCorrectApply_goesOn (plane : Nat) (s : State) : GoesOn (execFineCorrectApply plane s) := by
  unfold execFineCorrectApply
  split
  · exact goesOn_next _
  · exact goesOn_next _

theorem execSequenceResume_goesOn (slot : Nat) (s : State) : GoesOn (execSequenceResume slot s) := by
  unfold execSequenceResume
  refine goesOn_ite (goesOn_next _) ?_
  extract_lets
  split <;> exact goesOn_next _

theorem execKeyRollInterval_goesOn (key : Nat) (s : State) : GoesOn (execKeyRollInterval key s) := by
  unfold execKeyRollInterval
  split
  · exact goesOn_next _
  · refine goesOn_ite (goesOn_next _) (goesOn_ite (goesOn_next _) ?_)
    extract_lets
    split
    · exact goesOn_next _
    · exact goesOn_ite (goesOn_next _) (goesOn_next _)

theorem execTuneSequence_goesOn (x : Nat) (lockerMHz : Int) (guardHigh powerLow : Bool) (holdMv holdMa : Int) (s : State) :
    GoesOn (execTuneSequence x lockerMHz guardHigh powerLow holdMv holdMa s) := by
  unfold execTuneSequence
  refine goesOn_ite (goesOn_next _) ?_
  extract_lets
  split <;> exact goesOn_next _

theorem execDriftSupervision_goesOn (plane : Nat) (s : State) : GoesOn (execDriftSupervision plane s) := by
  unfold execDriftSupervision
  exact goesOn_ite (goesOn_next _) (goesOn_ite (goesOn_next _) (goesOn_ite (goesOn_next _) (goesOn_next _)))

theorem execTagCheck_goesOn (s : State) : GoesOn (execTagCheck s) := by
  unfold execTagCheck
  split <;> exact goesOn_next _

theorem execAfHoldExpiry_goesOn (group : Nat) (s : State) : GoesOn (execAfHoldExpiry group s) := by
  unfold execAfHoldExpiry
  split
  · exact goesOn_next _
  · extract_lets
    split <;> exact goesOn_next _

theorem execRateControl_goesOn (trib : Bool) (index slot : Nat) (lanes : List ClientFeed) (s : State) :
    GoesOn (execRateControl trib index slot lanes s) := by
  unfold execRateControl
  exact goesOn_ite (goesOn_next _) (goesOn_ite (goesOn_next _) (goesOn_next _))

theorem execResizeDone_goesOn (group : Nat) (s : State) : GoesOn (execResizeDone group s) := by
  unfold execResizeDone
  extract_lets
  split
  · exact goesOn_ite (goesOn_next _) (goesOn_next _)
  · exact goesOn_next _

theorem execClientFrame_goesOn (port : Nat) (data : List Byte) (back : Nat) (s : State) : GoesOn (execClientFrame port data back s) := by
  unfold execClientFrame
  refine goesOn_ite (goesOn_next _) ?_
  split
  · exact goesOn_next _
  · exact goesOn_ite (goesOn_next _) (goesOn_next _)

theorem execEgressFrameStart_goesOn (port : Nat) (s : State) : GoesOn (execEgressFrameStart port s) := by
  unfold execEgressFrameStart
  refine goesOn_ite (goesOn_next _) ?_
  split
  · exact goesOn_next _
  · split <;> exact goesOn_next _

theorem execLarderAlloc_goesOn (pool owner : Nat) (s : State) : GoesOn (execLarderAlloc pool owner s) := by
  unfold execLarderAlloc
  exact goesOn_next _

theorem execHeldFreeResume_goesOn (pool : Nat) (s : State) : GoesOn (execHeldFreeResume pool s) := by
  unfold execHeldFreeResume
  split
  · exact goesOn_next _
  · split <;> exact goesOn_next _

theorem execCoalesceWindowClose_goesOn (source code : Nat) (detail : Word) (s : State) :
    GoesOn (execCoalesceWindowClose source code detail s) := by
  unfold execCoalesceWindowClose
  split
  · exact goesOn_next _
  · refine goesOn_ite (goesOn_next _) ?_
    extract_lets
    split <;> exact goesOn_next _

theorem execTileRetrain_goesOn (tile : Nat) (trained : Bool) (s : State) : GoesOn (execTileRetrain tile trained s) := by
  unfold execTileRetrain
  exact goesOn_ite (goesOn_next _) (goesOn_ite (goesOn_next _) (goesOn_ite (goesOn_next _) (goesOn_next _)))

theorem execSenseOutput_goesOn (bits : List Bool) (leads : Nat) (overload : Bool) (s : State) :
    GoesOn (execSenseOutput bits leads overload s) := by
  unfold execSenseOutput
  exact goesOn_ite (goesOn_next _) (goesOn_next _)

/-- A register write is ignored or is one of the writes to MBOX, the MSI-X table, TIME or the doorbells, and each of them goes on. -/
theorem writeMbox_goesOn (func offset : Nat) (value : Word) (s : State) : GoesOn (writeMbox func offset value s) := by
  unfold writeMbox
  split
  · exact goesOn_ite (goesOn_ite (goesOn_next _) (goesOn_next _)) (goesOn_next _)
  case h_5 => exact goesOn_next _
  case h_6 => exact goesOn_next _
  all_goals exact goesOn_ite (goesOn_next _) (goesOn_next _)

theorem writeHq_goesOn (func offset : Nat) (value : Word) (s : State) : GoesOn (writeHq func offset value s) := by
  unfold writeHq
  split
  case h_4 => exact goesOn_next _
  all_goals exact goesOn_ite (goesOn_next _) (goesOn_ite (goesOn_next _) (goesOn_next _))

theorem execRegisterWrite_goesOn (func offset : Nat) (value : Word) (s : State) : GoesOn (execRegisterWrite func offset value s) := by
  unfold execRegisterWrite
  refine goesOn_ite (goesOn_next _) (goesOn_ite (writeMbox_goesOn ..) (goesOn_ite (goesOn_next _) ?_))
  refine goesOn_ite (goesOn_ite (goesOn_next _) (goesOn_next _)) (goesOn_ite (goesOn_ite (goesOn_next _) (goesOn_next _)) ?_)
  exact goesOn_ite (writeHq_goesOn ..) (goesOn_next _)

/-- Every command goes on, shell by shell. -/
theorem exec_goesOn (i : Instr) (s : State) : GoesOn (exec i s) := by
  cases i
  all_goals unfold exec
  case echo | handleInfo | handleList | schedStatus | funcStatus | joinConfig | joinStart | joinStatus | asymSet | planeHold |
      joinLeave | ownershipStatus | joinCounters | grantView | standingRead | reportConfig | grantCounters | txStatus | txService |
      txCounters | tuneTableRead | txConfig | trimReset | rxLaneStatus | rxCounters | rxSenderStats | rxMembership | rxLedgerTap |
      rxCueCounters | groupCreate | groupDestroy | groupStatus | groupResize | pairCreate | pairDestroy | protectRequest |
      groupCounters | lanePlacementRead | tribGroupCreate | tribCreate | tribDestroy | wingsWrite | pageRead | wingsCopy | pageSwap
      | portConfig | portStatus | portCounters | graphCreate | nodeWrite | rulesetCreate | ruleWrite | rulesetParam |
      classifyActivate | classifyDestroy | fibInsert | fibDelete | fibRead | indirectionWrite | slowPathConfig | classifyCounters |
      flowBindCreate | flowBindDestroy | flowBindStatus | voqConfig | voqStatus | meterCreate | meterDestroy | shaperAttach |
      egressConfig | mcastCreate | mcastPorts | mcastDestroy | poolCreate | poolDestroy | poolStatus | bufAlloc | bufFree |
      queueCounters | peerKeyCreate | peerKeyDestroy | peerKeyStatus | keyRoll | keyPolicy | seqStatus | identityRead |
      entropyStatus | gateStatus | secCounters | timeConfig | timeStatus | timeRead | tsPortCreate | tsPortDestroy | ptmConfig |
      ptmRead | ppsInRead | qpCreate | qpDestroy | qpStart | qpStop | qpStatus | qpSched | slowpathMap | watchSet | qpCounters |
      evtConfig | alarmRead | alarmSummary | evtCounters | blackboxRead | blackboxClear | evtTest | senseConfig | senseLatest |
      sensorCreate | sensorDestroy | senseRead | coefWrite | coefRead | coefSwap | shStatus | senseCounters | powerState |
      powerStatus | padRelease | gateRequest | thermalStatus | thermalConfig | storeConfig | storeStatus | powerCounters | identity
      =>
    exact command_goesOn ..
  case reset | fwWrite | fwVerify | fwActivate | fwCommit | arbRaise | fwStatus =>
    dsimp only [execReset, execFwWrite, execFwVerify, execFwActivate, execFwCommit, execArbRaise, execFwStatus, fwCommand]
    exact runCommand_goesOn ..
  case mboxDisable | timeCapture | tsqOvfClear | almStateRead | sbStatus | warmReset | watchdogReset | brownOutReset | flr |
      crefLoss | crefReturn | vinGood | vinFail | pwrfailN | auxLoss | islandWake | coreWait | imageChoice | strongroomVerify |
      entropyFail | selectionWindow | selectionClose | launch | recalibration | trimCheckpoint | pedestalSettled | laserHeaterFault
      | demuxSettled | burstReceive | payloadDecode | ledgerLanding | containerEval | epochDrain | tsqPush | larderFree |
      larderShare | servoUpdate | resetNRelease | delayListDue | uartBreakEnd | tileDegradedClear | demuxSettledAgain |
      laserHeaterFaultClear =>
    exact goesOn_next _
  case mboxEnable | mboxCmdPi | mboxRspCi | mboxNtfCi | smbusAddressMatch | firewallAccess | fwRuleWrite | debugAuthorisation |
      powerOnReset | resetN | perstN | ppsOutPulse | islandWait | zordinRunning | syncLock | rootTransferDone | rootHoldover |
      planeHoldApply | freeze | drbgReseed | pedestalUnsettled | demuxUnsettled | tableLoad | sdBlockClose | resizePrepared |
      trainingComplete | linkUp | linkDown | remoteFault | larderRefill | larderSpill | hbmRetired | hbmPurgeDone | evtLost |
      tileLinkLost | tileDegraded | quarantineExpiry | ptmDialog | rcPeriodCapture | junctionHigh | thermalStop | chargeStart |
      capacitanceMeasure | gaugeReanchor | gaugeSkew | lossOfAux | railUp | chargeComplete | chargeTimeout | junctionHighClear |
      gaugeSkewClear =>
    exact goesOn_ite (goesOn_next _) (goesOn_next _)
  case hqTxPi | hqRxPi | hqCqCi | ppsInEdge | entropyRetest | eventRaise =>
    exact goesOn_ite (goesOn_next _) (goesOn_ite (goesOn_next _) (goesOn_next _))
  case discoveryOpen | discoveryAck | tnAssign | reject | rangeWindow | rangeResult | activate | fineCorrect | deregister |
      keySeg =>
    exact handleMsg_goesOn ..
  case resizePrepare | resizeCommit | resizeCancel =>
    exact resizeMsg_goesOn ..
  case tCue | joinNoWindow | tId | registrationLost | rejectHoldoff | tLeave | tRwin | tAct | tSkew | tSusp =>
    exact atDeadline_goesOn ..
  case discoveryTimeout | rangingTimeout =>
    exact afterSlot_goesOn ..
  case offer | answer | hubAnswer | groupKey =>
    exact handleRecord_goesOn ..
  case holdOffExpiry | wtrExpiry =>
    exact selectorTimer_goesOn ..
  case dmaError | timeTsqHiRead | sbNtf | firewallDrain | gateRelease | ppsOutFall | islandTimerWake | syncRefAbsent |
      keyRecordTimeout | keyEpochErase | withdrawnReoffer | reconcilerEntry | tPrep | tCommit | resizeSwitchover | pageSwapped |
      tTrain | laneLos | poolStall | txDescriptor | slowPathDelivery | blackboxWrite | ptmResponse | ptmFail | coolantCondition |
      curtainStop | powerStateTimeout | commandTake | wakeN =>
    simp only [execDmaError, execTimeTsqHiRead, execSbNtf, execFirewallDrain, execGateRelease, execPpsOutFall,
        execIslandTimerWake, execSyncRefAbsent, execKeyRecordTimeout, execKeyEpochErase, execWithdrawnReoffer, execReconcilerEntry,
        execTPrep, execTCommit, execResizeSwitchover, execPageSwapped, execTTrain, execLaneLos, execPoolStall, execTxDescriptor,
        execSlowPathDelivery, execBlackboxWrite, execPtmResponse, execPtmFail, execCoolantCondition, execCurtainStop,
        execPowerStateTimeout, execCommandTake, execWakeN]
    split <;> exact goesOn_next _
  case sbRsp | corePowerOff | powerDeferred | seqRecordCommit | tAns | tileLaserCut | parse | cqResume | msixHoldoffEnd |
      senseFallback | curtainStart =>
    simp only [execSbRsp, execCorePowerOff, execPowerDeferred, execSeqRecordCommit, execTAns, execTileLaserCut, execParse,
        execCqResume, execMsixHoldoffEnd, execSenseFallback, execCurtainStart]
    split
    · exact goesOn_next _
    · exact goesOn_ite (goesOn_next _) (goesOn_next _)
  case fwVerifyDone => exact execFwVerifyDone_goesOn ..
  case responseWrite => exact execResponseWrite_goesOn ..
  case notificationWrite => exact execNotificationWrite_goesOn ..
  case registerWrite => exact execRegisterWrite_goesOn ..
  case sbReq => exact execSbReq_goesOn ..
  case strapSample => exact execStrapSample_goesOn ..
  case uartCharacter => exact execUartCharacter_goesOn ..
  case powerTransitionDone => exact execPowerTransitionDone_goesOn ..
  case hbmTraining => exact execHbmTraining_goesOn ..
  case rootDisplace => exact execRootDisplace_goesOn ..
  case cueFrame => exact execCueFrame_goesOn ..
  case planeActivation => exact execPlaneActivation_goesOn ..
  case fineCorrectApply => exact execFineCorrectApply_goesOn ..
  case sequenceResume => exact execSequenceResume_goesOn ..
  case keyRollInterval => exact execKeyRollInterval_goesOn ..
  case tuneSequence => exact execTuneSequence_goesOn ..
  case driftSupervision => exact execDriftSupervision_goesOn ..
  case tagCheck => exact execTagCheck_goesOn ..
  case afHoldExpiry => exact execAfHoldExpiry_goesOn ..
  case rateControl => exact execRateControl_goesOn ..
  case resizeDone => exact execResizeDone_goesOn ..
  case clientFrame => exact execClientFrame_goesOn ..
  case egressFrameStart => exact execEgressFrameStart_goesOn ..
  case larderAlloc => exact execLarderAlloc_goesOn ..
  case heldFreeResume => exact execHeldFreeResume_goesOn ..
  case coalesceWindowClose => exact execCoalesceWindowClose_goesOn ..
  case tileRetrain => exact execTileRetrain_goesOn ..
  case senseOutput => exact execSenseOutput_goesOn ..
end Sys2Proof.Machine

open Sys2Proof Sys2Proof.Machine

/-- Settles O26: every command ends in a next state. -/
theorem everyCommandGoesOn : Obligations.EveryCommandGoesOn := by
  unfold Obligations.EveryCommandGoesOn
  exact exec_goesOn

end

section

/-! SUPPORT. When a mailbox command ends with OK: its checks pass, and its own rule answers OK. -/

namespace Sys2Proof.Machine

/-! ### The checks that commands share -/

/-- Who reads may clear: PF0 always, the others without the clear bit. -/
theorem readOrPf0_of_clearByPf0 {k i : Nat} {src : Source} {req : List Word} {s : State} (h : clearByPf0 k i src req s) :
    readOrPf0 src (bitOf (wordAt req k) i) = true := by
  rcases h with h | h <;> simp [readOrPf0, h]

/-- What is PF0's alone PF0 may issue. -/
theorem pf0Only_of {src : Source} (h : src = .pf0) : pf0Only src = true := by simp [pf0Only, h]

/-- A type with a free index gives its new one. -/
theorem nextIndex_of_hasIndex {t : ChanType} {s : State} (h : hasIndex t s) : nextIndex t s = some (newIndex t s) :=
  (Option.some_get h).symm.trans (congrArg some (Option.get_eq_getD ..))

end Sys2Proof.Machine

open Sys2Proof Sys2Proof.Machine

/-- Settles O1: every clause's checks pass, and the command's own rule answers the words. -/
theorem generalCommandsComplete : Obligations.GeneralCommandsComplete := by
  unfold Obligations.GeneralCommandsComplete
  refine ⟨?_, ?_, ?_, ?_, ?_, ?_, ?_⟩
  · intro src tag req s hr hw _
    change execIdentity src tag req s = _
    exact command_done hr hw rfl rfl
  · intro src tag req s hr hw _
    change execEcho src tag req s = _
    exact command_done hr hw rfl rfl
  · intro src tag req s hr hw hix
    change execHandleInfo src tag req s = _
    exact command_done hr hw rfl (if_neg (Nat.not_le.mpr hix))
  · intro src tag req s hr hw ⟨hix, hlo, hhi⟩
    change execHandleList src tag req s = _
    exact command_done hr hw rfl (if_neg (by simp; omega))
  · intro src tag req s hr hw hc
    change execSchedStatus src tag req s = _
    exact command_done hr hw (readOrPf0_of_clearByPf0 hc) rfl
  · intro src tag req s hr hw ⟨hc, hf⟩
    change execFuncStatus src tag req s = _
    exact command_done hr hw (readOrPf0_of_clearByPf0 hc) ((if_neg (by omega)).trans (if_neg (by omega)))
  · intro src tag req s hr hw ⟨hc, hf⟩
    change execFuncStatus src tag req s = _
    exact command_done hr hw (readOrPf0_of_clearByPf0 hc) ((if_neg (by omega)).trans (if_pos hf))

/-- Settles O2: the phases and fields named let each command pass its own checks. -/
theorem joinCommandsComplete : Obligations.JoinCommandsComplete := by
  unfold Obligations.JoinCommandsComplete
  refine ⟨?_, ?_, ?_, ?_, ?_, ?_, ?_, ?_, ?_, ?_⟩
  · intro src tag req s hr hw ⟨hsrc, hphase⟩
    change execJoinConfig src tag req s = _
    exact command_done hr hw (pf0Only_of hsrc) (if_neg (not_not_intro hphase))
  · intro src tag req s hr hw ⟨hsrc, hidle, hphase⟩
    change execJoinStart src tag req s = _
    refine command_accepted hr hw (pf0Only_of hsrc) ((if_neg ?_).trans ((if_neg (by simp [hidle])).trans (if_neg ?_)))
    · rcases hphase with h | h <;> simp [h]
    · rcases hphase with h | h <;> simp [h]
  · intro src tag req s hr hw ⟨hsrc, hidle, hphase, hreason⟩
    change execJoinStart src tag req s = _
    refine command_accepted hr hw (pf0Only_of hsrc) ((if_neg ?_).trans ((if_neg (by simp [hidle])).trans (if_pos ?_)))
    · simp [hphase]
    · simp [hphase, hreason]
  · intro src tag req s hr hw _
    change execJoinStatus src tag req s = _
    exact command_done hr hw rfl rfl
  · intro src tag req s hr hw ⟨hsrc, hplane, hsign⟩
    change execAsymSet src tag req s = _
    exact command_done hr hw (pf0Only_of hsrc) (if_neg (not_or.mpr ⟨Nat.not_lt.mpr hplane, not_not_intro hsign⟩))
  · intro src tag req s hr hw ⟨hsrc, hmask⟩
    change execPlaneHold src tag req s = _
    exact command_done hr hw (pf0Only_of hsrc) (if_neg hmask)
  · intro src tag req s hr hw ⟨hsrc, hphase⟩
    change execJoinLeave src tag req s = _
    exact command_accepted hr hw (pf0Only_of hsrc) (if_neg hphase)
  · intro src tag req s hr hw _
    change execOwnershipStatus src tag req s = _
    exact command_done hr hw rfl rfl
  · intro src tag req s hr hw ⟨hc, hset⟩
    change execJoinCounters src tag req s = _
    exact command_done hr hw (readOrPf0_of_clearByPf0 hc) ((if_neg (by omega)).trans (if_neg (by omega)))
  · intro src tag req s hr hw ⟨hc, hset⟩
    change execJoinCounters src tag req s = _
    exact command_done hr hw (readOrPf0_of_clearByPf0 hc) ((if_neg (by omega)).trans (if_pos hset))

/-- Settles O3: the view's slot is neither past nor beyond the last sheet. -/
theorem grantCommandsComplete : Obligations.GrantCommandsComplete := by
  unfold Obligations.GrantCommandsComplete
  refine ⟨?_, ?_, ?_, ?_⟩
  · intro src tag req s hr hw ⟨hpast, t, ht, hlast⟩
    change execGrantView src tag req s = _
    refine command_done hr hw rfl ((if_neg (Nat.not_lt.mpr hpast)).trans ?_)
    rw [ht]
    exact if_neg (Nat.not_lt.mpr hlast)
  · intro src tag req s hr hw ⟨hlo, hhi⟩
    change execStandingRead src tag req s = _
    exact command_done hr hw rfl (if_neg (by omega))
  · intro src tag req s hr hw ⟨hsrc, hn⟩
    change execReportConfig src tag req s = _
    exact command_done hr hw (pf0Only_of hsrc) (if_neg (Nat.not_lt.mpr hn))
  · intro src tag req s hr hw hc
    change execGrantCounters src tag req s = _
    exact command_done hr hw (readOrPf0_of_clearByPf0 hc) rfl

/-- Settles O4: a service that changes the state is one that the transmitter's next state allows. -/
theorem transmitCommandsComplete : Obligations.TransmitCommandsComplete := by
  unfold Obligations.TransmitCommandsComplete
  refine ⟨?_, ?_, ?_, ?_, ?_, ?_, ?_, ?_⟩
  · intro src tag req s hr hw ⟨hlo, hhi, hend⟩
    change execTxStatus src tag req s = _
    exact command_done hr hw rfl (if_neg (by simp; omega))
  · intro src tag req s hr hw ⟨hsrc, hout, hoff, hfailed, hnew⟩
    change execTxService src tag req s = _
    refine command_done hr hw (pf0Only_of hsrc) ((if_neg (by simp [hout])).trans ?_)
    simp [serviceOut, hoff, hfailed, hnew, awaitChange, okay]
  · intro src tag req s hr hw ⟨hsrc, hin, hphase⟩
    change execTxService src tag req s = _
    refine command_done hr hw (pf0Only_of hsrc) ((if_pos hin).trans ?_)
    rcases hphase with ⟨h, h' | h'⟩ | ⟨h, h'⟩ <;> simp [serviceIn, h, h', awaitChange, okay]
  · intro src tag req s hr hw ⟨hsrc, hphase⟩
    change execTxService src tag req s = _
    refine command_done hr hw (pf0Only_of hsrc) ?_
    rcases hphase with ⟨hout, h, h'⟩ | ⟨hin, h, h'⟩
    · exact (if_neg (by simp [hout])).trans (by simp [serviceOut, h, h', okay])
    · exact (if_pos hin).trans (by simp [serviceIn, h, h', okay])
  · intro src tag req s hr hw hc
    change execTxCounters src tag req s = _
    exact command_done hr hw (readOrPf0_of_clearByPf0 hc) rfl
  · intro src tag req s hr hw ⟨hfirst, hlo, hhi, hend, hon⟩
    change execTuneTableRead src tag req s = _
    exact command_done hr hw rfl ((if_neg (by simp; omega)).trans (if_neg (by simp [hon])))
  · intro src tag req s hr hw ⟨hsrc, hj⟩
    change execTxConfig src tag req s = _
    exact command_done hr hw (pf0Only_of hsrc) (if_neg (by simp [hj]))
  · intro src tag req s hr hw hsrc
    change execTrimReset src tag req s = _
    exact command_done hr hw (pf0Only_of hsrc) rfl

/-- Settles O5: the counts and ranges lie within the lanes, and a tap's slot is neither past nor too far ahead. -/
theorem receiveCommandsComplete : Obligations.ReceiveCommandsComplete := by
  unfold Obligations.ReceiveCommandsComplete
  refine ⟨?_, ?_, ?_, ?_, ?_, ?_, ?_⟩
  · intro src tag req s hr hw ⟨hlo, hhi, hend⟩
    change execRxLaneStatus src tag req s = _
    exact command_done hr hw rfl (if_neg (by simp; omega))
  · intro src tag req s hr hw ⟨hc, hlane⟩
    change execRxCounters src tag req s = _
    exact command_done hr hw (readOrPf0_of_clearByPf0 hc) (if_neg (Nat.not_lt.mpr hlane))
  · intro src tag req s hr hw ⟨hc, htn⟩
    change execRxSenderStats src tag req s = _
    exact command_done hr hw (readOrPf0_of_clearByPf0 hc) (if_neg (Nat.not_lt.mpr htn))
  · intro src tag req s hr hw ⟨hsrc, hop⟩
    change execRxMembership src tag req s = _
    refine command_done hr hw (by simp [hsrc]) ((if_neg (by omega)).trans ?_)
    have hop : ¬ fieldOf (wordAt req 0) 16 2 = 2 := by omega
    simp [hop, okay]
  · intro src tag req s hr hw hop
    change execRxMembership src tag req s = _
    refine command_done hr hw (by simp [hop]) ((if_neg (by omega)).trans ?_)
    simp [hop, okay]
  · intro src tag req s hr hw ⟨hlo, hhi, hend, hpast, hfar, htap⟩
    change execRxLedgerTap src tag req s = _
    refine command_accepted hr hw rfl ((if_neg (by simp; omega)).trans ((if_neg ?_).trans ((if_neg ?_).trans (if_neg ?_))))
    · simp; omega
    · omega
    · simp [htap]
  · intro src tag req s hr hw hc
    change execRxCueCounters src tag req s = _
    exact command_done hr hw (readOrPf0_of_clearByPf0 hc) rfl

/-- Settles O6: the handles name the groups, and the groups' states let each command go on. -/
theorem expressCommandsComplete : Obligations.ExpressCommandsComplete := by
  unfold Obligations.ExpressCommandsComplete
  refine ⟨?_, ?_, ?_, ?_, ?_, ?_, ?_, ?_, ?_, ?_⟩
  · intro src tag req s hr hw ⟨hsrc, hargs, hnum, hport, hcirc, hfree, hmem, hix⟩
    change execGroupCreate src tag req s = _
    refine command_done hr hw (pf0Only_of hsrc) ((if_neg (by simp [hargs])).trans ((if_neg ?_).trans
      ((if_neg (Nat.not_lt.mpr hmem)).trans ?_)))
    · simp only [hnum, hport, hcirc, Bool.and_self, Bool.not_true, Bool.or_false, Bool.false_or, List.any_eq_true, not_exists]
      intro i ⟨hi, hsame⟩
      have := hfree i hi
      simp_all
    · rw [nextIndex_of_hasIndex hix]
      rfl
  · intro src tag req s hr hw ⟨hsrc, hv, hpair⟩
    change execGroupDestroy src tag req s = _
    exact command_done hr hw (pf0Only_of hsrc) ((withHandle_ok hv).trans (if_neg (by simp [hpair])))
  · intro src tag req s hr hw ⟨hc, hv⟩
    change execGroupStatus src tag req s = _
    exact command_done hr hw (readOrPf0_of_clearByPf0 hc) (withHandle_ok hv)
  · intro src tag req s hr hw ⟨hsrc, hv, hm, htrib, hidle, hmap⟩
    change execGroupResize src tag req s = _
    refine command_accepted hr hw (pf0Only_of hsrc) ((withHandle_ok hv).trans ((if_neg ?_).trans
      ((if_neg (by simp [htrib])).trans (if_neg (not_not_intro hidle)))))
    cases hrm : bitOf (wordAt req 1) 0 <;> simp_all
  · intro src tag req s hr hw ⟨hsrc, hv, hv', ha, hb, hho, hlo, hhi, hpa, hpb, htn, hport, htype⟩
    change execPairCreate src tag req s = _
    refine command_done hr hw (pf0Only_of hsrc) ((withHandle_ok hv).trans ((withHandle_ok hv').trans ((if_neg ?_).trans (if_neg ?_))))
    · simp only [ha, hb]
      omega
    · simp [hpa, hpb, htn, hport, htype]
  · intro src tag req s hr hw ⟨hsrc, hv, hpair⟩
    change execPairDestroy src tag req s = _
    refine command_done hr hw (pf0Only_of hsrc) ((withHandle_ok hv).trans ?_)
    obtain ⟨p, hp⟩ := Option.isSome_iff_exists.mp hpair
    simp [hp, okay]
  · intro src tag req s hr hw ⟨hsrc, hv, hpair, hop⟩
    change execProtectRequest src tag req s = _
    refine command_done hr hw (by simp [hsrc]) ((withHandle_ok hv).trans ?_)
    obtain ⟨p, hp⟩ := Option.isSome_iff_exists.mp hpair
    have h7 : ¬ fieldOf (wordAt req 1) 0 3 = 7 := by omega
    have h56 : ¬ (fieldOf (wordAt req 1) 0 3 = 5 ∨ fieldOf (wordAt req 1) 0 3 = 6) := by omega
    simp only [hp, if_neg h56, if_neg h7]
    rfl
  · intro src tag req s hr hw ⟨hv, hpair, hop⟩
    change execProtectRequest src tag req s = _
    refine command_done hr hw (by simp [hop]) ((withHandle_ok hv).trans ?_)
    obtain ⟨p, hp⟩ := Option.isSome_iff_exists.mp hpair
    simp [hp, hop, okay]
  · intro src tag req s hr hw ⟨hc, hv⟩
    change execGroupCounters src tag req s = _
    exact command_done hr hw (readOrPf0_of_clearByPf0 hc) (withHandle_ok hv)
  · intro src tag req s hr hw _
    change execLanePlacementRead src tag req s = _
    exact command_done hr hw rfl rfl

/-- Settles O7: the pages and tributaries are in the state that each command asks for. -/
theorem tributaryCommandsComplete : Obligations.TributaryCommandsComplete := by
  unfold Obligations.TributaryCommandsComplete
  refine ⟨?_, ?_, ?_, ?_, ?_, ?_, ?_, ?_⟩
  · intro src tag req s hr hw ⟨hsrc, htn, hzero, hmap, hpn, hnum, hmem, hix⟩
    change execTribGroupCreate src tag req s = _
    refine command_done hr hw (pf0Only_of hsrc) ((if_neg ?_).trans ((if_neg (by simp [hnum])).trans
      ((if_neg (Nat.not_lt.mpr hmem)).trans ?_)))
    · simpa [hzero, hmap, htn] using hpn
    · rw [nextIndex_of_hasIndex hix]
      rfl
  · intro src tag req s hr hw ⟨hsrc, hix, hlane⟩
    change execTribCreate src tag req s = _
    refine command_done hr hw (pf0Only_of hsrc) ((if_neg ?_).trans ?_)
    · cases hcl : bitOf (wordAt req 0) 8 <;> simp_all
    · rw [nextIndex_of_hasIndex hix]
      rfl
  · intro src tag req s hr hw ⟨hsrc, hv, hunused⟩
    change execTribDestroy src tag req s = _
    exact command_done hr hw (pf0Only_of hsrc) ((withHandle_ok hv).trans (if_neg (by simp only [hunused]; exact Bool.false_ne_true)))
  · intro src tag req s hr hw ⟨hsrc, hok, hswap, hconf⟩
    change execWingsWrite src tag req s = _
    refine command_done hr hw (pf0Only_of hsrc) ((if_neg ?_).trans ((if_neg ?_).trans (if_neg ?_)))
    · simp only [hok]
      decide
    · exact Bool.not_eq_true _ ▸ hconf
    · simp [hswap]
  · intro src tag req s hr hw ⟨hlo, hhi, hend⟩
    change execPageRead src tag req s = _
    exact command_done hr hw rfl (if_neg (by simp; omega))
  · intro src tag req s hr hw ⟨hsrc, hswap⟩
    change execWingsCopy src tag req s = _
    exact command_done hr hw (pf0Only_of hsrc) (if_neg (by simp [hswap]))
  · intro src tag req s hr hw ⟨hsrc, hop, hnew, hswap⟩
    change execPageSwap src tag req s = _
    exact command_done hr hw (pf0Only_of hsrc) ((if_neg (by simp [hop])).trans ((if_neg (Nat.not_le.mpr hnew)).trans
      (if_neg (by simp [hswap]))))
  · intro src tag req s hr hw ⟨hsrc, hop, n, hn, hcut⟩
    change execPageSwap src tag req s = _
    refine command_done hr hw (pf0Only_of hsrc) ((if_pos hop).trans ?_)
    simp only [hn]
    exact if_pos hcut

end

section

/-! SUPPORT. Which state and which arguments let the commands of the ports, the classifier, the queues and the Larder end with OK. -/

namespace Sys2Proof.Machine

@[simp] theorem sealRuleSet_clock (i : Option Nat) (s : State) : (sealRuleSet i s).clock = s.clock := by
  unfold sealRuleSet setRuleSet
  split
  · rfl
  · dsimp only
    split <;> rfl

@[simp] theorem sealGraph_clock (i : Option Nat) (s : State) : (sealGraph i s).clock = s.clock := by
  cases i <;> rfl

end Sys2Proof.Machine

open Sys2Proof Sys2Proof.Machine

/-- Settles O8: the ports, graphs and rule sets are in the state that each command asks for. -/
theorem portCommandsComplete : Obligations.PortCommandsComplete := by
  unfold Obligations.PortCommandsComplete
  refine ⟨?_, ?_, ?_, ?_, ?_, ?_, ?_, ?_, ?_, ?_, ?_, ?_⟩
  · intro src tag req s hr hw ⟨hsrc, hok, hoff, hon, hlane⟩
    change execPortConfig src tag req s = _
    exact command_done hr hw (pf0Only_of hsrc) ((if_neg (by simp [hok])).trans ((if_pos hoff).trans ((if_neg hon).trans
      (if_neg (by simp [hlane])))))
  · intro src tag req s hr hw ⟨hsrc, hok, hon, hoff, hfree⟩
    change execPortConfig src tag req s = _
    exact command_done hr hw (pf0Only_of hsrc) ((if_neg (by simp [hok])).trans ((if_neg hon).trans ((if_pos hoff).trans
      (if_neg (not_not_intro hfree)))))
  · intro src tag req s hr hw ⟨hsrc, hok, hon, htype, hcirc, hiface⟩
    change execPortConfig src tag req s = _
    exact command_done hr hw (pf0Only_of hsrc) ((if_neg (by simp [hok])).trans ((if_neg hon).trans ((if_neg (by rw [htype]; exact hon)).trans
      (if_neg (by simp [htype, hcirc, hiface])))))
  · intro src tag req s hr hw hon
    change execPortStatus src tag req s = _
    exact command_done hr hw rfl (if_neg (by simp [hon]))
  · intro src tag req s hr hw ⟨hc, hon⟩
    change execPortCounters src tag req s = _
    exact command_done hr hw (readOrPf0_of_clearByPf0 hc) (if_neg (by simp [hon]))
  · intro src tag req s hr hw ⟨hsrc, hix⟩
    change execGraphCreate src tag req s = _
    refine command_done hr hw (pf0Only_of hsrc) ?_
    rw [nextIndex_of_hasIndex hix]
    rfl
  · intro src tag req s hr hw ⟨hsrc, hv, hfits, hopen⟩
    change execNodeWrite src tag req s = _
    exact command_done hr hw (pf0Only_of hsrc) ((withHandle_ok hv).trans ((if_neg (by simp [hfits])).trans (if_neg (by simp [hopen]))))
  · intro src tag req s hr hw ⟨hsrc, hix⟩
    change execRulesetCreate src tag req s = _
    refine command_done hr hw (pf0Only_of hsrc) ?_
    rw [nextIndex_of_hasIndex hix]
    rfl
  · intro src tag req s hr hw ⟨hsrc, hv, hrec, hpol, hopen⟩
    change execRuleWrite src tag req s = _
    exact command_done hr hw (pf0Only_of hsrc) ((withHandle_ok hv).trans ((if_neg (by simp [hrec, hpol])).trans
      (if_neg (by simp [hopen]))))
  · intro src tag req s hr hw ⟨hsrc, hv, hwords, hok, hopen, hmeter⟩
    change execRulesetParam src tag req s = _
    refine command_done hr hwords (pf0Only_of hsrc) ((withHandle_ok hv).trans ?_)
    have hpolicer : ∃ m, (if fieldOf (wordAt req 1) 0 2 = 0 then handleOrNull .meter (wordAt req 3) s else .ok none) = .ok m := by
      split
      case isTrue h => exact hmeter h
      case isFalse => exact ⟨none, rfl⟩
    obtain ⟨m, hm⟩ := hpolicer
    rw [hm]
    exact (if_neg (by simp [hok])).trans (if_neg (by simp [hopen]))
  · intro src tag req s hr hw ⟨hsrc, htype, hv, hactive, holder⟩
    change execClassifyDestroy src tag req s = _
    exact command_done hr hw (pf0Only_of hsrc) ((if_pos htype).trans ((withHandle_ok hv).trans ((if_neg hactive).trans (if_neg holder))))
  · intro src tag req s hr hw ⟨hsrc, htype, hv, hactive, holder⟩
    change execClassifyDestroy src tag req s = _
    exact command_done hr hw (pf0Only_of hsrc) ((if_neg htype).trans ((withHandle_ok hv).trans ((if_neg hactive).trans (if_neg holder))))

/-- Settles O9: the table's key, its placement and the handles decide the branch of each command. -/
theorem classifierCommandsComplete : Obligations.ClassifierCommandsComplete := by
  unfold Obligations.ClassifierCommandsComplete
  refine ⟨?_, ?_, ?_, ?_, ?_, ?_, ?_, ?_, ?_, ?_, ?_⟩
  · intro src tag req s g r hr hw hsrc hg hrule hnodes holder
    change execClassifyActivate src tag req s = _
    refine command_done hr hw (pf0Only_of hsrc) ?_
    simp only [hg, hrule]
    refine (if_neg (by simpa [Option.isSome_iff_ne_none] using hnodes)).trans ((if_neg (by simp [holder])).trans ?_)
    rw [sealGraph_clock, sealRuleSet_clock]
    rfl
  · intro src tag req s k b x hr hw hsrc hk hdest hold
    change execFibInsert src tag req s = _
    refine command_done hr hw (pf0Only_of hsrc) ?_
    simp only [hk]
    refine (if_neg (fun ⟨h, h'⟩ => absurd h' (Nat.not_lt.mpr (hdest h)))).trans ?_
    simp only [hold]
    rfl
  · intro src tag req s k b hr hw hsrc hk hdest hnew hroom hplace
    change execFibInsert src tag req s = _
    refine command_done hr hw (pf0Only_of hsrc) ?_
    simp only [hk]
    refine (if_neg (fun ⟨h, h'⟩ => absurd h' (Nat.not_lt.mpr (hdest h)))).trans ?_
    simp only [hnew]
    refine (if_neg (Nat.not_le.mpr hroom)).trans ?_
    split
    · next b' u hu =>
      rw [hu] at hplace
      obtain rfl := Option.some.inj hplace
      rw [hu]
      rfl
    · next u hu =>
      rw [hu] at hplace
      nomatch hplace
  · intro src tag req s k hr hw hsrc hk
    change execFibDelete src tag req s = _
    refine command_done hr hw (pf0Only_of hsrc) ?_
    simp only [hk]
    split <;> simp_all [okay]
  · intro src tag req s hr hw _
    change execFibRead src tag req s = _
    exact command_done hr hw rfl rfl
  · intro src tag req s hr hw ⟨hsrc, ht, hlo, hend, hwords⟩
    change execIndirectionWrite src tag req s = _
    exact command_done hr hwords (pf0Only_of hsrc) (if_neg (by omega))
  · intro src tag req s hr hw ⟨hsrc, hrate, hlo, hhi⟩
    change execSlowPathConfig src tag req s = _
    exact command_done hr hw (pf0Only_of hsrc) (if_neg (by omega))
  · intro src tag req s hr hw hc
    change execClassifyCounters src tag req s = _
    exact command_done hr hw (readOrPf0_of_clearByPf0 hc) rfl
  · intro src tag req s hr hw ⟨hsrc, ht, hnew, hix⟩
    change execFlowBindCreate src tag req s = _
    refine command_done hr hw (pf0Only_of hsrc) ((if_neg (Nat.not_lt.mpr ht)).trans ((if_neg (by simp [hnew])).trans ?_))
    rw [nextIndex_of_hasIndex hix]
    rfl
  · intro src tag req s hr hw ⟨hsrc, hv⟩
    change execFlowBindDestroy src tag req s = _
    exact command_done hr hw (pf0Only_of hsrc) (withHandle_ok hv)
  · intro src tag req s hr hw ⟨hc, hv⟩
    change execFlowBindStatus src tag req s = _
    exact command_done hr hw (readOrPf0_of_clearByPf0 hc) (withHandle_ok hv)

/-- Settles O10: the fields lie in their ranges, and the meters and classes are in the state that each command asks for. -/
theorem queueCommandsComplete : Obligations.QueueCommandsComplete := by
  unfold Obligations.QueueCommandsComplete
  refine ⟨?_, ?_, ?_, ?_, ?_, ?_, ?_, ?_, ?_, ?_, ?_, ?_, ?_, ?_, ?_⟩
  · intro src tag req s hr hw ⟨hsrc, hd, hq, hlimit⟩
    change execVoqConfig src tag req s = _
    refine command_done hr hw (pf0Only_of hsrc) (if_neg ?_)
    simp only [not_or, Nat.not_lt]
    exact ⟨hd, by omega, hlimit⟩
  · intro src tag req s hr hw hd
    change execVoqStatus src tag req s = _
    exact command_done hr hw rfl (if_neg (Nat.not_lt.mpr hd))
  · intro src tag req s hr hw ⟨hsrc, hrates, hmax, hcbs, hpbs, hmap, hoff, hix⟩
    change execMeterCreate src tag req s = _
    refine command_done hr hw (pf0Only_of hsrc) ((if_neg ?_).trans ?_)
    · simp only [hmap]
      simp
      omega
    · rw [nextIndex_of_hasIndex hix]
      rfl
  · intro src tag req s hr hw ⟨hsrc, hv, htarget, hnamed⟩
    change execMeterDestroy src tag req s = _
    exact command_done hr hw (pf0Only_of hsrc) ((withHandle_ok hv).trans (if_neg (by simp [htarget, hnamed])))
  · intro src tag req s hr hw ⟨hsrc, hv, hshaper, hd, hop, hfree, hnone⟩
    change execShaperAttach src tag req s = _
    refine command_done hr hw (pf0Only_of hsrc) ((withHandle_ok hv).trans ((if_neg ?_).trans ((if_neg (by simp [hop])).trans (if_neg ?_))))
    · simpa [hshaper] using hd
    · simp [hfree, hnone]
  · intro src tag req s hr hw ⟨hsrc, hv, hshaper, hd, hop, hown⟩
    change execShaperAttach src tag req s = _
    refine command_done hr hw (pf0Only_of hsrc) ((withHandle_ok hv).trans ((if_neg ?_).trans ((if_pos hop).trans
      (if_neg (not_not_intro hown)))))
    simpa [hshaper] using hd
  · intro src tag req s hr hw hread
    change execEgressConfig src tag req s = _
    exact command_done hr hw (by simp [hread]) (if_pos hread)
  · intro src tag req s hr hw ⟨hsrc, hwrite, hcap, hsum⟩
    change execEgressConfig src tag req s = _
    exact command_done hr hw (by simp [hsrc]) ((if_neg (by simp [hwrite])).trans (if_neg (by omega)))
  · intro src tag req s hr hw ⟨hsrc, hnew, hix⟩
    change execMcastCreate src tag req s = _
    refine command_done hr hw (pf0Only_of hsrc) ((if_neg (by simp [hnew])).trans ?_)
    rw [nextIndex_of_hasIndex hix]
    rfl
  · intro src tag req s hr hw ⟨hsrc, hv⟩
    change execMcastPorts src tag req s = _
    exact command_done hr hw (pf0Only_of hsrc) (withHandle_ok hv)
  · intro src tag req s hr hw ⟨hsrc, hv⟩
    change execMcastDestroy src tag req s = _
    exact command_done hr hw (pf0Only_of hsrc) (withHandle_ok hv)
  · intro src tag req s hr hw ⟨hc, hkind, hd⟩
    change execQueueCounters src tag req s = _
    refine command_done hr hw (readOrPf0_of_clearByPf0 hc) ?_
    simp only [hkind]
    exact if_neg (Nat.not_lt.mpr hd)
  · intro src tag req s hr hw ⟨hc, hkind, hv⟩
    change execQueueCounters src tag req s = _
    refine command_done hr hw (readOrPf0_of_clearByPf0 hc) ?_
    simp only [hkind]
    exact withHandle_ok hv
  · intro src tag req s hr hw ⟨hc, hkind, hv⟩
    change execQueueCounters src tag req s = _
    refine command_done hr hw (readOrPf0_of_clearByPf0 hc) ?_
    simp only [hkind]
    exact withHandle_ok hv
  · intro src tag req s hr hw ⟨hc, hkind⟩
    change execQueueCounters src tag req s = _
    refine command_done hr hw (readOrPf0_of_clearByPf0 hc) ?_
    simp only [hkind]
    rfl

/-- Settles O11: a pool's region and tokens, and who holds a token, let each command go on. -/
theorem larderCommandsComplete : Obligations.LarderCommandsComplete := by
  unfold Obligations.LarderCommandsComplete
  refine ⟨?_, ?_, ?_, ?_, ?_⟩
  · intro src tag req s hr hw ⟨hsrc, hsize, hlo, hhi, hregion, hstack, hix⟩
    change execPoolCreate src tag req s = _
    refine command_done hr hw (pf0Only_of hsrc) ((if_neg (by omega)).trans ((if_neg ?_).trans ?_))
    · simpa [Nat.not_lt.mpr hregion] using hstack
    · rw [nextIndex_of_hasIndex hix]
      rfl
  · intro src tag req s hr hw ⟨hsrc, hv, hown, hfree⟩
    change execPoolDestroy src tag req s = _
    refine command_done hr hw (pf0Only_of hsrc) ((withHandle_ok hv).trans ((if_neg (Nat.not_lt.mpr hown)).trans (if_neg ?_)))
    rcases hfree with h | h <;> simp [h]
  · intro src tag req s hr hw hv
    change execPoolStatus src tag req s = _
    exact command_done hr hw rfl (withHandle_ok hv)
  · intro src tag req s hr hw ⟨hsrc, hv, hown, t, ht⟩
    change execBufAlloc src tag req s = _
    refine command_done hr hw (pf0Only_of hsrc) ((withHandle_ok hv).trans ((if_neg (Nat.not_lt.mpr hown)).trans ?_))
    split
    · next u hu => simp_all
    · next t' u hu => simp_all [okay]
  · intro src tag req s hr hw ⟨hsrc, hv, hown, hzero, hpool, hix, htotal, hheld⟩
    change execBufFree src tag req s = _
    refine command_done hr hw (pf0Only_of hsrc) ((withHandle_ok hv).trans ((if_neg (Nat.not_lt.mpr hown)).trans (if_neg ?_)))
    simp [hzero, hpool, hix, htotal, hheld]
end

section

/-! SUPPORT. Who owns a queue pair may start and stop it. -/

namespace Sys2Proof.Machine

theorem ownsPair_of {src : Source} {req : List Word} {s : State} (hv : valid0 .queuePair req s) (h : ownPair src req s) :
    ownsPair src (wordAt req 0) s = true := by
  unfold valid0 at hv
  rcases h with h | ⟨h, hf⟩
  · simp [ownsPair, h]
  · simp [ownsPair, h, hv, hf]

end Sys2Proof.Machine

open Sys2Proof Sys2Proof.Machine

/-- Settles O12: the association, the hub's key and the entropy source let each command go on. -/
theorem securityCommandsComplete : Obligations.SecurityCommandsComplete := by
  unfold Obligations.SecurityCommandsComplete
  refine ⟨?_, ?_, ?_, ?_, ?_, ?_, ?_, ?_, ?_, ?_⟩
  · intro src tag req s hr hw ⟨hsrc, hpeer, hother, htn, hkey, hent, hnew, hix⟩
    change execPeerKeyCreate src tag req s = _
    refine command_accepted hr hw (pf0Only_of hsrc) ((if_neg (not_or.mpr ⟨Nat.not_lt.mpr hpeer, hother⟩)).trans ((if_neg ?_).trans
      ((if_neg (by simp [hnew])).trans ?_)))
    · simp [Option.isSome_iff_ne_none.mp htn, hkey, hent]
    · rw [nextIndex_of_hasIndex hix]
  · intro src tag req s hr hw ⟨hsrc, hv⟩
    change execPeerKeyDestroy src tag req s = _
    exact command_done hr hw (pf0Only_of hsrc) (withHandle_ok hv)
  · intro src tag req s i hr hw hi
    change execPeerKeyStatus src tag req s = _
    refine command_done hr hw rfl ?_
    simp only [hi]
    rfl
  · intro src tag req s i hr hw hsrc hi hself hidle hstandby
    change execKeyRoll src tag req s = _
    refine command_accepted hr hw (pf0Only_of hsrc) ?_
    simp only [hi]
    refine (if_neg ?_).trans (if_neg (by simp [hidle, hstandby]))
    rintro ⟨h64, h⟩
    obtain ⟨htn, hkey⟩ := hself h64
    simp [Option.isSome_iff_ne_none.mp htn, hkey] at h
  · intro src tag req s hr hw ⟨hsrc, hlo, hhi, hrlo, hrhi, hlt⟩
    change execKeyPolicy src tag req s = _
    exact command_done hr hw (pf0Only_of hsrc) (if_neg (by omega))
  · intro src tag req s hr hw _
    change execSeqStatus src tag req s = _
    exact command_done hr hw rfl rfl
  · intro src tag req s hr hw _
    change execIdentityRead src tag req s = _
    exact command_done hr hw rfl rfl
  · intro src tag req s hr hw _
    change execEntropyStatus src tag req s = _
    exact command_done hr hw rfl rfl
  · intro src tag req s hr hw _
    change execGateStatus src tag req s = _
    exact command_done hr hw rfl rfl
  · intro src tag req s hr hw hc
    change execSecCounters src tag req s = _
    exact command_done hr hw (readOrPf0_of_clearByPf0 hc) rfl

/-- Settles O13: the configuration, the port and the values that a read needs are there. -/
theorem timeCommandsComplete : Obligations.TimeCommandsComplete := by
  unfold Obligations.TimeCommandsComplete
  refine ⟨?_, ?_, ?_, ?_, ?_, ?_, ?_, ?_⟩
  · intro src tag req s hr hw ⟨hsrc, hok⟩
    change execTimeConfig src tag req s = _
    exact command_done hr hw (pf0Only_of hsrc) (if_neg (by simp [hok]))
  · intro src tag req s hr hw hc
    change execTimeStatus src tag req s = _
    exact command_done hr hw (readOrPf0_of_clearByPf0 hc) rfl
  · intro src tag req s hr hw _
    change execTimeRead src tag req s = _
    exact command_done hr hw rfl rfl
  · intro src tag req s hr hw ⟨hsrc, hon, hpacket, hnew, hix⟩
    change execTsPortCreate src tag req s = _
    refine command_done hr hw (pf0Only_of hsrc) ((if_neg hon).trans ((if_neg ?_).trans ?_))
    · simp only [hnew, Bool.or_false]
      exact Bool.not_eq_true _ ▸ hpacket
    · rw [nextIndex_of_hasIndex hix]
      rfl
  · intro src tag req s hr hw ⟨hsrc, hv⟩
    change execTsPortDestroy src tag req s = _
    exact command_done hr hw (pf0Only_of hsrc) (withHandle_ok hv)
  · intro src tag req s hr hw ⟨hsrc, hn⟩
    change execPtmConfig src tag req s = _
    exact command_done hr hw (pf0Only_of hsrc) (if_neg (Nat.not_lt.mpr hn))
  · intro src tag req s hr hw hvalid
    change execPtmRead src tag req s = _
    exact command_done hr hw rfl (if_neg (by simp [hvalid]))
  · intro src tag req s hr hw hedge
    change execPpsInRead src tag req s = _
    refine command_done hr hw rfl ?_
    obtain ⟨t, ht⟩ := Option.isSome_iff_exists.mp hedge
    simp only [ht]
    rfl

/-- Settles O14: the pair's owner, its state and its held completions decide the branch of each command. -/
theorem hostQueueCommandsComplete : Obligations.HostQueueCommandsComplete := by
  unfold Obligations.HostQueueCommandsComplete
  refine ⟨?_, ?_, ?_, ?_, ?_, ?_, ?_, ?_, ?_, ?_, ?_⟩
  · intro src tag req s hr hw ⟨hsrc, hfits, hpf1, hhalted, hix⟩
    change execQpCreate src tag req s = _
    refine command_done hr hw (pf0Only_of hsrc) ((if_neg (by simp [hfits])).trans ((if_neg ?_).trans ?_))
    · simpa [hhalted] using hpf1
    · rw [nextIndex_of_hasIndex hix]
      rfl
  · intro src tag req s hr hw ⟨hsrc, hv, hstopped, hnamed⟩
    change execQpDestroy src tag req s = _
    exact command_done hr hw (pf0Only_of hsrc) ((withHandle_ok hv).trans (if_neg (by simp [hstopped, hnamed])))
  · intro src tag req s hr hw ⟨hown, hv, hen, hhalted, hstopped⟩
    change execQpStart src tag req s = _
    exact command_done hr hw (ownsPair_of hv hown) ((withHandle_ok hv).trans ((if_neg (by simp [hen, hhalted])).trans
      (if_neg (by simp [hstopped]))))
  · intro src tag req s hr hw ⟨hown, hv, hrun, hheld⟩
    change execQpStop src tag req s = _
    exact command_done hr hw (ownsPair_of hv hown) ((withHandle_ok hv).trans ((if_neg (by simp [hrun])).trans (if_pos (by simp [hheld]))))
  · intro src tag req s hr hw hown hv hrun hheld
    change execQpStop src tag req s = _
    exact command_later hr hw (ownsPair_of hv hown) ((withHandle_ok hv).trans ((if_neg (by simp [hrun])).trans (if_neg (by simp [hheld]))))
  · intro src tag req s hr hw hv
    change execQpStatus src tag req s = _
    exact command_done hr hw rfl (withHandle_ok hv)
  · intro src tag req s hr hw ⟨hsrc, hv, hok⟩
    change execQpSched src tag req s = _
    exact command_done hr hw (pf0Only_of hsrc) ((withHandle_ok hv).trans (if_neg (by simp [hok])))
  · intro src tag req s hr hw ⟨hsrc, hrecv⟩
    change execSlowpathMap src tag req s = _
    refine command_done hr hw (pf0Only_of hsrc) ?_
    simp only [hrecv]
    rfl
  · intro src tag req s hr hw ⟨hsrc, hrecv⟩
    change execWatchSet src tag req s = _
    refine command_done hr hw (pf0Only_of hsrc) ?_
    simp only [hrecv]
    rfl
  · intro src tag req s hr hw ⟨hc, hnull⟩
    change execQpCounters src tag req s = _
    exact command_done hr hw (readOrPf0_of_clearByPf0 hc) (if_pos hnull)
  · intro src tag req s hr hw ⟨hc, hnull, hv⟩
    change execQpCounters src tag req s = _
    exact command_done hr hw (readOrPf0_of_clearByPf0 hc) ((if_neg hnull).trans (withHandle_ok hv))

/-- Settles O15: the fields lie in their ranges; the sideband's configuration is its severity alone. -/
theorem eventCommandsComplete : Obligations.EventCommandsComplete := by
  unfold Obligations.EventCommandsComplete
  refine ⟨?_, ?_, ?_, ?_, ?_, ?_, ?_, ?_, ?_⟩
  · intro src tag req s hr hw ⟨hsrc, hok⟩
    change execEvtConfig src tag req s = _
    exact command_done hr hw rfl ((if_neg (by simp [hok])).trans (if_neg hsrc))
  · intro src tag req s hr hw ⟨hsrc, hok, hsev⟩
    change execEvtConfig src tag req s = _
    exact command_done hr hw rfl ((if_neg (by simp [hok])).trans ((if_pos hsrc).trans (if_neg (Nat.not_lt.mpr hsev))))
  · intro src tag req s hr hw ⟨hlo, hhi, hend⟩
    change execAlarmRead src tag req s = _
    exact command_done hr hw rfl (if_neg (by simp; omega))
  · intro src tag req s hr hw _
    change execAlarmSummary src tag req s = _
    exact command_done hr hw rfl rfl
  · intro src tag req s hr hw ⟨hc, hset⟩
    change execEvtCounters src tag req s = _
    exact command_done hr hw (readOrPf0_of_clearByPf0 hc) (if_pos hset)
  · intro src tag req s hr hw ⟨hc, hset⟩
    change execEvtCounters src tag req s = _
    exact command_done hr hw (readOrPf0_of_clearByPf0 hc) (if_neg hset)
  · intro src tag req s hr hw ⟨hlo, hhi⟩
    change execBlackboxRead src tag req s = _
    exact command_done hr hw rfl (if_neg (by simp; omega))
  · intro src tag req s hr hw hsrc
    change execBlackboxClear src tag req s = _
    exact command_done hr hw (pf0Only_of hsrc) rfl
  · intro src tag req s hr hw ⟨hsrc, hsev⟩
    change execEvtTest src tag req s = _
    exact command_done hr hw (pf0Only_of hsrc) (if_neg (Nat.not_lt.mpr hsev))
end

section

/-! SUPPORT. Which sources may issue the Stagehand's commands, and the shell of the commands of firmware and resets, which no state holds
back. -/

namespace Sys2Proof.Machine

@[simp] theorem storeWake_power_state (wt : Nat) (auto : Bool) (after : Nat) (s : State) :
    (storeWake wt auto after s).power.state = s.power.state := rfl

theorem notPf1_of {src : Source} (h : src ≠ .pf1) : notPf1 src = true := by simp [notPf1, h]

theorem notPf1Clear_of {src : Source} {clear : Bool} (h : src ≠ .pf1 ∨ clear = false) : notPf1Clear src clear = true := by
  rcases h with h | h <;> simp [notPf1Clear, h]

section
variable {src : Source} {tag words : Nat} {req : List Word} {body : State → Reply × State} {s t : State} {ws : List Word}

/-- Whoever may issue it, with enough words, has a firmware command's own rule carried out. -/
theorem fwCommand_able (hsrc : src ≠ .pf1) (hw : words ≤ req.length) :
    fwCommand src tag req words body s = runCommand true src tag req ⟨0, true, true⟩ body s := by
  simp [fwCommand, runCommand, hsrc, Nat.not_lt.mpr hw]

theorem fwCommand_done {st : Status} (hsrc : src ≠ .pf1) (hw : words ≤ req.length) (hb : body s = (.done st ws, t)) :
    fwCommand src tag req words body s = .next (answered src tag st ws t) := by
  rw [fwCommand_able hsrc hw, runCommand_done hb]

theorem fwCommand_accepted (hsrc : src ≠ .pf1) (hw : words ≤ req.length) (hb : body s = (.accepted, t)) :
    fwCommand src tag req words body s = .next (acknowledged src tag t) := by
  rw [fwCommand_able hsrc hw]
  simp [runCommand, hb, acknowledged]

theorem fwCommand_later (hsrc : src ≠ .pf1) (hw : words ≤ req.length) (hb : body s = (.later, t)) :
    fwCommand src tag req words body s = .next (finishTask (commandTask src tag) t) := by
  rw [fwCommand_able hsrc hw]
  simp [runCommand, hb]

/-- The rollback counter may be raised while no image is on trial, over an older image in the inactive bank only by force. -/
theorem not_rollbackConflict {trial magic force : Bool} {older : Prop} [Decidable older] (htrial : trial = false)
    (hforce : magic = true → older → force = true) : ¬ (trial || (magic && decide older && !force)) = true := by
  simpa [htrial] using hforce

end

end Sys2Proof.Machine

open Sys2Proof Sys2Proof.Machine

/-- Settles O16: the fields lie in their ranges, and no swap of coefficients stands in the way. -/
theorem sensingCommandsComplete : Obligations.SensingCommandsComplete := by
  unfold Obligations.SensingCommandsComplete
  refine ⟨?_, ?_, ?_, ?_, ?_, ?_, ?_, ?_, ?_, ?_⟩
  · intro src tag req s hr hw ⟨hsrc, hnz⟩
    change execSenseConfig src tag req s = _
    exact command_done hr hw (notPf1_of hsrc) (if_neg (by simpa using hnz))
  · intro src tag req s hr hw _
    change execSenseLatest src tag req s = _
    exact command_done hr hw rfl rfl
  · intro src tag req s hr hw ⟨hsrc, hpersist, hhyst, hix, hlevels⟩
    change execSensorCreate src tag req s = _
    refine command_done hr hw (notPf1_of hsrc) ((if_neg ?_).trans ?_)
    · simp only [Bool.or_eq_true, Bool.and_eq_true, decide_eq_true_eq, beq_iff_eq, not_or, not_and, Int.not_lt]
      exact ⟨⟨hpersist, hhyst⟩, fun h => hlevels h.1 h.2⟩
    · rw [nextIndex_of_hasIndex hix]
      rfl
  · intro src tag req s hr hw ⟨hsrc, hv⟩
    change execSensorDestroy src tag req s = _
    exact command_done hr hw (notPf1_of hsrc) (withHandle_ok hv)
  · intro src tag req s hr hw ⟨hsrc, hv, hlo, hhi⟩
    change execSenseRead src tag req s = _
    exact command_done hr hw (notPf1_of hsrc) ((withHandle_ok hv).trans (if_neg (by simp; omega)))
  · intro src tag req s hr hw ⟨hsrc, hrange, hwords, hswap⟩
    change execCoefWrite src tag req s = _
    exact command_done hr hw (notPf1_of hsrc) ((if_neg (by simp [hrange]; omega)).trans (if_neg (by simp [hswap])))
  · intro src tag req s hr hw hrange
    change execCoefRead src tag req s = _
    exact command_done hr hw rfl (if_neg (by simp [hrange]))
  · intro src tag req s hr hsrc hswap hsums hon
    change execCoefSwap src tag req s = _
    refine command_later hr (Nat.zero_le _) (notPf1_of hsrc) ((if_neg (by simp [hsums])).trans ((if_neg (by simp [hswap])).trans ?_))
    exact congrArg (Prod.mk Reply.later) (if_pos hon)
  · intro src tag req s hr hw hc
    change execShStatus src tag req s = _
    exact command_done hr hw (notPf1Clear_of hc) rfl
  · intro src tag req s hr hw hc
    change execSenseCounters src tag req s = _
    exact command_done hr hw (notPf1Clear_of hc) rfl

/-- Settles O17: the power state, the gate and the fields let each command go on. -/
theorem powerCommandsComplete : Obligations.PowerCommandsComplete := by
  unfold Obligations.PowerCommandsComplete
  refine ⟨?_, ?_, ?_, ?_, ?_, ?_, ?_, ?_, ?_⟩
  · intro src tag req s hr hw ⟨hsrc, htarget, hwake, hnone, hrun, hother⟩
    change execPowerState src tag req s = _
    refine command_accepted hr hw (notPf1_of hsrc) ((if_neg ?_).trans ((if_neg ?_).trans ((if_neg ?_).trans ((if_neg ?_).trans ?_))))
    · simp; omega
    · simp [hnone, hrun]
    · simp [hrun, hother.symm]
    · simp [hrun]
    · simp [hrun]
  · intro src tag req s hr hw _
    change execPowerStatus src tag req s = _
    exact command_done hr hw rfl rfl
  · intro src tag req s hr hw ⟨hsrc, hret, hrails⟩
    change execPadRelease src tag req s = _
    exact command_done hr hw (notPf1_of hsrc) ((if_neg (by simp [hret])).trans (if_neg (by simp [hrails])))
  · intro src tag req s hr hw ⟨hsrc, hg, hown, hclosed, hallowed⟩
    change execGateRequest src tag req s = _
    refine command_done hr hw (notPf1_of hsrc) ((if_neg (by omega)).trans ((if_neg (by simpa using hown)).trans ((if_neg ?_).trans
      (if_neg ?_))))
    · simpa using hclosed
    · have hlast : ¬ fieldOf (wordAt req 0) 0 8 = 72 := by omega
      simpa [hlast] using hallowed
  · intro src tag req s hr hw ⟨hlo, hhi, hend⟩
    change execThermalStatus src tag req s = _
    exact command_done hr hw rfl (if_neg (by simp; omega))
  · intro src tag req s hr hw ⟨hsrc, hh⟩
    change execThermalConfig src tag req s = _
    exact command_done hr hw (notPf1_of hsrc) (if_neg (by simp; omega))
  · intro src tag req s hr hw ⟨hsrc, hlo, hhi⟩
    change execStoreConfig src tag req s = _
    exact command_done hr hw (notPf1_of hsrc) (if_neg (by simp; omega))
  · intro src tag req s hr hw _
    change execStoreStatus src tag req s = _
    exact command_done hr hw rfl rfl
  · intro src tag req s hr hw hc
    change execPowerCounters src tag req s = _
    exact command_done hr hw (notPf1Clear_of hc) rfl

/-- Settles O18: the images and the boot record let each command go on, and a Curtain holds a reset back. -/
theorem firmwareCommandsComplete : Obligations.FirmwareCommandsComplete := by
  unfold Obligations.FirmwareCommandsComplete
  refine ⟨?_, ?_, ?_, ?_, ?_, ?_, ?_, ?_⟩
  · intro src tag req s hw hsrc hcurtain
    change execReset src tag req s = _
    exact fwCommand_later hsrc hw (if_neg (by simp [hcurtain]))
  · intro src tag req s hw hsrc hcurtain
    change execReset src tag req s = _
    exact fwCommand_later hsrc hw (if_pos (by simp [Option.isSome_iff_ne_none, hcurtain]))
  · intro src tag req s _ _
    change execFwStatus src tag req s = _
    exact runCommand_done (req := req) rfl
  · intro src tag req s hw ⟨hsrc, halign, hend, hlo, hhi, hwords, htrial, hidle⟩
    change execFwWrite src tag req s = _
    refine fwCommand_done hsrc hw ((if_neg ?_).trans ((if_neg ?_).trans (if_neg (by simp [hidle]))))
    · simp [halign]
      omega
    · simpa using htrial
  · intro src tag req s hsrc
    change execFwVerify src tag req s = _
    exact fwCommand_accepted hsrc (Nat.zero_le _) rfl
  · intro src tag req s hw ⟨hsrc, hverified, htrial⟩
    change execFwActivate src tag req s = _
    exact fwCommand_done hsrc hw ((if_neg (by simp [hverified])).trans (if_neg (by simp [htrial])))
  · intro src tag req s hw ⟨hsrc, htrial, hactive⟩
    change execFwCommit src tag req s = _
    exact fwCommand_done hsrc hw (if_neg (by simp [htrial, hactive]))
  · intro src tag req s hw ⟨hsrc, htrial, hforce⟩
    change execArbRaise src tag req s = _
    exact fwCommand_done hsrc hw (if_neg (not_rollbackConflict htrial hforce))
end

section

/-! SUPPORT. What a stage message does by its mode, and what the row of a deadline does when its timer runs out, is stopped or does not
run. -/

namespace Sys2Proof.Machine

/-! ### Stage messages -/

theorem handleMsg_of_mem {modes : List Nat} {m : StageMsg} {s t : State} {k : State → State} (h : m.mode ∈ modes)
    (hk : k (takeMsg m s) = t) : handleMsg modes m s k = .next t :=
  hk ▸ if_pos (List.contains_iff_mem.mpr h)

theorem handleMsg_of_not_mem {modes : List Nat} {m : StageMsg} {s : State} {k : State → State} (h : m.mode ∉ modes) :
    handleMsg modes m s k = .next (countLane m.hub m.plane 4 1 (takeMsg m s)) :=
  if_neg (fun hc => h (List.contains_iff_mem.mp hc))

theorem fromOwner_of {m : StageMsg} {p : Nat} {s : State} {k : State → State} (h : ownsPlane m.hub p s = true) :
    fromOwner m p s k = k s := if_pos h

/-! ### Deadlines -/

theorem firesAt_of_atDeadline {c : Instr} {timer : State → Option Nat} {k : State → State} (h : ∀ s, exec c s = atDeadline timer s k) :
    Expires c timer k := by
  refine ⟨fun t s ⟨ht, hstill⟩ => ?_, fun t s ⟨ht, hgone⟩ => ?_, fun s hnone => ?_⟩
  · simp only [h, atDeadline, ht]
    exact if_pos hstill
  · simp only [h, atDeadline, ht]
    exact if_neg hgone
  · simp only [h, atDeadline, hnone, id]

theorem firesAt_of_afterSlot {c : Instr} {limit : State → Option Nat} {k : State → State} (h : ∀ s, exec c s = afterSlot limit s k) :
    FiresAt (fun n => atSlot (n + 1)) c limit k := by
  refine ⟨fun n s ⟨hn, hstill⟩ => ?_, fun n s ⟨hn, hgone⟩ => ?_, fun s hnone => ?_⟩
  · simp only [h, afterSlot, hn]
    exact if_pos hstill
  · simp only [h, afterSlot, hn]
    exact if_neg hgone
  · simp only [h, afterSlot, hnone, id]

/-! ### A plane's corrections -/

@[simp] theorem toSlot_join (n : Nat) (s : State) : (toSlot n s).join = s.join := by
  unfold toSlot
  split <;> rfl

@[simp] theorem planeOf_toSlot (p n : Nat) (s : State) : planeOf p (toSlot n s) = planeOf p s := by
  simp [planeOf]

/-- Two rewrites of a plane that agree on it are one. -/
theorem modPlane_congr {p : Nat} {f g : PlaneMachine → PlaneMachine} {s : State} (h : f (planeOf p s) = g (planeOf p s)) :
    modPlane p f s = modPlane p g s := by
  have hl : s.join.planes.modify p f = s.join.planes.modify p g := by
    refine List.ext_getElem? (fun i => ?_)
    simp only [List.getElem?_modify]
    cases hi : s.join.planes[i]? with
    | none => rfl
    | some m =>
      by_cases hp : p = i
      · subst hp
        simpa [planeOf, hi] using h
      · simp [hp]
  simp only [modPlane, hl]

/-- The only correction that is noted is the one that is due, and none is left. -/
theorem execFineCorrectApply_of_one {p n : Nat} {d : Int} {late : Bool} {s : State} (hfine : (planeOf p s).fine = [(n, d, late)])
    (hlo : -(2 ^ 25) ≤ planeEqd p (toSlot (128 * n) s) + d) (hhi : planeEqd p (toSlot (128 * n) s) + d < 2 ^ 25) :
    execFineCorrectApply p s = .next
      (modPlane p (fun m => { m with counters := bump 3 (if late then 1 else 0) m.counters })
        (modPlane p (fun m => { m with
            rt := planeRt p (toSlot (128 * n) s), eqd := planeEqd p (toSlot (128 * n) s) + d, load := none, fine := [] })
          (toSlot (128 * n) s))) := by
  have hheld : heldEqd (planeEqd p (toSlot (128 * n) s) + d) (toSlot (128 * n) s) =
      (planeEqd p (toSlot (128 * n) s) + d, toSlot (128 * n) s) := if_pos ⟨hlo, hhi⟩
  have hlate : (if late then [(n, d, late)] else []).length = if late then 1 else 0 := by cases late <;> rfl
  simp only [execFineCorrectApply, hfine, List.foldl_nil, planeOf_toSlot, List.filter_cons, List.filter_nil, beq_self_eq_true, if_true,
    List.foldl_cons, hheld]
  refine congrArg Host.Outcome.next ?_
  rw [← hlate]
  refine congrArg (modPlane p _) (modPlane_congr ?_)
  simp [hfine]

end Sys2Proof.Machine

open Sys2Proof Sys2Proof.Machine

/-- Settles O42: a message in order reaches its own rule's last branch, and one of a wrong mode is only counted. -/
theorem joinMessagesComplete : Obligations.JoinMessagesComplete := by
  unfold Obligations.JoinMessagesComplete
  refine ⟨?_, ?_, ?_, ?_, ?_, ?_, ?_, ?_, ?_, ?_, ?_, ?_, ?_, ?_, ?_, ?_, ?_, ?_, ?_, ?_, ?_, ?_⟩
  · intro m s hm ⟨hlo, hhi, hallow, hmax, hlen, hwin, hphase⟩
    change execDiscoveryOpen m s = _
    exact handleMsg_of_mem hm ((if_neg (by omega)).trans ((if_neg (by simp [hwin])).trans (if_pos (Or.inl hphase))))
  · intro m s hm ⟨hown, howner, ⟨x, y, hdisc⟩, hlo, hhi, hfirst, hspacing, hphase, hcount⟩
    change execDiscoveryAck m s = _
    refine handleMsg_of_mem hm ((if_neg (by simp [hown])).trans ((fromOwner_of howner).trans ?_))
    simp only [hdisc]
    exact (if_neg (by omega)).trans ((if_neg (not_not_intro hphase)).trans (if_neg (Nat.not_lt.mpr hcount)))
  · intro m s hm ⟨hown, htn, hphase⟩
    change execTnAssign m s = _
    exact handleMsg_of_mem hm ((if_neg (by simp [hown])).trans ((if_neg (Nat.not_lt.mpr htn)).trans (if_pos hphase)))
  · intro m s hm ⟨hown, htn⟩
    change execTnAssign m s = _
    exact handleMsg_of_mem hm ((if_neg (by simp [hown])).trans (if_pos htn))
  · intro m s hm ⟨hown, hphase⟩
    change execReject m s = _
    exact handleMsg_of_mem hm ((if_neg (by simp [hown])).trans (if_pos hphase))
  · intro m s hm ⟨howner, hmask, hlo, hhi, hfirst, hlen, hphase⟩
    change execRangeWindow m s = _
    refine handleMsg_of_mem hm ((fromOwner_of howner).trans ((if_neg ?_).trans (if_neg (not_not_intro hphase))))
    simp only [hmask]
    simp
    omega
  · intro m s hm ⟨howner, hphase, hok, hlead⟩
    change execRangeResult m s = _
    exact handleMsg_of_mem hm ((fromOwner_of howner).trans ((if_neg (not_not_intro hphase)).trans ((if_neg (not_not_intro hok)).trans
      (if_neg (by simp [hlead])))))
  · intro m s hm ⟨howner, hphase, hfail⟩
    change execRangeResult m s = _
    exact handleMsg_of_mem hm ((fromOwner_of howner).trans ((if_neg (not_not_intro hphase)).trans (if_pos hfail)))
  · intro m s hm _
    change execActivate m s = _
    exact handleMsg_of_mem hm rfl
  · intro m s hm ⟨howner, hphase, hlo, hhi, hlead⟩
    change execFineCorrect m s = _
    exact handleMsg_of_mem hm ((fromOwner_of howner).trans ((if_neg (not_not_intro hphase)).trans ((if_neg (by omega)).trans
      (if_neg (by simp [hlead])))))
  · intro m s hm ⟨howner, hphase, hrange⟩
    change execFineCorrect m s = _
    exact handleMsg_of_mem hm ((fromOwner_of howner).trans ((if_neg (not_not_intro hphase)).trans (if_pos hrange)))
  · intro m s hm ⟨hown, hphase⟩
    change execDeregister m s = _
    refine handleMsg_of_mem hm ((if_neg ?_).trans (if_pos hphase))
    rintro ⟨h3, h⟩
    rcases hown with h1 | h1 <;> simp_all
  · intro m s hm ⟨hown, hphase⟩
    change execDeregister m s = _
    refine handleMsg_of_mem hm ((if_neg ?_).trans ((if_neg (by simp [hphase])).trans (if_pos hphase)))
    rintro ⟨h3, h⟩
    rcases hown with h1 | h1 <;> simp_all
  · intro m s hm
    change execDiscoveryOpen m s = _
    exact handleMsg_of_not_mem hm
  · intro m s hm
    change execDiscoveryAck m s = _
    exact handleMsg_of_not_mem hm
  · intro m s hm
    change execTnAssign m s = _
    exact handleMsg_of_not_mem hm
  · intro m s hm
    change execReject m s = _
    exact handleMsg_of_not_mem hm
  · intro m s hm
    change execRangeWindow m s = _
    exact handleMsg_of_not_mem hm
  · intro m s hm
    change execRangeResult m s = _
    exact handleMsg_of_not_mem hm
  · intro m s hm
    change execActivate m s = _
    exact handleMsg_of_not_mem hm
  · intro m s hm
    change execFineCorrect m s = _
    exact handleMsg_of_not_mem hm
  · intro m s hm
    change execDeregister m s = _
    exact handleMsg_of_not_mem hm

/-- Settles O43: each timer's row is that of a deadline, and what it does at it is its rule. -/
theorem joinTimersComplete : Obligations.JoinTimersComplete := by
  unfold Obligations.JoinTimersComplete
  refine ⟨?_, ?_, ?_, ?_, ?_, ?_, ?_, ?_, ?_, ?_, ?_, ?_, ?_, ?_, ?_, ?_⟩
  · exact firesAt_of_atDeadline (fun _ => rfl)
  · exact firesAt_of_atDeadline (fun _ => rfl)
  · exact firesAt_of_afterSlot (fun _ => rfl)
  · exact firesAt_of_atDeadline (fun _ => rfl)
  · exact firesAt_of_atDeadline (fun _ => rfl)
  · exact firesAt_of_atDeadline (fun _ => rfl)
  · exact firesAt_of_atDeadline (fun _ => rfl)
  · exact fun p => firesAt_of_atDeadline (fun _ => rfl)
  · exact fun p => firesAt_of_afterSlot (fun _ => rfl)
  · exact fun p => firesAt_of_atDeadline (fun _ => rfl)
  · exact fun p => firesAt_of_atDeadline (fun _ => rfl)
  · exact fun p => firesAt_of_atDeadline (fun _ => rfl)
  · intro p n s ⟨hphase, hsfn, hin⟩
    change execPlaneActivation p s = _
    simp only [execPlaneActivation, hphase, hsfn]
    exact if_pos hin
  · intro p n s ⟨hphase, hsfn, hout⟩
    change execPlaneActivation p s = _
    simp only [execPlaneActivation, hphase, hsfn]
    exact if_neg (by simp [hout])
  · intro p n d late s ⟨hfine, hlo, hhi⟩
    change execFineCorrectApply p s = _
    exact execFineCorrectApply_of_one hfine hlo hhi
  · intro p s hhold
    change execPlaneHoldApply p s = _
    exact if_neg (by simp [hhold])

/-- Settles O44: the order within an evaluation point is the one that the event carries out. -/
theorem cueAndRootEventsComplete : Obligations.CueAndRootEventsComplete := by
  unfold Obligations.CueAndRootEventsComplete
  refine ⟨?_, ?_, ?_, ?_, ?_, ?_, ?_, ?_, ?_, ?_⟩
  · intro slot lanes s hrails
    change execCueFrame slot 0 lanes s = _
    refine (if_neg (by simp [hrails])).trans ?_
    simp only [beq_self_eq_true, if_true, takeContents, measureFrames]
  · intro slot cycle lanes hcycle s hrails
    change execCueFrame slot cycle lanes s = _
    refine (if_neg (by simp [hrails])).trans ?_
    have hc : (cycle == 0) = false := by simpa using hcycle
    simp only [hc, if_neg hcycle]
  · intro slot cycle lanes s hrails
    change execCueFrame slot cycle lanes s = _
    exact if_pos (by simp [hrails])
  · intro slot s ⟨hrails, hnew⟩
    change execFreeze slot s = _
    exact if_neg (by simp [hrails, hnew])
  · intro slot s hoff
    change execFreeze slot s = _
    exact if_pos (by simpa using hoff)
  · intro s ⟨hphase, hlane⟩
    change execRootTransferDone s = _
    exact if_pos (by simp [hphase, hlane])
  · intro s hnot
    change execRootTransferDone s = _
    refine if_neg ?_
    rcases hnot with h | h <;> simp [h]
  · intro present s hphase
    change execRootHoldover present s = _
    exact if_neg (not_not_intro hphase)
  · intro l t s ⟨hlane, hripe, hother⟩
    change execRootDisplace s = _
    simp only [execRootDisplace, hlane, hripe]
    exact if_neg hother
  · intro l t s ⟨hlane, hripe, hprimary⟩
    change execRootDisplace s = _
    simp only [execRootDisplace, hlane, hripe]
    exact if_pos hprimary
end

section

/-! SUPPORT. What decides the branch of an event of sending and receiving. -/

namespace Sys2Proof.Machine

/-- Two next states by one condition. -/
theorem ite_next (c : Prop) [Decidable c] (a b : State) :
    (if c then .next a else .next b : Result) = .next (if c then a else b) := (apply_ite Host.Outcome.next c a b).symm

/-- Two rewrites of a lane's record that agree on it are one. -/
theorem modRecord_congr {lane : Nat} {f g : RxRecord → RxRecord} {s : State} (h : f (recordOf lane s) = g (recordOf lane s)) :
    modRecord lane f s = modRecord lane g s := by
  have hf : f (tabGet rxRecordReset s.rx.records lane) = g (tabGet rxRecordReset s.rx.records lane) := h
  simp only [modRecord, modRx, tabMod, hf]

end Sys2Proof.Machine

open Sys2Proof Sys2Proof.Machine

/-- Settles O45: the grants of a slot, the burst, the pending change and the drift decide what the transmit side does. -/
theorem transmitEventsComplete : Obligations.TransmitEventsComplete := by
  unfold Obligations.TransmitEventsComplete
  refine ⟨?_, ?_, ?_, ?_, ?_, ?_, ?_, ?_, ?_, ?_, ?_, ?_, ?_, ?_, ?_, ?_, ?_, ?_, ?_⟩
  · exact fun slot p s => rfl
  · exact fun slot p s => rfl
  · exact fun slot p s => rfl
  · intro x f g l v c s hoff
    change execTuneSequence x f g l v c s = _
    exact if_pos hoff
  · intro x f g l v c s ⟨hon, hburst⟩
    change execTuneSequence x f g l v c s = _
    refine (if_neg hon).trans ?_
    simp only [hburst]
  · intro x f g l v c b s ⟨hon, hburst⟩
    change execTuneSequence x f g l v c s = _
    refine (if_neg hon).trans ?_
    simp only [hburst]
  · intro x ok s hoff
    change execTableLoad x ok s = _
    exact if_neg (not_not_intro hoff)
  · intro x ok s hon
    change execTableLoad x ok s = _
    exact if_pos hon
  · exact fun x s => rfl
  · intro x s
    change execPedestalUnsettled x s = _
    exact ite_next ..
  · exact fun s => rfl
  · intro x high t s hcut
    change execTileLaserCut x high s = _
    simp only [execTileLaserCut, hcut]
    exact ite_next ..
  · intro x high s hcut
    change execTileLaserCut x high s = _
    simp only [execTileLaserCut, hcut, id]
  · exact fun sfn s => rfl
  · intro p s hempty
    change execDriftSupervision p s = _
    exact if_pos hempty
  · intro p s hrows n d held u
    change execDriftSupervision p s = _
    refine (if_neg (by simp [hrows])).trans ?_
    simp only [ite_next]
    rfl
  · exact fun i slot lanes s => rfl
  · intro i slot lanes s htrib
    change execRateControl false i slot lanes s = _
    exact if_pos htrib
  · intro i slot lanes s htrib
    change execRateControl false i slot lanes s = _
    exact if_neg (by simp [htrib])

/-- Settles O46: the slot that is open or has landed, and a lane's record, decide what the receive side does. -/
theorem receiveEventsComplete : Obligations.ReceiveEventsComplete := by
  unfold Obligations.ReceiveEventsComplete
  refine ⟨?_, ?_, ?_, ?_, ?_, ?_, ?_, ?_⟩
  · exact fun slot lights s => rfl
  · intro lane s ⟨hverdict, hinfo⟩
    change execPayloadDecode lane s = _
    refine congrArg Host.Outcome.next (modRecord_congr ?_)
    simp [decodeRecord, hverdict, hinfo]
  · intro lane s hdone
    change execPayloadDecode lane s = _
    refine congrArg Host.Outcome.next (modRecord_congr ?_)
    rcases hdone with h | h <;> simp [decodeRecord, h]
  · intro slot s hslot
    change execTagCheck s = _
    simp only [execTagCheck, hslot]
  · intro s hslot
    change execTagCheck s = _
    simp only [execTagCheck, hslot, id]
  · exact fun slot s => rfl
  · intro lane slot s hslot
    change execReconcilerEntry lane s = _
    simp only [execReconcilerEntry, hslot]
  · intro lane s hslot
    change execReconcilerEntry lane s = _
    simp only [execReconcilerEntry, hslot, id]
end

section

/-! SUPPORT. What a resize message, a selector's timer and a plain deadline do where their conditions hold. -/

namespace Sys2Proof.Machine

theorem selectorTimer_of {phase : SelPhase} {w t : Nat} {p : Pair} {s : State} (hp : pairAt w s = some p)
    (ht : p.timer = some t) (hphase : p.phase = phase) :
    selectorTimer phase w s = .next (
      let u := setPair w (some { p with phase := .steady, timer := none, aim := none }) (advanceTo t s)
      pairOutput w (if (pairTarget w p u).1 = p.selected then u else switchPair w (pairTarget w p u).1 u)) := by
  simp only [selectorTimer, hp, ht]
  exact if_neg (not_not_intro hphase)

/-- A resize message in order that names a group and matches its resize reaches the group's rule. -/
theorem resizeMsg_of {m : StageMsg} {i sfn : Nat} {s t : State} {k : Nat → Nat → State → State} (hm : m.mode = 1)
    (hbody : resizeBody m (takeMsg m s) =
      some (i, (groupOf i (takeMsg m s)).resize.remove, (groupOf i (takeMsg m s)).resize.member, sfn))
    (hk : k i sfn (takeMsg m s) = t) : resizeMsg m s k = .next t := by
  refine handleMsg_of_mem (by simp [hm]) ?_
  simp only [hbody, beq_self_eq_true, Bool.and_self, if_true, hk]

theorem resizeMsg_of_not_mem {m : StageMsg} {s : State} {k : Nat → Nat → State → State} (hm : m.mode ∉ [1]) :
    resizeMsg m s k = .next (countLane m.hub m.plane 4 1 (takeMsg m s)) := handleMsg_of_not_mem hm

theorem tellCref_eq (p : Nat) (s : State) : tellCref p s =
    forEach (fun l u => if u.pins.cref then clear 0x0806 (srcLane l) 0 0 u else hold 0x0806 (srcLane l) .major 0 0 u)
      (portLanes p s) s := by
  refine congrArg (fun f => forEach f (portLanes p s) s) (funext fun l => funext fun u => ?_)
  cases h : u.pins.cref <;> simp [holdIf]

end Sys2Proof.Machine

open Sys2Proof Sys2Proof.Machine

/-- Settles O47: the timers, the resize's phase and the pages decide what the circuits' events do. -/
theorem expressEventsComplete : Obligations.ExpressEventsComplete := by
  unfold Obligations.ExpressEventsComplete
  refine ⟨?_, ?_, ?_, ?_, ?_, ?_, ?_, ?_, ?_, ?_, ?_, ?_, ?_, ?_, ?_, ?_, ?_, ?_, ?_, ?_⟩
  · exact fun slot s => rfl
  · intro g m s hfew
    change execSdBlockClose g m s = _
    exact if_pos hfew
  · intro g m s hfull
    change execSdBlockClose g m s = _
    exact if_neg (Nat.not_lt.mpr hfull)
  · intro w p t s ⟨hp, ht, hphase⟩
    change execHoldOffExpiry w s = _
    exact selectorTimer_of hp ht hphase
  · intro w p t s ⟨hp, ht, hphase⟩
    change execWtrExpiry w s = _
    exact selectorTimer_of hp ht hphase
  · intro g t s ht
    change execAfHoldExpiry g s = _
    simp only [execAfHoldExpiry, ht]
    cases pairOfGroup g (modGroup g (fun g => { g with afUntil := none }) (advanceTo t s)) <;> rfl
  · intro m s i sfn hm hbody hphase
    change execResizePrepare m s = _
    exact resizeMsg_of hm hbody (if_pos hphase)
  · intro m s i sfn hm hbody hphase
    change execResizeCommit m s = _
    exact resizeMsg_of hm hbody (if_pos hphase)
  · intro m s i sfn hm hbody hphase
    change execResizeCancel m s = _
    exact resizeMsg_of hm hbody (if_pos hphase)
  · intro m s hm
    change execResizePrepare m s = _
    exact resizeMsg_of_not_mem hm
  · intro m s hm
    change execResizeCommit m s = _
    exact resizeMsg_of_not_mem hm
  · intro m s hm
    change execResizeCancel m s = _
    exact resizeMsg_of_not_mem hm
  · refine fun g => ⟨fun t s ht => ?_, fun s hnone => ?_⟩
    · change execTPrep g s = _
      simp only [execTPrep, ht]
    · change execTPrep g s = _
      simp only [execTPrep, hnone, id]
  · refine fun g => ⟨fun t s ht => ?_, fun s hnone => ?_⟩
    · change execTCommit g s = _
      simp only [execTCommit, ht]
    · change execTCommit g s = _
      simp only [execTCommit, hnone, id]
  · intro g s hready
    change execResizePrepared g s = _
    exact if_pos hready
  · intro g n s ⟨hphase, hsfn, hold⟩
    change execResizeSwitchover g s = _
    simp only [execResizeSwitchover, hphase, hsfn, hold]
    rfl
  · intro g n s ⟨hphase, hsfn, hold, hpast, hfar, hadd⟩
    change execResizeDone g s = _
    obtain ⟨old, hold⟩ := Option.isSome_iff_exists.mp hold
    simp only [execResizeDone, hphase, hsfn, hold]
    refine (if_neg (by omega)).trans ?_
    simp [hadd]
  · intro g n s ⟨hphase, hsfn, hold, hpast, hfar, hremove⟩
    change execResizeDone g s = _
    obtain ⟨old, hold⟩ := Option.isSome_iff_exists.mp hold
    simp only [execResizeDone, hphase, hsfn, hold]
    refine (if_neg (by omega)).trans ?_
    simp [hremove]
  · intro n s hswap
    change execPageSwapped s = _
    simp only [execPageSwapped, hswap]
  · intro s hswap
    change execPageSwapped s = _
    simp only [execPageSwapped, hswap, id]

/-- Settles O48: a port's phase, its faults and what waits at it decide what its events do. -/
theorem portEventsComplete : Obligations.PortEventsComplete := by
  unfold Obligations.PortEventsComplete
  refine ⟨?_, ?_, ?_, ?_, ?_, ?_, ?_, ?_, ?_, ?_, ?_, ?_, ?_, ?_, ?_, ?_, ?_, ?_, ?_, ?_, ?_, ?_, ?_, ?_⟩
  · refine fun p => ⟨fun t s ht => ?_, fun s hnone => ?_⟩
    · change execTTrain p s = _
      simp only [execTTrain, ht]
    · change execTTrain p s = _
      simp only [execTTrain, hnone, id]
  · intro p s hphase
    change execTrainingComplete p s = _
    exact if_neg (not_not_intro hphase)
  · intro p s hphase
    change execTrainingComplete p s = _
    exact if_pos hphase
  · intro p s ⟨hphase, hcref, hlos⟩
    change execLinkUp p s = _
    exact if_neg (by simp [hphase, hcref, hlos])
  · intro p s hnot
    change execLinkUp p s = _
    refine if_pos ?_
    rcases hnot with h | h | h <;> simp [h]
  · intro p s hphase
    change execLinkDown p s = _
    exact if_neg (not_not_intro hphase)
  · intro p s hphase
    change execLinkDown p s = _
    exact if_pos hphase
  · intro p rf lf s hphase
    change execRemoteFault p rf lf s = _
    exact if_neg (not_not_intro hphase)
  · intro p rf lf s hphase
    change execRemoteFault p rf lf s = _
    exact if_pos hphase
  · intro l p s ⟨hp, hbit⟩
    change execLaneLos l true s = _
    simp [execLaneLos, hp, hbit, holdIf]
  · intro l p s ⟨hp, hbit⟩
    change execLaneLos l false s = _
    simp [execLaneLos, hp, hbit, holdIf]
  · intro l b s hp
    change execLaneLos l b s = _
    simp only [execLaneLos, hp, id]
  · exact fun s => rfl
  · exact fun s => rfl
  · exact tellCref_eq
  · intro p data back i s ⟨hpacket, hup, hmac⟩
    change execClientFrame p data back s = _
    refine (if_neg (by simp [hpacket, hup])).trans ?_
    simp only [hmac]
  · intro p data back s ⟨hpacket, hup, hmac, hfull⟩
    change execClientFrame p data back s = _
    refine (if_neg (by simp [hpacket, hup])).trans ?_
    simp only [hmac]
    exact if_pos hfull
  · intro p data back s ⟨hpacket, hup, hmac, hroom⟩
    change execClientFrame p data back s = _
    refine (if_neg (by simp [hpacket, hup])).trans ?_
    simp only [hmac]
    exact if_neg (Nat.not_le.mpr hroom)
  · intro p data back s hnot
    change execClientFrame p data back s = _
    refine if_pos ?_
    rcases hnot with h | h <;> simp [h]
  · intro i f fs s hfifo
    change execParse i s = _
    simp only [execParse, hfifo]
    exact ite_next ..
  · intro i s hfifo
    change execParse i s = _
    simp only [execParse, hfifo, id]
  · exact fun s => rfl
  · intro p q f fs s ⟨hup, hlf, hrf, hq, hfs⟩
    change execEgressFrameStart p s = _
    refine (if_neg (by simp [hup, hlf, hrf])).trans ?_
    simp only [hq, hfs]
  · intro p s hnot
    change execEgressFrameStart p s = _
    rcases hnot with h | h | h | h
    · exact if_pos (by simp [h])
    · exact if_pos (by simp [h])
    · exact if_pos (by simp [h])
    · simp only [execEgressFrameStart, h, ite_self, id]

/-- Settles O49: a cache's fill, a held free and a stack's state decide what the engines do. -/
theorem larderEventsComplete : Obligations.LarderEventsComplete := by
  unfold Obligations.LarderEventsComplete
  refine ⟨?_, ?_, ?_, ?_, ?_, ?_, ?_, ?_, ?_, ?_, ?_, ?_, ?_, ?_⟩
  · intro k s hlow
    change execLarderRefill k s = _
    exact if_neg (Nat.not_le.mpr hlow)
  · intro k s hfull
    change execLarderRefill k s = _
    exact if_pos hfull
  · intro k s hhigh
    change execLarderSpill k s = _
    exact if_neg (Nat.not_le.mpr hhigh)
  · intro k s hlow
    change execLarderSpill k s = _
    exact if_pos hlow
  · exact fun k o s => rfl
  · exact fun t o s => rfl
  · exact fun t a l s => rfl
  · intro k t o rest u s ⟨hheld, hfree⟩
    change execHeldFreeResume k s = _
    simp only [execHeldFreeResume, hheld, hfree]
  · intro k s hheld
    change execHeldFreeResume k s = _
    simp only [execHeldFreeResume, hheld, id]
  · refine fun k => ⟨fun t s ht => ?_, fun s hnone => ?_⟩
    · change execPoolStall k s = _
      obtain ⟨t', ht', rfl⟩ := Option.map_eq_some_iff.mp ht
      simp only [execPoolStall, ht']
    · change execPoolStall k s = _
      simp only [execPoolStall, Option.map_eq_none_iff.mp hnone, id]
  · intro n s hlive
    change execHbmRetired n s = _
    exact if_neg (by rw [hlive]; exact Bool.false_ne_true)
  · intro n s hgone
    change execHbmRetired n s = _
    exact if_pos hgone
  · intro n s hgone
    change execHbmPurgeDone n s = _
    exact if_neg (by rw [hgone]; decide)
  · intro n s hlive
    change execHbmPurgeDone n s = _
    exact if_pos (by rw [hlive]; rfl)
end

section

/-! SUPPORT. What decides the branch of an event of the host queues, the event machinery, the tiles and time. -/

namespace Sys2Proof.Machine

theorem tileAt_advanceTo (t n : Nat) (s : State) : tileAt t (advanceTo n s) = tileAt t s := rfl

/-- An attempt that fails: 10 ms on, the tile waits for the next one, or three have failed. -/
theorem execTileRetrain_false {t : Nat} {s : State} (hphase : (tileAt t s).phase = .retrain) :
    execTileRetrain t false s = .next (
      let u := advanceTo ((tileAt t s).tryFrom + 10 * msCc) s
      let n := (tileAt t s).attempts + 1
      if n % 3 = 0 then
        if 3 < n && 3 ≤ (recentCycles (tileAt t s) u.clock.now).length then
          hold 0x0D04 (srcTile t) .critical 0 0 (modTile t (fun x => { x with phase := .failed, attempts := 0, record := true }) u)
        else
          modTile t (fun x => { x with
            attempts := n, cycles := recentCycles (tileAt t s) u.clock.now ++ [u.clock.now], tryFrom := u.clock.now + 100 * msCc }) u
      else modTile t (fun x => { x with attempts := n, tryFrom := u.clock.now }) u) := by
  unfold execTileRetrain threeFailed
  rw [if_neg (not_not_intro hphase), if_neg Bool.false_ne_true]
  dsimp only
  rw [tileAt_advanceTo]
  exact ite_next ..

/-! ### Time -/

@[simp] theorem popCycle_time (n depth : Nat) (m : Option (Nat × Nat)) (s : State) : (popCycle n depth m s).time = s.time := by
  unfold popCycle
  split <;> rfl

theorem advance_time (n : Nat) (s : State) : (advance n s).time = s.time := rfl

/-- A port without an entry pushes nothing. -/
theorem pushHolding_of_none {p : Nat} {s : State} (h : tabGet none s.time.holding p = none) : pushHolding p s = s := by
  simp only [pushHolding, h]

theorem foldl_pushHolding_of_none {p : Nat} {s : State} (h : ∀ q, q < p → tabGet none s.time.holding q = none) :
    (List.range p).foldl (fun s q => pushHolding q s) s = s := by
  induction p with
  | zero => rfl
  | succ n ih =>
    rw [List.range_succ, List.foldl_append, ih (fun q hq => h q (by omega))]
    exact pushHolding_of_none (h n (by omega))

/-- Alone, a port's own holding register is all that its push moves. -/
theorem execTsqPush_of_alone {p : Nat} {s : State} (h : alone p s) : execTsqPush p s = .next (pushHolding p s) := by
  obtain ⟨hbelow, -⟩ := h
  rw [execTsqPush, List.range_succ, List.foldl_append, foldl_pushHolding_of_none hbelow]
  rfl

/-- A push in a cycle in which no register has pushed. -/
theorem pushHolding_of_some {p : Nat} {e : TsEntry} {s : State} (hfirst : s.time.tsqNew.map Prod.fst ≠ some s.clock.now)
    (he : tabGet none s.time.holding p = some e) : pushHolding p s =
      (let full := decide (64 ≤ s.time.tsq.length)
      let u := modTime (fun t => { t with
        holding := tabSet none t.holding p none, tsqNew := pushMark (bitNat (!full)) s.clock.now t.tsqNew }) s
      if full then dropTimestamp u else modTime (fun t => { t with tsq := t.tsq ++ [e] }) u) := by
  simp only [pushHolding, he, if_neg hfirst]

end Sys2Proof.Machine

open Sys2Proof Sys2Proof.Machine

/-- Settles O50: the doorbell's claim, the held completions and the frames that wait decide what the queues do. -/
theorem hostQueueEventsComplete : Obligations.HostQueueEventsComplete := by
  unfold Obligations.HostQueueEventsComplete
  refine ⟨?_, ?_, ?_, ?_, ?_, ?_, ?_, ?_, ?_, ?_, ?_, ?_, ?_, ?_, ?_, ?_, ?_⟩
  · exact fun f s => rfl
  · exact fun f n s => rfl
  · intro f n v s ⟨hopen, hring, hroom⟩
    change execHqTxPi f n v s = _
    exact (if_neg (by simp [hopen, hring])).trans (if_neg (Nat.not_lt.mpr hroom))
  · intro f n v s ⟨hopen, hring, hover⟩
    change execHqTxPi f n v s = _
    exact (if_neg (by simp [hopen, hring])).trans (if_pos hover)
  · intro f n v s hnot
    change execHqTxPi f n v s = _
    refine if_pos ?_
    rcases hnot with h | h <;> simp [h]
  · intro f n v s ⟨hopen, hring, hroom⟩
    change execHqRxPi f n v s = _
    exact (if_neg (by simp [hopen, hring])).trans (if_neg (Nat.not_lt.mpr hroom))
  · intro f n v s ⟨hopen, hring, hover⟩
    change execHqRxPi f n v s = _
    exact (if_neg (by simp [hopen, hring])).trans (if_pos hover)
  · intro f n v s hnot
    change execHqRxPi f n v s = _
    refine if_pos ?_
    rcases hnot with h | h <;> simp [h]
  · intro f n v s ⟨hlive, hfunc, hrun, hvalid⟩
    change execHqCqCi f n v s = _
    exact (if_neg (by simp [hlive, hfunc, hrun])).trans (if_neg (by simp [hvalid]))
  · intro f n v s ⟨hlive, hfunc, hrun, hvalid⟩
    change execHqCqCi f n v s = _
    exact (if_neg (by simp [hlive, hfunc, hrun])).trans (if_pos (by simp [hvalid]))
  · intro n c cs s ⟨hheld, hrun, hroom⟩
    change execCqResume n s = _
    simp only [execCqResume, hheld]
    refine (if_neg (by simp [hrun, hroom])).trans ?_
    simp
  · intro n s hheld
    change execCqResume n s = _
    simp only [execCqResume, hheld, id]
  · intro ws frame r u s hplace
    change execTxDescriptor ws frame s = _
    simp only [execTxDescriptor, hplace]
  · intro ws frame u s hplace
    change execTxDescriptor ws frame s = _
    simp only [execTxDescriptor, hplace]
  · intro ds f fs n s ⟨hqueue, hpair⟩
    change execSlowPathDelivery ds s = _
    simp only [execSlowPathDelivery, hqueue, hpair]
  · intro ds f fs s ⟨hqueue, hpair⟩
    change execSlowPathDelivery ds s = _
    simp only [execSlowPathDelivery, hqueue, hpair]
  · intro ds s hqueue
    change execSlowPathDelivery ds s = _
    simp only [execSlowPathDelivery, hqueue, id]

/-- Settles O51: the window, the losses, the holdoff and a tile's phase decide what their events do. -/
theorem eventMachineryCompletes : Obligations.EventMachineryCompletes := by
  unfold Obligations.EventMachineryCompletes
  refine ⟨?_, ?_, ?_, ?_, ?_, ?_, ?_, ?_, ?_, ?_, ?_, ?_, ?_, ?_, ?_, ?_, ?_, ?_, ?_, ?_, ?_⟩
  · exact fun c src sev d e s => rfl
  · exact fun c src sev d e s => rfl
  · exact fun h c src sev d e s => rfl
  · intro src c d w s ⟨hw, hnone⟩
    change execCoalesceWindowClose src c d s = _
    simp only [execCoalesceWindowClose, hw]
    exact if_pos hnone
  · intro src c d w s ⟨hw, hsome⟩
    change execCoalesceWindowClose src c d s = _
    simp only [execCoalesceWindowClose, hw]
    refine (if_neg hsome).trans ?_
    split
    · next v hv => rw [hv]; rfl
    · next hv => rw [hv]; rfl
  · intro src c d s hw
    change execCoalesceWindowClose src c d s = _
    simp only [execCoalesceWindowClose, hw, id]
  · intro f s hlost
    change execEvtLost f s = _
    refine (if_neg hlost).trans ?_
    cases hat : (destOf f s).lostAt with
    | none => simp only [hat, Option.map_none, Option.getD_none]
    | some t => simp only [hat, Option.map_some, Option.getD_some]
  · intro f s hlost
    change execEvtLost f s = _
    exact if_pos hlost
  · intro r rs s hstaged
    change execBlackboxWrite s = _
    simp only [execBlackboxWrite, hstaged]
  · intro s hstaged
    change execBlackboxWrite s = _
    simp only [execBlackboxWrite, hstaged, id]
  · intro f v t s ⟨hend, hwait⟩
    change execMsixHoldoffEnd f v s = _
    simp only [execMsixHoldoffEnd, hend]
    exact if_pos hwait
  · intro f v t s ⟨hend, hwait⟩
    change execMsixHoldoffEnd f v s = _
    simp only [execMsixHoldoffEnd, hend]
    exact if_neg (by simp [hwait])
  · exact fun f src s => rfl
  · intro t s hphase
    change execTileLinkLost t s = _
    exact if_neg (not_not_intro hphase)
  · intro t s hphase
    change execTileLinkLost t s = _
    exact if_pos hphase
  · intro t s hphase
    change execTileDegraded t s = _
    exact if_neg (not_not_intro hphase)
  · exact fun t s => rfl
  · intro t s hphase
    change execTileRetrain t true s = _
    exact (if_neg (not_not_intro hphase)).trans (if_pos rfl)
  · intro t s ⟨hphase, hn⟩
    change execTileRetrain t false s = _
    rw [execTileRetrain_false hphase, if_neg hn]
  · rintro t s ⟨hphase, hn, hfew⟩
    change execTileRetrain t false s = _
    rw [execTileRetrain_false hphase, if_pos hn, if_neg]
    rw [Bool.and_eq_true, decide_eq_true_eq, decide_eq_true_eq]
    omega
  · rintro t s ⟨hphase, hn, htwo, hmany⟩
    change execTileRetrain t false s = _
    rw [execTileRetrain_false hphase, if_pos hn, if_pos]
    rw [Bool.and_eq_true, decide_eq_true_eq, decide_eq_true_eq]
    omega

/-- Settles O52: the queue of timestamps, the pulse and the dialogue decide what the events of time do. -/
theorem timeEventsComplete : Obligations.TimeEventsComplete := by
  unfold Obligations.TimeEventsComplete
  refine ⟨?_, ?_, ?_, ?_, ?_, ?_, ?_, ?_, ?_, ?_, ?_, ?_, ?_, ?_, ?_, ?_, ?_, ?_, ?_, ?_, ?_⟩
  · exact fun f s => rfl
  · intro s hempty
    change execTimeTsqHiRead s = _
    simp only [execTimeTsqHiRead, hempty]
  · intro e es s hq
    change execTimeTsqHiRead s = _
    simp [execTimeTsqHiRead, hq]
  · intro s hnone
    change execTsqOvfClear s = _
    simp [execTsqOvfClear, hnone]
  · intro n s hsome
    change execTsqOvfClear s = _
    simp [execTsqOvfClear, hsome]
  · intro p e s ⟨halone, he, hroom⟩
    change execTsqPush p s = _
    rw [execTsqPush_of_alone halone, pushHolding_of_some halone.2 he]
    simp [Nat.not_le.mpr hroom, modTime, bitNat]
  · intro p e s ⟨halone, he, hfull⟩
    change execTsqPush p s = _
    rw [execTsqPush_of_alone halone, pushHolding_of_some halone.2 he]
    simp [hfull, bitNat]
  · intro p s ⟨halone, hnone⟩
    change execTsqPush p s = _
    rw [execTsqPush_of_alone halone, pushHolding_of_none hnone]
    rfl
  · exact fun p s => rfl
  · intro s ⟨hon, hphase, hlate⟩
    change execPpsOutPulse s = _
    unfold execPpsOutPulse
    refine if_neg ?_
    rw [advance_time, hlate]
    simp [hon, hphase]
  · intro s hoff
    change execPpsOutPulse s = _
    unfold execPpsOutPulse
    refine if_pos ?_
    rw [advance_time]
    rcases hoff with h | h <;> simp [h]
  · refine ⟨fun t s ht => ?_, fun s hnone => ?_⟩
    · change execPpsOutFall s = _
      simp only [execPpsOutFall, ht]
    · change execPpsOutFall s = _
      simp only [execPpsOutFall, hnone, id]
  · intro ns hns s hret
    change execPpsInEdge ns s = _
    refine (if_neg (by simp [hret]; omega)).trans ?_
    exact ite_next ..
  · intro ns s hnot
    change execPpsInEdge ns s = _
    refine if_pos ?_
    rcases hnot with h | h <;> simp [h]
  · intro s ⟨hon, hfirst⟩
    change execPtmDialog true s = _
    refine (if_neg (by simp [hon])).trans ?_
    simp only [hfirst]
  · intro t s ⟨hon, hlast⟩
    change execPtmDialog true s = _
    refine (if_neg (by simp [hon])).trans ?_
    simp only [hlast]
  · exact fun s => rfl
  · intro m p t s hrun
    change execPtmResponse m p s = _
    simp only [execPtmResponse, hrun]
  · intro m p s hrun
    change execPtmResponse m p s = _
    simp only [execPtmResponse, hrun, id]
  · refine ⟨fun t s ht => ?_, fun s hnone => ?_⟩
    · change execPtmFail s = _
      obtain ⟨t', ht', rfl⟩ := Option.map_eq_some_iff.mp ht
      simp only [execPtmFail, ht']
    · change execPtmFail s = _
      simp only [execPtmFail, Option.map_eq_none_iff.mp hnone, id]
  · exact fun s => rfl
end

section

/-! SUPPORT. What becomes of a key record by its kind, and what decides the branch of an event of key agreement and security. -/

namespace Sys2Proof.Machine

/-! ### Key records -/

/-- A row of the record kinds handles its record. -/
theorem exec_of_mem_recordRows {c : (Nat → Nat → Instr) × Nat} (hc : c ∈ recordRows) (f n : Nat) (s : State) :
    exec (c.1 f n) s = handleRecord c.2 f n s := by
  simp only [recordRows, List.mem_cons, List.not_mem_nil, or_false] at hc
  rcases hc with rfl | rfl | rfl | rfl <;> rfl

theorem handleRecord_of_none {kind f n : Nat} {s : State} (h : completeRecord kind f n s = none) :
    handleRecord kind f n s = .next s := by
  simp only [handleRecord, h]

/-- While the DRBG is blocked a record whose signatures verify waits. -/
theorem handleRecord_of_blocked {kind f n : Nat} {q : KeyRecord} {s : State} (h : completeRecord kind f n s = some q)
    (hent : s.sec.entropy ≠ .running) : handleRecord kind f n s =
      .next (orBad q (fun s => { s with sec := { s.sec with waitingRecords := s.sec.waitingRecords ++ [q] } }) s) := by
  simp only [handleRecord, h, orBad]
  cases recordVerifies q
  · rfl
  · exact if_pos hent

theorem completeRecord_kind {kind f n : Nat} {q : KeyRecord} {s : State} (h : completeRecord kind f n s = some q) : q.kind = kind := by
  have hq := List.find?_some h
  simp only [Bool.and_eq_true, beq_iff_eq] at hq
  exact hq.1.1

/-- A record that can be processed: what its kind makes of it is what `post` gives. -/
theorem handleRecord_of_ready {kind f n : Nat} {q : KeyRecord} {s : State} {post : State → State} (h : recordReady kind f n q s)
    (hpost : q.kind = kind → processRecord q s = post s) : handleRecord kind f n s = .next (orBad q post s) := by
  obtain ⟨hq, hent⟩ := h
  simp only [handleRecord, hq, orBad, ← hpost (completeRecord_kind hq)]
  cases recordVerifies q
  · rfl
  · exact if_neg (not_not_intro hent)

theorem processRecord_offer {q : KeyRecord} {s : State} (h : q.kind = 0x0A01) : processRecord q s = takeOffer q s := if_pos h

theorem processRecord_answer {q : KeyRecord} {s : State} (h : q.kind = 0x0A02) : processRecord q s = takeAnswer q s := by
  simp [processRecord, h]

theorem processRecord_hubAnswer {q : KeyRecord} {s : State} (h : q.kind = 0x0A03) : processRecord q s = takeHubAnswer q s := by
  simp [processRecord, h]

theorem processRecord_groupKey {q : KeyRecord} {s : State} (h : q.kind = 0x0A04) : processRecord q s = takeGroupKey q s := by
  simp [processRecord, h]

/-- The slot at which an active epoch is rolled. -/
theorem toSlot_rollInterval (e : KeyEpoch) (s : State) :
    toSlot (128 * e.act + 2 ^ (policyFor s.clock.slot s).rollLog2) s = rollDue e s := rfl

/-! ### The firewall's rules -/

theorem applyRuleWrite_of_cons {s : State} {k : Nat} {r : FwRule} {ws : List (Nat × FwRule)} (h : s.sec.ruleWrites = (k, r) :: ws) :
    applyRuleWrite s = { s with sec := { s.sec with
      rules := if bitOf (tabGet fwRuleReset s.sec.rules k).flags 3 then s.sec.rules else tabSet fwRuleReset s.sec.rules k r
      oldFlight := s.sec.inFlight, inFlight := 0, ruleAt := s.clock.now } } := by
  simp only [applyRuleWrite, h]

end Sys2Proof.Machine

open Sys2Proof Sys2Proof.Machine

/-- Settles O53: a record's kind, its association's state, and the epochs of a key decide what the events do. -/
theorem keyEventsComplete : Obligations.KeyEventsComplete := by
  unfold Obligations.KeyEventsComplete
  refine ⟨?_, ?_, ?_, ?_, ?_, ?_, ?_, ?_, ?_, ?_, ?_, ?_, ?_, ?_, ?_, ?_, ?_, ?_, ?_, ?_, ?_, ?_, ?_, ?_, ?_, ?_, ?_,
    ?_, ?_, ?_⟩
  · intro c hc f n s hnone
    rw [exec_of_mem_recordRows hc]
    exact handleRecord_of_none hnone
  · intro c hc f n q s ⟨hq, hent⟩
    rw [exec_of_mem_recordRows hc]
    exact handleRecord_of_blocked hq hent
  · intro f n q s hready
    change execOffer f n s = _
    exact handleRecord_of_ready hready processRecord_offer
  · intro f n q i s ⟨hready, hi⟩
    change execAnswer f n s = _
    refine handleRecord_of_ready hready (fun hkind => (processRecord_answer hkind).trans ?_)
    simp only [takeAnswer, hi]
  · intro f n q s ⟨hready, hnone⟩
    change execAnswer f n s = _
    refine handleRecord_of_ready hready (fun hkind => (processRecord_answer hkind).trans ?_)
    simp only [takeAnswer, hnone]
  · intro f n q s ⟨hready, hidle, hnone, hid, hepoch⟩
    change execHubAnswer f n s = _
    exact handleRecord_of_ready hready (fun hkind => (processRecord_hubAnswer hkind).trans
      ((if_pos ⟨hidle, by simp [hnone]⟩).trans (if_neg (by simp [hid, hepoch]))))
  · intro f n q s ⟨hready, hidle, hnone, hbad⟩
    change execHubAnswer f n s = _
    exact handleRecord_of_ready hready (fun hkind => (processRecord_hubAnswer hkind).trans
      ((if_pos ⟨hidle, by simp [hnone]⟩).trans (if_pos (by simpa using hbad))))
  · intro f n q s ⟨hready, hheld⟩
    change execHubAnswer f n s = _
    refine handleRecord_of_ready hready (fun hkind => (processRecord_hubAnswer hkind).trans (if_neg ?_))
    rcases hheld with h | h <;> simp [h]
  · intro f n q s ⟨hready, htn, hfield⟩
    change execGroupKey f n s = _
    refine handleRecord_of_ready hready (fun hkind => (processRecord_groupKey hkind).trans ((if_neg ?_).trans ?_))
    · exact not_or.mpr ⟨not_not_intro htn, Nat.not_lt.mpr hfield⟩
    · split <;> simp_all
  · intro f n q s ⟨hready, hbad⟩
    change execGroupKey f n s = _
    exact handleRecord_of_ready hready (fun hkind => (processRecord_groupKey hkind).trans (if_pos hbad))
  · intro m s hm ⟨hown, hok⟩
    change execKeySeg m s = _
    refine handleMsg_of_mem hm ((if_neg ?_).trans (if_pos hok))
    rintro ⟨h3, h⟩
    rcases hown with h1 | h1 <;> simp_all
  · intro m s hm ⟨hown, hbad⟩
    change execKeySeg m s = _
    refine handleMsg_of_mem hm ((if_neg ?_).trans (if_neg (by simp [hbad])))
    rintro ⟨h3, h⟩
    rcases hown with h1 | h1 <;> simp_all
  · intro m s hm
    change execKeySeg m s = _
    exact handleMsg_of_not_mem hm
  · intro f r q s hq
    change execKeyRecordTimeout f r s = _
    simp only [execKeyRecordTimeout, hq]
  · intro f r s hnone
    change execKeyRecordTimeout f r s = _
    simp only [execKeyRecordTimeout, hnone, id]
  · intro k x y s hpair
    change execKeyEpochErase k s = _
    simp only [execKeyEpochErase, hpair]
  · intro k s hnone
    change execKeyEpochErase k s = _
    simp only [execKeyEpochErase, hnone, id]
  · intro e s ⟨he, hstandby⟩
    change execKeyRollInterval selfKey s = _
    simp only [execKeyRollInterval, he, toSlot_rollInterval]
    exact (if_neg (by simp [hstandby])).trans (if_pos trivial)
  · intro k e s ⟨he, hstandby⟩
    change execKeyRollInterval k s = _
    simp only [execKeyRollInterval, he, toSlot_rollInterval]
    exact if_pos hstandby
  · intro k e i hk s ⟨he, hstandby, hi, hidle⟩
    change execKeyRollInterval k s = _
    simp only [execKeyRollInterval, he, toSlot_rollInterval, hi]
    exact (if_neg (by simp [hstandby])).trans ((if_neg hk).trans (if_pos hidle))
  · intro k e hk s ⟨he, hstandby, hbusy⟩
    change execKeyRollInterval k s = _
    simp only [execKeyRollInterval, he, toSlot_rollInterval]
    refine (if_neg (by simp [hstandby])).trans ((if_neg hk).trans ?_)
    split
    · rfl
    · next i hi => exact if_neg (hbusy i hi)
  · intro k s hnone
    change execKeyRollInterval k s = _
    simp only [execKeyRollInterval, hnone, id]
  · intro i t s ⟨ht, hfew⟩
    change execTAns i s = _
    simp only [execTAns, ht]
    exact if_pos hfew
  · intro i t s ⟨ht, hmany⟩
    change execTAns i s = _
    simp only [execTAns, ht]
    exact if_neg (Nat.not_lt.mpr hmany)
  · intro i t s ht
    change execWithdrawnReoffer i s = _
    simp only [execWithdrawnReoffer, ht]
  · intro n s hnone
    change execSequenceResume n s = _
    exact if_pos hnone
  · intro n v s ⟨hsome, hv⟩
    change execSequenceResume n s = _
    refine (if_neg (by rw [hsome]; exact Bool.false_ne_true)).trans ?_
    simp only [hv]
  · intro v s hv
    change execSeqRecordCommit true s = _
    simp only [execSeqRecordCommit, hv]
    exact if_pos trivial
  · intro v s hv
    change execSeqRecordCommit false s = _
    simp only [execSeqRecordCommit, hv]
    exact if_neg Bool.false_ne_true
  · intro ok s hnone
    change execSeqRecordCommit ok s = _
    simp only [execSeqRecordCommit, hnone, id]

/-- Settles O54: the entropy source's state, the serial number, the rules and the accesses in flight decide the branch. -/
theorem securityEventsComplete : Obligations.SecurityEventsComplete := by
  unfold Obligations.SecurityEventsComplete
  refine ⟨?_, ?_, ?_, ?_, ?_, ?_, ?_, ?_, ?_, ?_, ?_, ?_, ?_, ?_, ?_, ?_, ?_, ?_, ?_, ?_, ?_⟩
  · exact fun s => rfl
  · intro s hfailed
    change execEntropyRetest true s = _
    rw [execEntropyRetest, if_neg (by simp [hfailed]), if_pos hfailed]
    rfl
  · intro s hfailed
    change execEntropyRetest false s = _
    rw [execEntropyRetest, if_neg (by simp [hfailed]), if_pos hfailed]
    rfl
  · intro s ⟨hfailed, hrun⟩
    change execEntropyRetest true s = _
    rw [execEntropyRetest, if_neg hrun, if_neg hfailed]
    rfl
  · intro s ⟨hfailed, hrun⟩
    change execEntropyRetest false s = _
    rw [execEntropyRetest, if_neg hrun, if_neg hfailed]
    rfl
  · intro b s hrun
    change execEntropyRetest b s = _
    exact if_pos hrun
  · intro s ⟨hrun, hmany⟩
    change execDrbgReseed s = _
    rw [execDrbgReseed, if_neg (not_not_intro hrun), if_neg (Nat.not_lt.mpr hmany)]
  · intro s ⟨hrun, hfew⟩
    change execDrbgReseed s = _
    rw [execDrbgReseed, if_neg (not_not_intro hrun), if_pos hfew]
    rfl
  · intro s hblocked
    change execDrbgReseed s = _
    exact if_pos hblocked
  · intro n s hserial
    change execDebugAuthorisation n true s = _
    exact if_pos ⟨hserial.symm, rfl⟩
  · intro n s hserial
    change execDebugAuthorisation n true s = _
    exact if_neg (fun h => hserial h.1.symm)
  · intro n s
    change execDebugAuthorisation n false s = _
    exact if_neg (fun h => Bool.false_ne_true h.2)
  · intro sec i w bar x len s hallowed
    change execFirewallAccess sec i w bar x len s = _
    exact if_pos (by simpa using hallowed)
  · intro i bar x len s hrefused
    change execFirewallAccess false i true bar x len s = _
    exact (if_neg (by simp [hrefused])).trans rfl
  · intro i bar x len s hrefused
    change execFirewallAccess false i false bar x len s = _
    exact (if_neg (by simp [hrefused])).trans rfl
  · intro k b l f s ⟨hfirst, hopen⟩
    change execFwRuleWrite k b l f s = _
    refine (if_pos (by simp [hfirst])).trans (congrArg Host.Outcome.next ?_)
    rw [applyRuleWrite_of_cons (k := k) (r := ⟨b, l, f &&& 0xFF⟩) (ws := []) (by simp [hfirst])]
    simp [hopen, hfirst]
  · intro k b l f s ⟨hfirst, hlocked⟩
    change execFwRuleWrite k b l f s = _
    refine (if_pos (by simp [hfirst])).trans (congrArg Host.Outcome.next ?_)
    rw [applyRuleWrite_of_cons (k := k) (r := ⟨b, l, f &&& 0xFF⟩) (ws := []) (by simp [hfirst])]
    simp [hlocked, hfirst]
  · intro k b l f s hbusy
    change execFwRuleWrite k b l f s = _
    exact if_neg (by simpa using hbusy)
  · intro n s hnone
    change execFirewallDrain n s = _
    simp only [execFirewallDrain, hnone]
  · intro n w ws s ⟨hw, hdone⟩
    change execFirewallDrain n s = _
    simp only [execFirewallDrain, hw, Nat.sub_eq_zero_of_le hdone, Nat.lt_irrefl, if_false]
    rfl
  · intro n w ws s ⟨hw, habort⟩
    change execFirewallDrain n s = _
    simp only [execFirewallDrain, hw, if_pos (Nat.sub_pos_of_lt habort)]

/-- Settles O55: the chain's state, the last good sample, the waits and a character's bits decide the branch. -/
theorem sensingEventsComplete : Obligations.SensingEventsComplete := by
  unfold Obligations.SensingEventsComplete
  refine ⟨?_, ?_, ?_, ?_, ?_, ?_, ?_, ?_, ?_, ?_, ?_, ?_, ?_, ?_, ?_, ?_⟩
  · intro bits leads ov s hoff
    change execSenseOutput bits leads ov s = _
    exact if_pos (by simp [hoff])
  · intro bits leads ov s hon
    change execSenseOutput bits leads ov s = _
    exact if_neg (by simp [hon])
  · intro e hfar s
    change execRcPeriodCapture e s = _
    exact if_pos hfar
  · intro e hnear s
    change execRcPeriodCapture e s = _
    exact if_neg (Nat.not_lt.mpr hnear)
  · intro i t hlo hhi s ⟨ht, hfirst⟩
    change execSenseFallback i s = _
    simp only [execSenseFallback, ht]
    exact if_neg (by simp [hfirst]; omega)
  · intro i s hnone
    change execSenseFallback i s = _
    simp only [execSenseFallback, hnone, id]
  · intro s hwake
    change execIslandWait s = _
    exact if_pos (by simpa using hwake)
  · intro s ⟨hwake, hheld⟩
    change execIslandWait s = _
    exact if_neg (by simp [hwake, hheld])
  · exact fun s => rfl
  · intro a s ha
    change execSmbusAddressMatch a s = _
    exact if_pos ha
  · intro a s ha
    change execSmbusAddressMatch a s = _
    exact if_neg ha
  · intro xs s hoff
    change execUartCharacter xs s = _
    exact if_pos (by simpa using hoff)
  · intro xs hstart s ⟨hbreak, hlow⟩
    change execUartCharacter xs s = _
    exact (if_neg (by simp [hbreak, hlow])).trans (if_pos hstart)
  · intro xs hstart hstop s ⟨hbreak, hlow⟩
    change execUartCharacter xs s = _
    exact (if_neg (by simp [hbreak, hlow])).trans ((if_neg (by simp [hstart])).trans (if_pos hstop))
  · intro xs hstart hstop s ⟨hbreak, hlow⟩
    change execUartCharacter xs s = _
    refine (if_neg (by simp [hbreak, hlow])).trans ((if_neg (by simp [hstart])).trans ((if_neg (by simp [hstop])).trans ?_))
    split <;> rfl
  · exact fun s => rfl
end

section

/-! SUPPORT. What the loss of AUX does by the power state. -/

namespace Sys2Proof.Machine

/-- Outside STANDBY the loss of AUX is a trigger. -/
theorem auxGone_of_ne_standby {s : State} (h : s.power.state ≠ .standby) :
    auxGone s = trigger 4 (modPower (fun p => { p with aux := false }) s) :=
  if_pos (by simp only [bne_iff_ne, ne_eq]; exact h)

/-- In STANDBY it ends a power-up that runs, and every pad loses its retention. -/
theorem auxGone_of_standby {s : State} (h : s.power.state = .standby) : auxGone s =
    (let v := modPower (fun p => { p with aux := false }) s
    let u := if s.start.vinGoodAt.isSome || s.start.railsUp then enterStandby v else v
    { u with pins := { u.pins with retained := false, pcieRetained := false } }) :=
  if_neg (by simp only [bne_iff_ne, ne_eq, not_not]; exact h)

end Sys2Proof.Machine

open Sys2Proof Sys2Proof.Machine

/-- Settles O56: the power state, the transition, the trigger and the gate's owner decide what the events do. -/
theorem powerEventsComplete : Obligations.PowerEventsComplete := by
  unfold Obligations.PowerEventsComplete
  refine ⟨?_, ?_, ?_, ?_, ?_, ?_, ?_, ?_, ?_, ?_, ?_, ?_, ?_, ?_, ?_, ?_, ?_, ?_, ?_, ?_, ?_, ?_, ?_, ?_, ?_⟩
  · intro s hstate
    change execWakeN s = _
    rcases hstate with h | h <;> simp only [execWakeN, h]
  · intro s ⟨hstandby, hdormant⟩
    change execWakeN s = _
    cases h : s.power.state <;> simp_all [execWakeN]
  · refine ⟨fun t s ht => ?_, fun s hnone => ?_⟩
    · change execIslandTimerWake s = _
      simp only [execIslandTimerWake, ht]
    · change execIslandTimerWake s = _
      simp only [execIslandTimerWake, hnone, id]
  · exact fun s => rfl
  · exact fun s => rfl
  · intro c hc
    have hgone : ∀ s, (c = .lossOfAux → s.power.vin = true) → exec c s = .next (auxGone s) := by
      intro s hvin
      rcases hc with rfl | rfl
      · rfl
      · exact if_pos (hvin rfl)
    refine ⟨fun s ⟨hstate, hvin⟩ => ?_, fun s ⟨hstate, hat, hrails, hvin⟩ => ?_, fun s ⟨hstate, hup, hvin⟩ => ?_⟩
    · rw [hgone s hvin, auxGone_of_ne_standby hstate]
    · rw [hgone s hvin, auxGone_of_standby hstate]
      simp only [hat, hrails, Option.isSome_none, Bool.or_false, Bool.false_eq_true, if_false]
    · rw [hgone s hvin, auxGone_of_standby hstate]
      have hcond : (s.start.vinGoodAt.isSome || s.start.railsUp) = true := by
        rcases hup with h | h
        · simp [Option.isSome_iff_ne_none.mpr h]
        · simp [h]
      simp only [hcond, if_true]
  · intro s hvin
    change execLossOfAux s = _
    exact if_neg (by rw [hvin]; exact Bool.false_ne_true)
  · exact fun n s => rfl
  · intro t s ⟨ht, htarget, hrun, hwait⟩
    change execCorePowerOff s = _
    simp only [execCorePowerOff, ht]
    refine (if_neg (by simp [htarget, hrun])).trans ?_
    rw [if_pos hwait]
    rfl
  · intro t s ⟨ht, htarget, hrun, hwait⟩
    change execCorePowerOff s = _
    simp only [execCorePowerOff, ht]
    refine (if_neg (by simp [htarget, hrun])).trans ?_
    rw [if_neg (by rw [hwait]; exact Bool.false_ne_true)]
    rfl
  · intro t s ⟨ht, hnot⟩
    change execCorePowerOff s = _
    simp only [execCorePowerOff, ht]
    refine if_pos ?_
    rcases hnot with h | h <;> simp [h]
  · intro s hnone
    change execCorePowerOff s = _
    simp only [execCorePowerOff, hnone, id]
  · intro t s ⟨ht, hstate, hrun, htarget⟩
    change execPowerTransitionDone s = _
    simp only [execPowerTransitionDone, ht]
    exact (if_pos hstate).trans ((if_neg (by simp [hrun])).trans (if_pos htarget))
  · intro t s ⟨ht, hstate, hrun, htarget⟩
    change execPowerTransitionDone s = _
    simp only [execPowerTransitionDone, ht]
    exact (if_pos hstate).trans ((if_neg (by simp [hrun])).trans (if_neg htarget))
  · intro t s ht hstate held u hdone
    change execPowerTransitionDone s = _
    simp only [execPowerTransitionDone, ht]
    exact (if_neg hstate).trans (if_neg (by rw [hdone]; exact Bool.false_ne_true))
  · intro t s ⟨ht, hwait⟩
    change execPowerDeferred s = _
    simp only [execPowerDeferred, ht]
    exact if_neg (by simp [hwait])
  · intro s hnone
    change execPowerDeferred s = _
    simp only [execPowerDeferred, hnone, id]
  · refine ⟨fun t s ht => ?_, fun s hnone => ?_⟩
    · change execPowerStateTimeout s = _
      obtain ⟨t', ht', rfl⟩ := Option.map_eq_some_iff.mp ht
      simp only [execPowerStateTimeout, ht']
    · change execPowerStateTimeout s = _
      simp only [execPowerStateTimeout, Option.map_eq_none_iff.mp hnone, id]
  · intro g s hnone
    change execGateRelease g s = _
    simp only [execGateRelease, hnone]
  · intro g c s hsome
    change execGateRelease g s = _
    simp only [execGateRelease, hsome]
  · intro c t s ⟨ht, hstate⟩
    change execCurtainStart s = _
    simp only [execCurtainStart, ht]
    exact if_neg hstate
  · intro c t s ⟨ht, hstate⟩
    change execCurtainStart s = _
    simp only [execCurtainStart, ht]
    exact if_pos hstate
  · intro s hnone
    change execCurtainStart s = _
    simp only [execCurtainStart, hnone, id]
  · intro c s hc
    change execCurtainStop s = _
    simp only [execCurtainStop, hc]
  · intro s hnone
    change execCurtainStop s = _
    simp only [execCurtainStop, hnone, id]

/-- Settles O57: the readings, the charge and the gauge decide what the events of heat and the store do. -/
theorem thermalAndStoreEventsComplete : Obligations.ThermalAndStoreEventsComplete := by
  unfold Obligations.ThermalAndStoreEventsComplete
  refine ⟨?_, ?_, ?_, ?_, ?_, ?_, ?_, ?_, ?_, ?_, ?_, ?_, ?_, ?_, ?_, ?_, ?_, ?_, ?_, ?_, ?_, ?_, ?_, ?_, ?_, ?_, ?_⟩
  · intro x s hnew
    change execLaserHeaterFault x s = _
    simp only [execLaserHeaterFault, modPower, hnew, Bool.false_eq_true, if_false]
  · exact fun x s => rfl
  · exact fun p s => rfl
  · intro p s honce
    change execDemuxUnsettled p s = _
    exact if_neg (by simp [honce])
  · intro p s honce
    change execDemuxUnsettled p s = _
    exact if_pos (by simp [honce])
  · exact fun p s => rfl
  · intro d t s ht
    change execCoolantCondition d s = _
    simp only [execCoolantCondition, ht]
  · intro d s hnone
    change execCoolantCondition d s = _
    simp only [execCoolantCondition, hnone]
  · intro rs s hcool
    change execJunctionHigh rs s = _
    exact if_pos hcool
  · intro rs s hhot
    change execJunctionHigh rs s = _
    exact if_neg (Int.not_le.mpr hhot)
  · intro rs s hcool
    change execJunctionHighClear rs s = _
    exact if_neg (by simpa using hcool)
  · intro rs s hcool
    change execThermalStop rs s = _
    exact if_pos hcool
  · intro rs s hhot
    change execThermalStop rs s = _
    exact if_neg (Int.not_le.mpr hhot)
  · intro s ⟨hruns, hvin, htrigger, hcurtain⟩
    change execChargeStart s = _
    refine if_neg ?_
    rcases hruns with h | h | h | h <;> simp [h, hvin, htrigger, hcurtain]
  · intro s hnot
    change execChargeStart s = _
    refine if_pos ?_
    rcases hnot with h | h | h <;> simp [h]
  · intro dq s hidle
    change execCapacitanceMeasure dq s = _
    exact if_pos (by simp [hidle])
  · intro dq s hcharging g learn missing u v
    change execCapacitanceMeasure dq s = _
    exact if_neg (by simp [hcharging])
  · intro s hidle
    change execChargeComplete s = _
    exact if_pos (by simp [hidle])
  · intro s hcharging g u v
    change execChargeComplete s = _
    exact if_neg (by simp [hcharging])
  · intro s hcharging
    change execChargeTimeout s = _
    exact if_neg (by simp [hcharging])
  · intro s hidle
    change execChargeTimeout s = _
    exact if_pos (by simp [hidle])
  · intro s ⟨hcurtain, hsmall⟩
    change execGaugeReanchor s = _
    exact if_neg (by simp [hcurtain]; omega)
  · intro s hnot
    change execGaugeReanchor s = _
    exact if_pos (by simpa using hnot)
  · intro s hgap
    change execGaugeSkew s = _
    exact if_neg (not_le.mpr hgap)
  · intro s hgap
    change execGaugeSkew s = _
    exact if_pos hgap
  · intro s hgap
    change execGaugeSkewClear s = _
    exact if_neg (not_le.mpr hgap)
  · intro s hgap
    change execGaugeSkewClear s = _
    exact if_pos hgap

/-- Settles O58: the pins, the causes, the images and the attempts decide what the events of start-up do. -/
theorem startEventsComplete : Obligations.StartEventsComplete := by
  unfold Obligations.StartEventsComplete
  refine ⟨?_, ?_, ?_, ?_, ?_, ?_, ?_, ?_, ?_, ?_, ?_, ?_, ?_, ?_, ?_, ?_, ?_, ?_, ?_, ?_, ?_, ?_, ?_, ?_, ?_, ?_, ?_,
    ?_, ?_, ?_, ?_⟩
  · exact fun s => rfl
  · intro s ⟨hgood, hdown⟩
    change execRailUp s = _
    exact if_neg (by simp [Option.isSome_iff_ne_none.mp hgood, hdown])
  · intro s hnot
    change execRailUp s = _
    refine if_pos ?_
    rcases hnot with h | h <;> simp [h]
  · intro reads r hset s
    change execStrapSample reads s = _
    simp only [execStrapSample, hset]
    rfl
  · intro reads r hset hlast s
    change execStrapSample reads s = _
    simp only [execStrapSample, hset, hlast]
    rfl
  · intro s ⟨hcause, haux⟩
    change execPowerOnReset s = _
    exact if_pos (by simp [hcause, haux])
  · intro s hnot
    change execPowerOnReset s = _
    refine if_neg ?_
    rcases hnot with h | h <;> simp [h]
  · intro s hcurtain
    change execResetN s = _
    exact if_neg (by simp [hcurtain])
  · intro s hcurtain
    change execResetN s = _
    exact if_pos hcurtain
  · exact fun s => rfl
  · exact fun s => rfl
  · exact fun n s => rfl
  · exact fun s => rfl
  · exact fun f s => rfl
  · intro s hret
    change execPerstN false s = _
    exact if_neg (by simp [hret])
  · intro s hret
    change execPerstN false s = _
    exact if_pos (by simp [hret])
  · exact fun s => rfl
  · exact fun a b x y s => rfl
  · exact fun s => rfl
  · exact fun s => rfl
  · intro n lost bad s ⟨hrun, hrec, himage, hstrong, hrails, htest⟩
    change execZordinRunning n lost bad s = _
    exact if_neg (by simp [hrun, hrec, Option.isSome_iff_ne_none.mp himage, hstrong, hrails, htest])
  · intro n lost bad s hnot
    change execZordinRunning n lost bad s = _
    refine if_pos ?_
    rcases hnot with h | h | h | h | h | h <;> simp [h]
  · intro s hphase
    change execSyncLock s = _
    exact if_pos hphase
  · intro s hphase
    change execSyncLock s = _
    exact if_neg hphase
  · intro t s ⟨ht, hphase⟩
    change execSyncRefAbsent s = _
    simp only [execSyncRefAbsent, ht, hphase]
  · intro s hnot
    change execSyncRefAbsent s = _
    unfold execSyncRefAbsent
    split <;> simp_all
  · intro k ok s ⟨hphase, htrained, hretired, hfew, hok⟩
    change execHbmTraining k ok s = _
    exact (if_neg (by simp_all)).trans (if_pos (by simpa using hok))
  · intro k s
    dsimp only
    intro hphase htrained hretired htwo
    change execHbmTraining k false s = _
    exact (if_neg (by simp_all)).trans (if_neg (by simp_all))
  · intro ok s hidle
    change execFwVerifyDone ok s = _
    exact if_pos (by simp [hidle])
  · intro ok s ⟨hverifying, hfault⟩
    change execFwVerifyDone ok s = _
    refine (if_neg (by simp [hverifying])).trans ?_
    simp only [modStart_sec, hfault]
  · intro ok r s ⟨hverifying, hfault⟩
    change execFwVerifyDone ok s = _
    refine (if_neg (by simp [hverifying])).trans ?_
    simp only [modStart_sec, hfault]
end
